-- ==== Sys2Proof/Word.lean ====
section
/-! DEFINITION. The word types of the part and the plain containers of its state: two of a kind (one for each
projector), three (one for each station link), four (one for each shutter or lighting group). -/

namespace Sys2Proof

/-- A byte on a station link or on the dimmer bus. -/
abbrev Byte := BitVec 8

/-- A two-byte field of a frame, sent most significant byte first (R192). -/
abbrev Half := BitVec 16

/-- A pack's serial number (R137). -/
abbrev Serial := BitVec 24

/-- One of a kind for projector A and one for projector B. -/
structure Pair (α : Type) where
  a : α
  b : α
  deriving DecidableEq, Repr

/-- One of a kind for each of the connectors A, B and H. -/
structure Trio (α : Type) where
  a : α
  b : α
  h : α
  deriving DecidableEq, Repr

/-- Four of a kind: PORT_A, PORT_B, OBS_1, OBS_2, or HOUSE, STAGE, AISLE, WORK. -/
structure Quad (α : Type) where
  w : α
  x : α
  y : α
  z : α
  deriving DecidableEq, Repr

end Sys2Proof
end

