-- ==== Sys2Proof/Syntax.lean ====
section
/-! DEFINITION. The commands of the part: one constructor of `Instr` for each row of spec/opcode_table.json, and the
requests a frame can carry (R194). A request's parameters are the raw codes of its frame, so that the values out of
range of R198 are commands as well. -/

namespace Sys2Proof

/-- The projectors, and what is held once for each. -/
inductive Projector where
  | a | b
  deriving DecidableEq, Repr

/-- The three connectors of the station links (R167). -/
inductive Connector where
  | a | b | h
  deriving DecidableEq, Repr

/-- The roles a panel can claim (R172). -/
inductive Role where
  | a | b | h
  deriving DecidableEq, Repr

/-- The four shutters (R99). -/
inductive Shutter where
  | portA | portB | obs1 | obs2
  deriving DecidableEq, Repr

/-- The fire sources that are inputs of their own: two pull stations and the fusible-link loop (R111). -/
inductive FireInput where
  | pull1 | pull2 | loop
  deriving DecidableEq, Repr

/-- A lighting action as the write form of an entry carries it: mask, level, fade (R195). -/
structure ActionForm where
  mask : Byte
  level : Byte
  fade : Half
  deriving DecidableEq, Repr

/-- The write form of a plan entry record, 21 bytes (R195). -/
structure EntryForm where
  label : Byte
  projector : Byte
  feet : Half
  cue : Byte
  lead : Half
  allowance : Byte
  startMarker : Byte
  startAction : ActionForm
  brkForm : Byte
  duration : Half
  brkMarker : Byte
  brkAction : ActionForm
  deriving DecidableEq, Repr

/-- The requests of R194, in the order of their kinds, with their parameters as sent. -/
inductive Request where
  | ident (role : Byte)
  | status (sect : Byte)
  | planRead (selector : Byte)
  | planWrite (index : Byte) (form : EntryForm)
  | planInsert (index : Byte) (form : EntryForm)
  | planDelete (index : Byte)
  | planSkip (index : Byte)
  | planHeader (count : Byte)
  | threaded (proj label : Byte)
  | unthread (proj : Byte)
  | arm (proj : Byte)
  | disarm (proj : Byte)
  | stop (proj : Byte)
  | clear (proj : Byte)
  | startShow
  | changeNow
  | strike (proj : Byte)
  | arcOff (proj : Byte)
  | carbonLoad (proj : Byte) (length : Half)
  | shutterRaise (shutter : Byte)
  | shutterDrop (shutter : Byte)
  | lights (mask level : Byte) (fade : Half)
  | fireReset
  | boothReset
  | busReset
  | packRead (selector : Byte)
  | packWrite (address group top : Byte)
  | packForget (address : Byte)
  | paramRead (id proj : Byte)
  | paramWrite (id proj : Byte) (value : Half)
  | routeRead (kind : Byte)
  | routeWrite (kind mask : Byte)
  | intermissionExtend (seconds : Half)
  deriving DecidableEq, Repr

/-- The commands, in the order of spec/opcode_table.json. `l` is the station link a frame arrives on, `p` the
projector of an event, `sh` its shutter. -/
inductive Instr where
  /-- POWER_ON: supply is applied, or the reset input asserted (R118). -/
  | powerOn
  /-- FRAME_RECEIVED: a frame with this body, KIND first, completes on the link (R169). -/
  | frameReceived (l : Connector) (body : List Byte)
  /-- INTERBYTE_GAP_TIMEOUT (R168). -/
  | interbyteGapTimeout (l : Connector)
  /-- LINK_BREAK: the loop has been at space for 100 ms (R170). -/
  | linkBreak (l : Connector)
  /-- LINK_MARK_RETURN (R170). -/
  | linkMarkReturn (l : Connector)
  /-- TRANSMIT_FRAME_END (R176). -/
  | transmitFrameEnd (l : Connector)
  /-- UNKNOWN_REQUEST_KIND: a frame whose KIND names no request, with its other bytes (R171). -/
  | unknownRequestKind (l : Connector) (kind : Byte) (rest : List Byte)
  /-- IDENT (R172). -/
  | ident (l : Connector) (role : Byte)
  /-- STATUS (R182). -/
  | status (l : Connector) (sect : Byte)
  /-- PLAN_READ (R19). -/
  | planRead (l : Connector) (selector : Byte)
  /-- PLAN_WRITE (R10). -/
  | planWrite (l : Connector) (index : Byte) (form : EntryForm)
  /-- PLAN_INSERT (R11). -/
  | planInsert (l : Connector) (index : Byte) (form : EntryForm)
  /-- PLAN_DELETE (R12). -/
  | planDelete (l : Connector) (index : Byte)
  /-- PLAN_SKIP (R13). -/
  | planSkip (l : Connector) (index : Byte)
  /-- PLAN_HEADER (R16). -/
  | planHeader (l : Connector) (count : Byte)
  /-- THREADED (R45). -/
  | threaded (l : Connector) (proj label : Byte)
  /-- UNTHREAD (R46). -/
  | unthread (l : Connector) (proj : Byte)
  /-- ARM (R47). -/
  | arm (l : Connector) (proj : Byte)
  /-- DISARM (R50). -/
  | disarm (l : Connector) (proj : Byte)
  /-- STOP (R71). -/
  | stop (l : Connector) (proj : Byte)
  /-- CLEAR (R72). -/
  | clear (l : Connector) (proj : Byte)
  /-- START_SHOW (R67). -/
  | startShow (l : Connector)
  /-- CHANGE_NOW (R63). -/
  | changeNow (l : Connector)
  /-- BOOTH_RESET (R76). -/
  | boothReset (l : Connector)
  /-- TACH_PULSE at an instant of the motion count (R23). -/
  | tachPulse (p : Projector) (instant : Nat)
  /-- RING_TIMEOUT (R24). -/
  | ringTimeout (p : Projector)
  /-- STALL_TIMEOUT (R36). -/
  | stallTimeout (p : Projector)
  /-- FOIL_INPUT_CHANGE to active or inactive (R32). -/
  | foilInputChange (p : Projector) (active : Bool)
  /-- FOIL_QUALIFY_EXPIRY (R32). -/
  | foilQualifyExpiry (p : Projector)
  /-- FOIL_RELEASE_EXPIRY (R32). -/
  | foilReleaseExpiry (p : Projector)
  /-- FILM_SWITCH_CHANGE to closed or open (R34). -/
  | filmSwitchChange (p : Projector) (closed : Bool)
  /-- FILM_FILTER_EXPIRY (R34). -/
  | filmFilterExpiry (p : Projector)
  /-- RUNUP_STAGE1_EXPIRY (R52). -/
  | runupStage1Expiry (p : Projector)
  /-- RUNUP_STAGE2_EXPIRY (R52). -/
  | runupStage2Expiry (p : Projector)
  /-- STRIKE (R80). -/
  | strike (l : Connector) (proj : Byte)
  /-- ARC_OFF (R94). -/
  | arcOff (l : Connector) (proj : Byte)
  /-- CARBON_LOAD (R93). -/
  | carbonLoad (l : Connector) (proj : Byte) (length : Half)
  /-- ARC_CURRENT_CHANGE to a current in amperes (R81). -/
  | arcCurrentChange (p : Projector) (current : Byte)
  /-- TOUCH_TIMER_EXPIRY (R81). -/
  | touchTimerExpiry (p : Projector)
  /-- DRAW_TIMER_EXPIRY with the arc voltage sensed then (R82). -/
  | drawTimerExpiry (p : Projector) (voltage : Byte)
  /-- REGULATION_INTERVAL with the arc voltage sensed then (R84). -/
  | regulationInterval (p : Projector) (voltage : Byte)
  /-- SHUTTER_RAISE (R100). -/
  | shutterRaise (l : Connector) (shutter : Byte)
  /-- SHUTTER_DROP (R102). -/
  | shutterDrop (l : Connector) (shutter : Byte)
  /-- OPEN_SENSE_CHANGE to made or not made (R101). -/
  | openSenseChange (sh : Shutter) (made : Bool)
  /-- CLOSED_SENSE_CHANGE to made or not made (R103). -/
  | closedSenseChange (sh : Shutter) (made : Bool)
  /-- RAISE_TIMEOUT (R101). -/
  | raiseTimeout (sh : Shutter)
  /-- DROP_TIMEOUT (R103). -/
  | dropTimeout (sh : Shutter)
  /-- HEAT_READING_CHANGE to a sensor count (R108). -/
  | heatReadingChange (p : Projector) (reading : Byte)
  /-- HEAT_STAGE1_EXPIRY (R108). -/
  | heatStage1Expiry (p : Projector)
  /-- DOUSED_WAIT_EXPIRY (R109). -/
  | dousedWaitExpiry (p : Projector)
  /-- FIRE_SOURCE_OPEN (R111). -/
  | fireSourceOpen (x : FireInput)
  /-- FIRE_SOURCE_CLOSE (R111). -/
  | fireSourceClose (x : FireInput)
  /-- KEY_SWITCH_CHANGE to on or off (R114). -/
  | keySwitchChange (turnedOn : Bool)
  /-- FIRE_RESET (R116). -/
  | fireReset (l : Connector)
  /-- LIGHTS (R123). -/
  | lights (l : Connector) (mask level : Byte) (fade : Half)
  /-- DIMMER_CYCLE_START (R136). -/
  | dimmerCycleStart
  /-- BUS_BREAK_END (R145). -/
  | busBreakEnd
  /-- LEVEL_REPLY_WINDOW_END with the bytes read in the window (R140). -/
  | levelReplyWindowEnd (reply : List Byte)
  /-- IDENTIFY_ROUND_END with the serials of the packs that drove the presence slot, and the bytes read in the
  acknowledge's window (R143). -/
  | identifyRoundEnd (contenders : List Serial) (ack : List Byte)
  /-- BUS_RESET (R145). -/
  | busReset (l : Connector)
  /-- PACK_READ (R149). -/
  | packRead (l : Connector) (selector : Byte)
  /-- PACK_WRITE (R147). -/
  | packWrite (l : Connector) (address group top : Byte)
  /-- PACK_FORGET (R148). -/
  | packForget (l : Connector) (address : Byte)
  /-- PARAM_READ (R190). -/
  | paramRead (l : Connector) (id proj : Byte)
  /-- PARAM_WRITE (R186). -/
  | paramWrite (l : Connector) (id proj : Byte) (value : Half)
  /-- ROUTE_READ (R179). -/
  | routeRead (l : Connector) (kind : Byte)
  /-- ROUTE_WRITE (R179). -/
  | routeWrite (l : Connector) (kind mask : Byte)
  /-- INTERMISSION_EXTEND (R160). -/
  | intermissionExtend (l : Connector) (seconds : Half)
  /-- INTERMISSION_TIMER_TICK (R159). -/
  | intermissionTimerTick
  /-- INTERMISSION_EXPIRY (R159). -/
  | intermissionExpiry
  /-- SHOW_CLOCK_TICK (R163). -/
  | showClockTick
  /-- BYTE_RECEIVED, with or without a framing error (R168). -/
  | byteReceived (l : Connector) (byte : Byte) (framingError : Bool)
  /-- LEVEL_PACKET_SENT (R140). -/
  | levelPacketSent
  /-- STRIKE_ELAPSED_TICK (R77). -/
  | strikeElapsedTick (p : Projector)
  /-- HEAT_STAGE_TIMER_TICK (R107). -/
  | heatStageTimerTick (p : Projector)
  deriving DecidableEq, Repr

end Sys2Proof
end

