-- ==== Sys2Proof/Decode.lean ====
section
/-! DEFINITION. The decoder of the opcode table's words. spec/opcode_table.json gives no row any bits, so no word
spells a command (log 21); the requests' own encoding (R194) is Machine/Frames.lean. -/

namespace Sys2Proof

/-- The command that a word of `nbits` bits spells by the table: none, for the table gives no row any bits. -/
def decodeTableWord (_nbits _w : Nat) : Option Instr := none

end Sys2Proof
end

