-- ==== Sys2Proof/Config.lean ====
section
/-! DEFINITION. Constants of the part, each with the rule that gives it, and the free values of the spec. -/

namespace Sys2Proof.Config

/-- FREE VALUE. A byte of a reply whose value the spec does not state: the bytes of an item marked absent by a flag of
its own layout (R196). It has no body: a statement holds whatever it is. Log 10. -/
opaque freeByte : Nat → Byte

/-- Motion counts in a tenth of a second (R22: 10 000 counts a second). -/
def countsPerTenth : Nat := 1000

/-- R23: a pulse sooner than this after the pulse reference is ignored. -/
def minPeriod : Nat := 100

/-- R23, R24: the longest period held, and the count after which the ring is emptied. -/
def maxPeriod : Nat := 65535

/-- The largest value of a two-byte count (R27, R29, R91, R163). -/
def maxHalf : Nat := 65535

/-- R24: periods in a full capture ring. -/
def ringSize : Nat := 8

/-- R32: 2 ms of foil level, in motion counts. -/
def foilTime : Nat := 20

/-- R34: 50 ms of film-present level, in motion counts. -/
def filmTime : Nat := 500

/-- R33: activations this near the first of a foil belong to it. -/
def mergeWindow : Nat := 8

/-- R8: entries a plan can hold. -/
def planSize : Nat := 16

/-- R80: the TOUCH timer, in tenths. -/
def touchTenths : Nat := 30

/-- R81: the DRAW timer, in tenths. -/
def drawTenths : Nat := 5

/-- R80: the carbon above the stub that a strike needs. -/
def strikeMargin : Nat := 50

/-- R87: consecutive intervals above the high-alarm offset that make a feed fault. -/
def highRunLimit : Nat := 20

/-- R88: regulation intervals in a bucket. -/
def bucketIntervals : Nat := 100

/-- R90: buckets in a full bucket ring. -/
def bucketRing : Nat := 6

/-- R84: 100 ms between regulation intervals, in motion counts. -/
def regulationCounts : Nat := 1000

/-- R100: the raise timer, in tenths. -/
def raiseTenths : Nat := 30

/-- R102: the drop timer, in tenths. -/
def dropTenths : Nat := 10

/-- R107: the hysteresis of a heat monitor. -/
def heatBand : Nat := 4

/-- R121: dimmer cycles in a tenth of a second. -/
def cyclesPerTenth : Nat := 5

/-- R135: 20 ms between cycle starts, in motion counts. -/
def cycleCounts : Nat := 200

/-- R145: the 50 ms break of the dimmer bus, in motion counts. -/
def busBreakCounts : Nat := 500

/-- R136: the identify count wraps at this. -/
def identifyPeriod : Nat := 250

/-- R136: packets in a cycle with no identify round, and with one. -/
def fullBudget : Nat := 6
def roundBudget : Nat := 4

/-- R139: cycles after which a pack is refreshed. -/
def refreshCycles : Nat := 50

/-- R141: misses that make a pack ABSENT. -/
def missLimit : Nat := 3

/-- R137: the highest pack address, and the most entries. -/
def packLimit : Nat := 15

/-- R146: the most identify rounds of one enumeration. -/
def enumerationLimit : Nat := 64

/-- R160: the most seconds an intermission timer is extended to. -/
def timerLimit : Nat := 3600

/-- R169: receive slots of a link. -/
def slotLimit : Nat := 2

/-- R180: notices a link's queue holds. -/
def noticeLimit : Nat := 16

/-- R168: the longest LEN. -/
def lenLimit : Nat := 48

end Sys2Proof.Config
end

