-- ==== Sys2Proof/Machine/State.lean ====
section
/-! DEFINITION. The state of the part as plain data, block by block, and its value after reset. Names follow the spec's;
each structure cites the rule that gives its items. A field named `…Due` is the instant of the motion count at which a
running timer expires, absent while it is stopped (log 2). -/

namespace Sys2Proof.Machine

/-! ### Names -/

/-- R120: the lighting groups. -/
inductive Group where
  | house | stage | aisle | work
  deriving DecidableEq, Repr

/-- R111: the fire sources. -/
inductive Source where
  | heatA | heatB | pull1 | pull2 | loop
  deriving DecidableEq, Repr

/-- R2: how a reel's cues are found. -/
inductive CueMethod where
  | foil | footage | guarded
  deriving DecidableEq, Repr

/-- R4: the states of a plan entry. -/
inductive EntryState where
  | pending | threaded | armed | running | done | skipped
  deriving DecidableEq, Repr

/-- R40: the states of a projector channel. -/
inductive ChannelState where
  | idle | threaded | armed | starting | ready | onScreen | dark | tail | halted
  deriving DecidableEq, Repr

/-- R40: which run-up timer is running. -/
inductive RunupStage where
  | none | one | two
  deriving DecidableEq, Repr

/-- R30: the footage points, nearest the reel head first. -/
inductive FootagePoint where
  | motor | motorGuard | change | changeGuard | reelEnd | tailEnd
  deriving DecidableEq, Repr

/-- R32: the qualification of the foil input. -/
inductive FoilStage where
  | inactive | qualifying | active | releasing
  deriving DecidableEq, Repr

/-- R77: the arc states. -/
inductive ArcState where
  | off | striking | lit | fault | exhausted
  deriving DecidableEq, Repr

/-- R77: the phase of a strike in progress. -/
inductive StrikePhase where
  | none | touch | draw
  deriving DecidableEq, Repr

/-- R77: the strike drive of the negative carbon. -/
inductive StrikeOutput where
  | idle | touching | drawing
  deriving DecidableEq, Repr

/-- R99: the shutter states. -/
inductive ShutterState where
  | down | raising | held | dropping | jammed
  deriving DecidableEq, Repr

/-- R99, R197: the cause of a shutter's last change of state. -/
inductive ShutterCause where
  | none | request | opened | timeout | lost | closed | fire
  deriving DecidableEq, Repr

/-- R107: the heat monitor states. -/
inductive HeatState where
  | normal | stage1Wait | dousedWait | tripped
  deriving DecidableEq, Repr

/-- R120: the kind of action that set a group's fade. -/
inductive FadeSource where
  | none | request | start | intermission | ending | brk | restore
  deriving DecidableEq, Repr

/-- R152: the show states. -/
inductive ShowState where
  | idle | running | intermission | stalled | ended | fireStop
  deriving DecidableEq, Repr

/-- R135: what the dimmer bus is doing. -/
inductive BusState where
  | normal | resetPending | brk | enumerating
  deriving DecidableEq, Repr

/-- R167: where a link's receiver stands. -/
inductive RxStage where
  | hunt | length | body | brk
  deriving DecidableEq, Repr

/-- R192: the result codes, in the order of their bytes. -/
inductive ResultCode where
  | ok | adjusted | notBound | alreadyBound | roleTaken | notPermitted | badRequest | noEntry | locked | planConflict
  | tableFull | wrongReel | notNext | notReady | lampNotLit | carbonShort | shutterDown | fireLockout | keyOff
  | sourceActive | busy
  deriving DecidableEq, Repr

/-- R197: the notice kinds, in the order of their KIND bytes 40h to 5Eh. -/
inductive NoticeKind where
  | cueMotor | cueChange | noIncoming | atSpeed | slowRunup | runupFail | changeover | lateChangeover | runOut
  | recovery | reelDone | filmBreak | motorStall | strayFoil | foilMissing | arcState | carbonLow | carbonExhausted
  | strikeFail | heatStage1 | fire | fireCleared | shutterState | lightsDone | packEvent | busResetDone
  | intermissionStart | intermissionEnd | showEnd | passStart | roleChange
  deriving DecidableEq, Repr

/-- R185: the per-projector parameters, in the order of their identifiers 01h to 12h. -/
inductive ProjParam where
  | snom | tol | stallTime | tR1 | tR2 | tailAllowance | guard | vt | deadband | gain | smax | highAlarm | bn | stub | mc
  | strikeThreshold | holdThreshold | heatThreshold
  deriving DecidableEq, Repr

/-- R185: the device parameters, in the order of their identifiers 13h to 19h. -/
inductive DevParam where
  | tH1 | tH2 | brkMask | brkLevel | brkFade | restoreFade | autoResume
  deriving DecidableEq, Repr

/-! ### The reel plan (R1 to R4) -/

/-- R3: a lighting action. Bit 0 of the mask is HOUSE, bit 3 WORK (R192). -/
structure LightAction where
  mask : BitVec 4
  level : Nat
  fade : Nat
  deriving DecidableEq, Repr

/-- R3: what the show does at a reel's picture end. -/
inductive BreakAfter where
  | absent
  | intermission (duration : Nat) (action : Option LightAction)
  | ending (action : Option LightAction)
  deriving DecidableEq, Repr

/-- R2: one reel of the plan. L is computed from the feet (`Entry.frames`). -/
structure Entry where
  label : Nat
  projector : Projector
  feet : Nat
  cue : CueMethod
  lead : Nat
  allowance : Nat
  startAction : Option LightAction
  brk : BreakAfter
  state : EntryState
  framesRun : Option Nat
  deriving DecidableEq, Repr

/-- R1: the plan header and its entries, in showing order; the entry count is the length of the list. -/
structure Plan where
  entries : List Entry
  repeatCount : Nat
  passNumber : Nat
  deriving DecidableEq, Repr

/-! ### Show Progress (R152) -/

/-- R152. A link to an entry is the entry's index, which plan edits move (R5, R15; log 28). -/
structure Progress where
  state : ShowState
  position : Option Nat
  timer : Option Nat
  timerEntry : Option Nat
  clock : Nat
  tenths : Nat
  clockStarted : Bool
  lastDone : Option Nat
  deriving DecidableEq, Repr

/-! ### Motion Unit (R22) -/

/-- R22. `valid` and S8 are the length and the sum of the ring (R24). -/
structure Motion where
  pulseRef : Nat
  ring : List Nat
  speedReached : Bool
  atSpeed : Bool
  frames : Nat
  raised : List FootagePoint
  foilMerge : Option Nat
  foilStage : FoilStage
  foilDue : Option Nat
  filmClosed : Bool
  filmDue : Option Nat
  stallWatch : Option Nat
  motorStart : Nat
  deriving DecidableEq, Repr

/-! ### Changeover Controller (R40, R41) -/

/-- R40: a projector's channel record. -/
structure Channel where
  state : ChannelState
  entry : Option Nat
  motorCueTaken : Bool
  changeTaken : Bool
  foilCount : Nat
  runup : RunupStage
  runupDue : Option Nat
  deferred : Bool
  openOnReady : Bool
  pastPicture : Bool
  douser : Bool
  motor : Bool
  deriving DecidableEq, Repr

/-! ### Arc Controller (R77) -/

/-- R77: a projector's arc record. `contactor` is true while it is closed. -/
structure Arc where
  state : ArcState
  phase : StrikePhase
  strikeDue : Option Nat
  elapsed : Nat
  carbon : Nat
  sampleV : Nat
  sampleI : Nat
  err : Int
  asked : Nat
  issued : Nat
  highRun : Nat
  intervals : Nat
  bucket : Nat
  ring : List Nat
  completed : Nat
  lowWarned : Bool
  contactor : Bool
  strikeOut : StrikeOutput
  regulationDue : Nat
  deriving DecidableEq, Repr

/-! ### Fire and Shutter Unit (R99, R107, R112) -/

/-- R99: a shutter record; the senses are among the inputs. -/
structure ShutterRec where
  state : ShutterState
  moveDue : Option Nat
  lift : Bool
  hold : Bool
  lastCause : ShutterCause
  deriving DecidableEq, Repr

/-- R107: a heat monitor; the reading is among the inputs. `elapsed` is absent while the stage timer is stopped. -/
structure HeatMonitor where
  state : HeatState
  elapsed : Option Nat
  peak : Nat
  deriving DecidableEq, Repr

/-- R112: the fire lockout and its record. `recorded` is a set, without repeats. -/
structure FireRec where
  lockout : Bool
  first : Option Source
  recorded : List Source
  entryTime : Option Nat
  alarm : Bool
  deriving DecidableEq, Repr

/-! ### Notices and replies (R174, R177) -/

/-- R177: a notice; the subject is its byte of R192, FFh for none. -/
structure Notice where
  kind : NoticeKind
  subject : Byte
  clock : Nat
  data : List Byte
  deriving DecidableEq, Repr

/-- R174: a reply built and not yet sent; `kind` is the KIND it is sent with. -/
structure Reply where
  kind : Byte
  code : ResultCode
  data : List Byte
  deriving DecidableEq, Repr

/-! ### Lighting Controller (R120) -/

/-- R120: a group record. -/
structure GroupRec where
  level : Nat
  active : Bool
  start : Nat
  target : Nat
  n : Nat
  k : Nat
  source : FadeSource
  save : Option Nat
  deriving DecidableEq, Repr

/-- R120: the four group records and the emergency state. `out` holds the LIGHTS_DONE notices an action has brought
in this step and that go to LNK after the step's other notices (R121; log 8): the model's own field, empty between
steps. -/
structure Lighting where
  groups : Quad GroupRec
  emergency : Bool
  out : List Notice
  deriving DecidableEq, Repr

/-! ### Dimmer Bus Master (R135, R137) -/

/-- R137: a pack table entry. Group NONE is `none`. -/
structure Pack where
  serial : Serial
  address : Nat
  group : Option Group
  top : Nat
  sent : Option Nat
  since : Nat
  isPresent : Bool
  loadFail : Bool
  misses : Nat
  deriving DecidableEq, Repr

/-- R135: the bus record, with the pack table in ascending address. `window` is the address whose reply window is
open (R140). `out` holds the messages put on the line at the last bus command (R195): the model's own field (log 31). -/
structure Bus where
  state : BusState
  breakEnded : Bool
  breakDue : Nat
  cycleDue : Nat
  cycle : Nat
  identify : Nat
  pointer : Nat
  rounds : Nat
  parked : Nat
  withheld : List Nat
  snapshot : Quad Nat
  plan : List Nat
  roundDue : Bool
  window : Option Nat
  packs : List Pack
  out : List (List Byte)
  deriving DecidableEq, Repr

/-! ### Link Interface (R167) -/

/-- R167: what a transmit loop is carrying, with the frame it sends. -/
inductive Tx where
  | idle
  | reply (frame : List Byte)
  | notice (frame : List Byte)
  deriving DecidableEq, Repr

/-- R167: a link record. `assembly` is the LEN, body and CHECK bytes received so far; a slot holds the body of the
request it was taken for. -/
structure Link where
  binding : Option Role
  stage : RxStage
  assembly : List Byte
  slots : List (List Byte)
  replies : List Reply
  tx : Tx
  notices : List Notice
  discard : Bool
  overrun : Bool
  lost : Bool
  deriving DecidableEq, Repr

/-! ### Parameter Store (R184) -/

/-- R184: a parameter record. -/
structure ParamRec where
  held : Nat
  pending : Option Nat
  deriving DecidableEq, Repr

/-- R185: the parameters of one projector. -/
structure ProjParams where
  snom : ParamRec
  tol : ParamRec
  stallTime : ParamRec
  tR1 : ParamRec
  tR2 : ParamRec
  tailAllowance : ParamRec
  guard : ParamRec
  vt : ParamRec
  deadband : ParamRec
  gain : ParamRec
  smax : ParamRec
  highAlarm : ParamRec
  bn : ParamRec
  stub : ParamRec
  mc : ParamRec
  strikeThreshold : ParamRec
  holdThreshold : ParamRec
  heatThreshold : ParamRec
  deriving DecidableEq, Repr

/-- R185: the parameters of the booth. -/
structure DevParams where
  tH1 : ParamRec
  tH2 : ParamRec
  brkMask : ParamRec
  brkLevel : ParamRec
  brkFade : ParamRec
  restoreFade : ParamRec
  autoResume : ParamRec
  deriving DecidableEq, Repr

/-- R184: the parameter store. -/
structure Params where
  proj : Pair ProjParams
  dev : DevParams
  deriving DecidableEq, Repr

/-! ### The inputs -/

/-- The levels at the part's inputs (00_scope.md, Connections). A fire input is true while it is open. -/
structure Inputs where
  foil : Pair Bool
  filmClosed : Pair Bool
  voltage : Pair Nat
  current : Pair Nat
  heat : Pair Nat
  openSense : Quad Bool
  closedSense : Quad Bool
  pull1 : Bool
  pull2 : Bool
  loop : Bool
  key : Bool
  deriving DecidableEq, Repr

/-! ### The whole state -/

/-- Everything the part holds, and the queue of the commands that are waiting, first in, first out. -/
structure State where
  plan : Plan
  prog : Progress
  motion : Pair Motion
  chan : Pair Channel
  token : Option Projector
  sound : Option Projector
  arc : Pair Arc
  shutters : Quad ShutterRec
  heat : Pair HeatMonitor
  fire : FireRec
  lights : Lighting
  bus : Bus
  links : Trio Link
  routing : Vector (BitVec 3) 31
  par : Params
  inputs : Inputs
  motionCount : Nat
  freeCount : Nat
  pending : List Instr
  deriving DecidableEq, Repr

/-- The faults of a step: none. The spec names no condition that stops the part (INVENTORY.md, Faults), so no command
raises one; safe. -/
inductive Fault where
  deriving DecidableEq, Repr

/-- The refusals of a step. -/
inductive Refusal where
  /-- Raised by an arm of `exec` whose command has no meaning yet; no arm is left that does. Safe. -/
  | notModelled (mnemonic : String)
  deriving DecidableEq, Repr

/-! ### Reset -/

/-- R22, R39: the motion record at power-on. The film filter starts with the part (R34; log 27). -/
def Motion.reset : Motion where
  pulseRef := 0
  ring := []
  speedReached := false
  atSpeed := false
  frames := 0
  raised := []
  foilMerge := none
  foilStage := .inactive
  foilDue := none
  filmClosed := false
  filmDue := some 500
  stallWatch := none
  motorStart := 0

/-- R40: the channel record at power-on. -/
def Channel.reset : Channel where
  state := .idle
  entry := none
  motorCueTaken := false
  changeTaken := false
  foilCount := 0
  runup := .none
  runupDue := none
  deferred := false
  openOnReady := false
  pastPicture := false
  douser := false
  motor := false

/-- R77, R98: the arc record at power-on. -/
def Arc.reset : Arc where
  state := .off
  phase := .none
  strikeDue := none
  elapsed := 0
  carbon := 0
  sampleV := 0
  sampleI := 0
  err := 0
  asked := 0
  issued := 0
  highRun := 0
  intervals := 0
  bucket := 0
  ring := []
  completed := 0
  lowWarned := false
  contactor := false
  strikeOut := .idle
  regulationDue := 1000

/-- R118: a shutter found with its closed sense made. -/
def ShutterRec.reset : ShutterRec := ⟨.down, none, false, false, .none⟩

/-- R120: a lighting group at power-on. -/
def GroupRec.reset : GroupRec := ⟨0, false, 0, 0, 0, 0, .none, none⟩

/-- R167: a link record at power-on. -/
def Link.reset : Link := ⟨none, .hunt, [], [], [], .idle, [], false, false, false⟩

/-- R135, R151: the bus record at power-on: the break has begun, and the table is empty. -/
def Bus.reset : Bus where
  state := .brk
  breakEnded := false
  breakDue := 500
  cycleDue := 200
  cycle := 0
  identify := 0
  pointer := 0
  rounds := 0
  parked := 0
  withheld := []
  snapshot := ⟨0, 0, 0, 0⟩
  plan := []
  roundDue := false
  window := none
  packs := []
  out := []

/-- R185, R191: a projector's parameters at power-on. -/
def ProjParams.reset : ProjParams where
  snom := ⟨240, none⟩
  tol := ⟨5, none⟩
  stallTime := ⟨2500, none⟩
  tR1 := ⟨40, none⟩
  tR2 := ⟨100, none⟩
  tailAllowance := ⟨96, none⟩
  guard := ⟨16, none⟩
  vt := ⟨120, none⟩
  deadband := ⟨4, none⟩
  gain := ⟨8, none⟩
  smax := ⟨6, none⟩
  highAlarm := ⟨20, none⟩
  bn := ⟨70, none⟩
  stub := ⟨400, none⟩
  mc := ⟨1200, none⟩
  strikeThreshold := ⟨60, none⟩
  holdThreshold := ⟨40, none⟩
  heatThreshold := ⟨150, none⟩

/-- R185, R191: the device parameters at power-on; the break mask is HOUSE. -/
def DevParams.reset : DevParams where
  tH1 := ⟨10, none⟩
  tH2 := ⟨50, none⟩
  brkMask := ⟨1, none⟩
  brkLevel := ⟨96, none⟩
  brkFade := ⟨20, none⟩
  restoreFade := ⟨30, none⟩
  autoResume := ⟨1, none⟩

/-- R178: the default masks, in the order of the notice kinds: H alone for LIGHTS_DONE, PACK_EVENT and BUS_RESET_DONE,
all roles for every other kind. -/
def routingReset : Vector (BitVec 3) 31 :=
  #v[7, 7, 7, 7, 7, 7, 7, 7, 7, 7, 7, 7, 7, 7, 7, 7, 7, 7, 7, 7, 7, 7, 7, 4, 4, 4, 7, 7, 7, 7, 7]

/-- The inputs the model resets with (DESIGN CHOICE, log 9): quiet fire inputs, shutters down, film switch open. -/
def Inputs.reset : Inputs where
  foil := ⟨false, false⟩
  filmClosed := ⟨false, false⟩
  voltage := ⟨0, 0⟩
  current := ⟨0, 0⟩
  heat := ⟨0, 0⟩
  openSense := ⟨false, false, false, false⟩
  closedSense := ⟨true, true, true, true⟩
  pull1 := false
  pull2 := false
  loop := false
  key := false

/-- The part right after power-on, with the inputs of `Inputs.reset`. -/
def State.reset : State where
  plan := ⟨[], 1, 1⟩
  prog := ⟨.idle, none, none, none, 0, 0, false, none⟩
  motion := ⟨Motion.reset, Motion.reset⟩
  chan := ⟨Channel.reset, Channel.reset⟩
  token := none
  sound := none
  arc := ⟨Arc.reset, Arc.reset⟩
  shutters := ⟨ShutterRec.reset, ShutterRec.reset, ShutterRec.reset, ShutterRec.reset⟩
  heat := ⟨⟨.normal, none, 0⟩, ⟨.normal, none, 0⟩⟩
  fire := ⟨false, none, [], none, false⟩
  lights := ⟨⟨GroupRec.reset, GroupRec.reset, GroupRec.reset, GroupRec.reset⟩, false, []⟩
  bus := Bus.reset
  links := ⟨Link.reset, Link.reset, Link.reset⟩
  routing := routingReset
  par := ⟨⟨ProjParams.reset, ProjParams.reset⟩, DevParams.reset⟩
  inputs := Inputs.reset
  motionCount := 0
  freeCount := 0
  pending := []

end Sys2Proof.Machine
end

