-- ==== Sys2Proof/Machine/Operands.lean ====
section
/-! DEFINITION. Operands: the codes of R192 in both directions, fields of one and two bytes, clamping (R198), and the
write form of a plan entry resolved against the entry it replaces (R6, R7). -/

namespace Sys2Proof

/-- The other projector. -/
def Projector.other : Projector → Projector
  | .a => .b
  | .b => .a

/-- R192: the projector codes. -/
def Projector.code : Projector → Byte
  | .a => 0
  | .b => 1

def Projector.ofCode (c : Byte) : Option Projector :=
  if c = 0 then some .a else if c = 1 then some .b else none

/-- R192: the connector codes. -/
def Connector.code : Connector → Byte
  | .a => 0
  | .b => 1
  | .h => 2

/-- R192: the role codes. -/
def Role.code : Role → Byte
  | .a => 0
  | .b => 1
  | .h => 2

def Role.ofCode (c : Byte) : Option Role :=
  if c = 0 then some .a else if c = 1 then some .b else if c = 2 then some .h else none

/-- R192: a role's bit in a role mask. -/
def Role.bit : Role → Nat
  | .a => 0
  | .b => 1
  | .h => 2

/-- R192: the shutter codes. -/
def Shutter.code : Shutter → Byte
  | .portA => 0
  | .portB => 1
  | .obs1 => 2
  | .obs2 => 3

def Shutter.ofCode (c : Byte) : Option Shutter :=
  if c = 0 then some .portA else if c = 1 then some .portB else if c = 2 then some .obs1
  else if c = 3 then some .obs2 else none

/-- The port shutter of a projector. -/
def Projector.port : Projector → Shutter
  | .a => .portA
  | .b => .portB

/-- R106: the projector whose port a shutter closes; the observation shutters close none. -/
def Shutter.projector : Shutter → Option Projector
  | .portA => some .a
  | .portB => some .b
  | .obs1 => none
  | .obs2 => none

/-- R173: the projector that is a station's own; the house has none. -/
def Role.own : Role → Option Projector
  | .a => some .a
  | .b => some .b
  | .h => none

namespace Machine

/-- The order in which R133 names the groups. -/
def Group.all : List Group := [.house, .stage, .aisle, .work]

/-- R192: the group codes, and the group's bit in a mask. -/
def Group.index : Group → Nat
  | .house => 0
  | .stage => 1
  | .aisle => 2
  | .work => 3

def Group.code (g : Group) : Byte := BitVec.ofNat 8 g.index

/-- R192: a pack's group, with 04h for NONE; `none` where the code is not listed. -/
def Group.ofPackCode (c : Byte) : Option (Option Group) :=
  if c = 0 then some (some .house) else if c = 1 then some (some .stage) else if c = 2 then some (some .aisle)
  else if c = 3 then some (some .work) else if c = 4 then some none else none

def Group.packCode : Option Group → Byte
  | some g => g.code
  | none => 4

/-- R192: the fire source codes, and the source's bit in a set. -/
def Source.index : Source → Nat
  | .heatA => 0
  | .heatB => 1
  | .pull1 => 2
  | .pull2 => 3
  | .loop => 4

def Source.code (x : Source) : Byte := BitVec.ofNat 8 x.index

/-- R192: a set of sources. -/
def Source.setByte (xs : List Source) : Byte :=
  BitVec.ofNat 8 (([Source.heatA, .heatB, .pull1, .pull2, .loop].map fun x =>
    if xs.contains x then 2 ^ x.index else 0).sum)

/-- The fire source of a projector's gate heat. -/
def Source.heat : Projector → Source
  | .a => .heatA
  | .b => .heatB

/-- The fire source of a fire input. -/
def Source.input : FireInput → Source
  | .pull1 => .pull1
  | .pull2 => .pull2
  | .loop => .loop

def ChannelState.code : ChannelState → Byte
  | .idle => 0
  | .threaded => 1
  | .armed => 2
  | .starting => 3
  | .ready => 4
  | .onScreen => 5
  | .dark => 6
  | .tail => 7
  | .halted => 8

/-- R42: the states in which a channel's motor is on; F counts in the same states (R27). -/
def ChannelState.running : ChannelState → Bool
  | .starting | .ready | .onScreen | .dark | .tail => true
  | .idle | .threaded | .armed | .halted => false

/-- R41: the states of a token holder. -/
def ChannelState.holding : ChannelState → Bool
  | .onScreen | .dark => true
  | .idle | .threaded | .armed | .starting | .ready | .tail | .halted => false

def EntryState.code : EntryState → Byte
  | .pending => 0
  | .threaded => 1
  | .armed => 2
  | .running => 3
  | .done => 4
  | .skipped => 5

def RunupStage.code : RunupStage → Byte
  | .none => 0
  | .one => 1
  | .two => 2

def ArcState.code : ArcState → Byte
  | .off => 0
  | .striking => 1
  | .lit => 2
  | .fault => 3
  | .exhausted => 4

def StrikePhase.code : StrikePhase → Byte
  | .none => 0
  | .touch => 1
  | .draw => 2

def StrikeOutput.code : StrikeOutput → Byte
  | .idle => 0
  | .touching => 1
  | .drawing => 2

def ShutterState.code : ShutterState → Byte
  | .down => 0
  | .raising => 1
  | .held => 2
  | .dropping => 3
  | .jammed => 4

def ShutterCause.code : ShutterCause → Byte
  | .none => 0
  | .request => 1
  | .opened => 2
  | .timeout => 3
  | .lost => 4
  | .closed => 5
  | .fire => 6

def HeatState.code : HeatState → Byte
  | .normal => 0
  | .stage1Wait => 1
  | .dousedWait => 2
  | .tripped => 3

def FadeSource.code : FadeSource → Byte
  | .none => 0
  | .request => 1
  | .start => 2
  | .intermission => 3
  | .ending => 4
  | .brk => 5
  | .restore => 6

def ShowState.number : ShowState → Nat
  | .idle => 0
  | .running => 1
  | .intermission => 2
  | .stalled => 3
  | .ended => 4
  | .fireStop => 5

def BusState.code : BusState → Byte
  | .normal => 0
  | .resetPending => 1
  | .brk => 2
  | .enumerating => 3

def CueMethod.code : CueMethod → Byte
  | .foil => 0
  | .footage => 1
  | .guarded => 2

def CueMethod.ofCode (c : Byte) : Option CueMethod :=
  if c = 0 then some .foil else if c = 1 then some .footage else if c = 2 then some .guarded else none

def ResultCode.code : ResultCode → Byte
  | .ok => 0x00
  | .adjusted => 0x01
  | .notBound => 0x02
  | .alreadyBound => 0x03
  | .roleTaken => 0x04
  | .notPermitted => 0x05
  | .badRequest => 0x06
  | .noEntry => 0x07
  | .locked => 0x08
  | .planConflict => 0x09
  | .tableFull => 0x0A
  | .wrongReel => 0x0B
  | .notNext => 0x0C
  | .notReady => 0x0D
  | .lampNotLit => 0x0E
  | .carbonShort => 0x0F
  | .shutterDown => 0x10
  | .fireLockout => 0x11
  | .keyOff => 0x12
  | .sourceActive => 0x13
  | .busy => 0x14

/-- R197: the place of a notice kind in the table of kinds, which begins at KIND 40h. -/
def NoticeKind.index : NoticeKind → Fin 31
  | .cueMotor => 0
  | .cueChange => 1
  | .noIncoming => 2
  | .atSpeed => 3
  | .slowRunup => 4
  | .runupFail => 5
  | .changeover => 6
  | .lateChangeover => 7
  | .runOut => 8
  | .recovery => 9
  | .reelDone => 10
  | .filmBreak => 11
  | .motorStall => 12
  | .strayFoil => 13
  | .foilMissing => 14
  | .arcState => 15
  | .carbonLow => 16
  | .carbonExhausted => 17
  | .strikeFail => 18
  | .heatStage1 => 19
  | .fire => 20
  | .fireCleared => 21
  | .shutterState => 22
  | .lightsDone => 23
  | .packEvent => 24
  | .busResetDone => 25
  | .intermissionStart => 26
  | .intermissionEnd => 27
  | .showEnd => 28
  | .passStart => 29
  | .roleChange => 30

/-- R197: the notice kinds in the order of their codes. -/
def NoticeKind.all : List NoticeKind :=
  [.cueMotor, .cueChange, .noIncoming, .atSpeed, .slowRunup, .runupFail, .changeover, .lateChangeover, .runOut,
   .recovery, .reelDone, .filmBreak, .motorStall, .strayFoil, .foilMissing, .arcState, .carbonLow, .carbonExhausted,
   .strikeFail, .heatStage1, .fire, .fireCleared, .shutterState, .lightsDone, .packEvent, .busResetDone,
   .intermissionStart, .intermissionEnd, .showEnd, .passStart, .roleChange]

def NoticeKind.code (k : NoticeKind) : Byte := BitVec.ofNat 8 (0x40 + k.index.val)

/-- R179: the notice kind a KIND code names. -/
def NoticeKind.ofCode (c : Byte) : Option NoticeKind :=
  if 0x40 ≤ c.toNat then NoticeKind.all[c.toNat - 0x40]? else none

/-- R178: the projector kinds, whose A and B bits mean the station of the subject. -/
def NoticeKind.ofProjector : NoticeKind → Bool
  | .cueMotor | .cueChange | .noIncoming | .atSpeed | .slowRunup | .runupFail | .reelDone | .filmBreak | .motorStall
  | .strayFoil | .foilMissing | .arcState | .strikeFail | .carbonLow | .carbonExhausted | .heatStage1 => true
  | .changeover | .lateChangeover | .runOut | .recovery | .fire | .fireCleared | .shutterState | .lightsDone
  | .packEvent | .busResetDone | .intermissionStart | .intermissionEnd | .showEnd | .passStart | .roleChange => false

/-- R180: the kinds that coalesce. -/
def NoticeKind.coalesces (k : NoticeKind) : Bool :=
  k = .arcState || k = .shutterState || k = .lightsDone

/-- R180, R181: the kinds that displace others on a full queue. -/
def NoticeKind.isFire (k : NoticeKind) : Bool :=
  k = .fire || k = .fireCleared

/-! ### Fields -/

/-- A one-byte field. -/
def byte (n : Nat) : Byte := BitVec.ofNat 8 n

/-- R192: a two-byte field, most significant byte first. -/
def half (n : Nat) : List Byte := [byte (n / 256), byte n]

/-- R192: a signed two-byte field, two's complement. -/
def signedHalf (z : Int) : List Byte := half (BitVec.ofInt 16 z).toNat

/-- R195: a three-byte serial. -/
def serialBytes (x : Serial) : List Byte := [byte (x.toNat / 65536), byte (x.toNat / 256), byte x.toNat]

/-- R192: an index that can be absent is sent as FFh. -/
def indexByte : Option Nat → Byte
  | some i => byte i
  | none => 0xFF

/-- R192: a two-byte item that can be absent is sent as FFFFh. -/
def halfOrAbsent : Option Nat → List Byte
  | some n => half n
  | none => [0xFF, 0xFF]

/-- R192: the present marker. -/
def marker (x : Bool) : Byte := if x then 1 else 0

/-- A byte of flags, bit 0 first. -/
def flagByte (bits : List Bool) : Byte :=
  BitVec.ofNat 8 (bits.foldr (fun b acc => b.toNat + 2 * acc) 0)

/-- The two bytes of a field as sent, as one number. -/
def halfOf (hi lo : Byte) : Half := BitVec.ofNat 16 (hi.toNat * 256 + lo.toNat)

/-! ### Values out of range (R198) -/

/-- A value and whether holding it changed what was written. -/
structure Taken (α : Type) where
  val : α
  adjusted : Bool
  deriving DecidableEq, Repr

/-- R6, R186, R198: a numeric value outside its range takes the nearer end. -/
def clamp (lo hi n : Nat) : Taken Nat :=
  if n < lo then ⟨lo, true⟩ else if hi < n then ⟨hi, true⟩ else ⟨n, false⟩

/-- R7, R123: bits above bit 3 of a group mask are removed. -/
def takeMask (m : Byte) : Taken (BitVec 4) :=
  ⟨m.setWidth 4, decide (16 ≤ m.toNat)⟩

/-- R179: bits above bit 2 of a role mask are removed. -/
def takeRoleMask (m : Byte) : Taken (BitVec 3) :=
  ⟨m.setWidth 3, decide (8 ≤ m.toNat)⟩

/-- R7: an enumerated field, with the value it keeps when the code is not listed. -/
def takeCode {α : Type} (listed : Option α) (kept : α) : Taken α :=
  match listed with
  | some x => ⟨x, false⟩
  | none => ⟨kept, true⟩

/-- R7: a present marker that is neither 00h nor 01h is taken as absent. -/
def takeMarker (m : Byte) : Taken Bool :=
  ⟨decide (m = 1), decide (2 ≤ m.toNat)⟩

/-- R3, R6, R7: a lighting action of the plan. -/
def takeAction (x : ActionForm) : Taken LightAction :=
  let mask := takeMask x.mask
  let fade := clamp 0 600 x.fade.toNat
  ⟨⟨mask.val, x.level.toNat, fade.val⟩, mask.adjusted || fade.adjusted⟩

/-- R7: an action with its present marker; the action is read only when present. -/
def takeMarkedAction (m : Byte) (x : ActionForm) : Taken (Option LightAction) :=
  let marked := takeMarker m
  if marked.val then
    let action := takeAction x
    ⟨some action.val, action.adjusted⟩
  else ⟨none, marked.adjusted⟩

/-- The forms of the break after field (R3). -/
inductive BreakForm where
  | absent | intermission | ending
  deriving DecidableEq, Repr

def BreakForm.ofCode (c : Byte) : Option BreakForm :=
  if c = 0 then some .absent else if c = 1 then some .intermission else if c = 2 then some .ending else none

def BreakAfter.form : BreakAfter → BreakForm
  | .absent => .absent
  | .intermission _ _ => .intermission
  | .ending _ => .ending

/-- R7, R195: the break after field. A form code that is not listed keeps the held form; the duration and the action
are then read as that form has them (log 12). -/
def takeBreak (kept : BreakForm) (x : EntryForm) : Taken BreakAfter :=
  let form := takeCode (BreakForm.ofCode x.brkForm) kept
  match form.val with
  | .absent => ⟨.absent, form.adjusted⟩
  | .intermission =>
    let duration := clamp 0 1800 x.duration.toNat
    let action := takeMarkedAction x.brkMarker x.brkAction
    ⟨.intermission duration.val action.val, form.adjusted || duration.adjusted || action.adjusted⟩
  | .ending =>
    let action := takeMarkedAction x.brkMarker x.brkAction
    ⟨.ending action.val, form.adjusted || action.adjusted⟩

/-- R6, first pass: M; 0 selects the default. -/
def takeLead (m : Half) : Taken Nat :=
  if m.toNat = 0 then ⟨176, false⟩ else clamp 48 480 m.toNat

/-- R6, first pass: E; 0 selects the default. -/
def takeAllowance (e : Byte) : Taken Nat :=
  if e.toNat = 0 then ⟨24, false⟩ else clamp 8 96 e.toNat

/-- R6, second pass: M is raised to E + 48. -/
def raiseLead (m e : Nat) : Taken Nat :=
  if m < e + 48 then ⟨e + 48, true⟩ else ⟨m, false⟩

/-- R6, R7: the written entry as it would be held, in the given state, against the projector, cue method and break form
that an unlisted code keeps. -/
def takeEntry (projector : Projector) (cue : CueMethod) (kept : BreakForm) (state : EntryState) (run : Option Nat)
    (x : EntryForm) : Taken Entry :=
  let label := clamp 1 99 x.label.toNat
  let proj := takeCode (Projector.ofCode x.projector) projector
  let feet := clamp 100 2200 x.feet.toNat
  let method := takeCode (CueMethod.ofCode x.cue) cue
  let lead := takeLead x.lead
  let allowance := takeAllowance x.allowance
  let raised := raiseLead lead.val allowance.val
  let start := takeMarkedAction x.startMarker x.startAction
  let brk := takeBreak kept x
  ⟨⟨label.val, proj.val, feet.val, method.val, raised.val, allowance.val, start.val, brk.val, state, run⟩,
    label.adjusted || proj.adjusted || feet.adjusted || method.adjusted || lead.adjusted || allowance.adjusted ||
      raised.adjusted || start.adjusted || brk.adjusted⟩

end Machine

end Sys2Proof
end

