-- ==== Sys2Proof/Machine/Frames.lean ====
section
/-! DEFINITION. Request frames (R194): the body of each request, KIND first, and the request that a body spells. -/

namespace Sys2Proof

namespace Machine

/-- R195: the four bytes of a lighting action. -/
def actionBytes (x : ActionForm) : List Byte := [x.mask, x.level] ++ half x.fade.toNat

/-- R195: the write form of an entry record, 21 bytes. -/
def entryBytes (x : EntryForm) : List Byte :=
  [x.label, x.projector] ++ half x.feet.toNat ++ [x.cue] ++ half x.lead.toNat ++ [x.allowance, x.startMarker] ++
    actionBytes x.startAction ++ [x.brkForm] ++ half x.duration.toNat ++ [x.brkMarker] ++ actionBytes x.brkAction

/-- R195: 21 bytes read as the write form of an entry record. -/
def entryOfBytes : List Byte → Option EntryForm
  | [label, projector, feet1, feet0, cue, lead1, lead0, allowance, startMarker, mask, level, fade1, fade0, brkForm,
      duration1, duration0, brkMarker, brkMask, brkLevel, brkFade1, brkFade0] =>
    some ⟨label, projector, halfOf feet1 feet0, cue, halfOf lead1 lead0, allowance, startMarker,
      ⟨mask, level, halfOf fade1 fade0⟩, brkForm, halfOf duration1 duration0, brkMarker,
      ⟨brkMask, brkLevel, halfOf brkFade1 brkFade0⟩⟩
  | _ => none

/-- R194: the request kinds. -/
def requestCode : Request → Byte
  | .ident _ => 0x01
  | .status _ => 0x02
  | .planRead _ => 0x03
  | .planWrite _ _ => 0x04
  | .planInsert _ _ => 0x05
  | .planDelete _ => 0x06
  | .planSkip _ => 0x07
  | .planHeader _ => 0x08
  | .threaded _ _ => 0x09
  | .unthread _ => 0x0A
  | .arm _ => 0x0B
  | .disarm _ => 0x0C
  | .stop _ => 0x0D
  | .clear _ => 0x0E
  | .startShow => 0x0F
  | .changeNow => 0x10
  | .strike _ => 0x11
  | .arcOff _ => 0x12
  | .carbonLoad _ _ => 0x13
  | .shutterRaise _ => 0x14
  | .shutterDrop _ => 0x15
  | .lights _ _ _ => 0x16
  | .fireReset => 0x17
  | .boothReset => 0x18
  | .busReset => 0x19
  | .packRead _ => 0x1A
  | .packWrite _ _ _ => 0x1B
  | .packForget _ => 0x1C
  | .paramRead _ _ => 0x1D
  | .paramWrite _ _ _ => 0x1E
  | .routeRead _ => 0x1F
  | .routeWrite _ _ => 0x20
  | .intermissionExtend _ => 0x21

/-- R194: the parameters of each request, in order. -/
def requestParams : Request → List Byte
  | .ident x | .status x | .planRead x | .planDelete x | .planSkip x | .planHeader x | .unthread x | .arm x
  | .disarm x | .stop x | .clear x | .strike x | .arcOff x | .shutterRaise x | .shutterDrop x | .packRead x
  | .packForget x | .routeRead x => [x]
  | .planWrite i x | .planInsert i x => i :: entryBytes x
  | .threaded x y | .paramRead x y | .routeWrite x y => [x, y]
  | .startShow | .changeNow | .fireReset | .boothReset | .busReset => []
  | .carbonLoad x length => x :: half length.toNat
  | .lights x y fade => [x, y] ++ half fade.toNat
  | .packWrite x y z => [x, y, z]
  | .paramWrite x y value => [x, y] ++ half value.toNat
  | .intermissionExtend seconds => half seconds.toNat

/-- R192, R194: the body of a request frame. -/
def requestBody (r : Request) : List Byte := requestCode r :: requestParams r

/-! ### The request a body spells -/

def requestOf0 (kind : Nat) : Option Request :=
  match kind with
  | 0x0F => some .startShow
  | 0x10 => some .changeNow
  | 0x17 => some .fireReset
  | 0x18 => some .boothReset
  | 0x19 => some .busReset
  | _ => none

def requestOf1 (kind : Nat) (x : Byte) : Option Request :=
  match kind with
  | 0x01 => some (.ident x)
  | 0x02 => some (.status x)
  | 0x03 => some (.planRead x)
  | 0x06 => some (.planDelete x)
  | 0x07 => some (.planSkip x)
  | 0x08 => some (.planHeader x)
  | 0x0A => some (.unthread x)
  | 0x0B => some (.arm x)
  | 0x0C => some (.disarm x)
  | 0x0D => some (.stop x)
  | 0x0E => some (.clear x)
  | 0x11 => some (.strike x)
  | 0x12 => some (.arcOff x)
  | 0x14 => some (.shutterRaise x)
  | 0x15 => some (.shutterDrop x)
  | 0x1A => some (.packRead x)
  | 0x1C => some (.packForget x)
  | 0x1F => some (.routeRead x)
  | _ => none

def requestOf2 (kind : Nat) (x y : Byte) : Option Request :=
  match kind with
  | 0x09 => some (.threaded x y)
  | 0x1D => some (.paramRead x y)
  | 0x20 => some (.routeWrite x y)
  | 0x21 => some (.intermissionExtend (halfOf x y))
  | _ => none

def requestOf3 (kind : Nat) (x y z : Byte) : Option Request :=
  match kind with
  | 0x13 => some (.carbonLoad x (halfOf y z))
  | 0x1B => some (.packWrite x y z)
  | _ => none

def requestOf4 (kind : Nat) (x y z w : Byte) : Option Request :=
  match kind with
  | 0x16 => some (.lights x y (halfOf z w))
  | 0x1E => some (.paramWrite x y (halfOf z w))
  | _ => none

def requestOfEntry (kind : Nat) (i : Byte) (bytes : List Byte) : Option Request :=
  match kind with
  | 0x04 => (entryOfBytes bytes).map (.planWrite i)
  | 0x05 => (entryOfBytes bytes).map (.planInsert i)
  | _ => none

/-- R194: the request that a KIND and its parameters spell; none where the KIND names no request or the LEN is not
its own. -/
def parseRequest (kind : Byte) (params : List Byte) : Option Request :=
  match params with
  | [] => requestOf0 kind.toNat
  | [x] => requestOf1 kind.toNat x
  | [x, y] => requestOf2 kind.toNat x y
  | [x, y, z] => requestOf3 kind.toNat x y z
  | [x, y, z, w] => requestOf4 kind.toNat x y z w
  | i :: bytes => requestOfEntry kind.toNat i bytes

end Machine

end Sys2Proof
end

