-- ==== Sys2Proof/Machine/Ops.lean ====
section
/-! DEFINITION. The named reads and updates of the state that every block uses: what is held for a projector, a shutter,
a group or a link; the motion count and timers; the values that are computed whenever they are read (Speed10, Rf, Rt, B,
Ct, the next entry). -/

namespace Sys2Proof

/-! ### Containers -/

def Pair.get {α : Type} (x : Pair α) : Projector → α
  | .a => x.a
  | .b => x.b

def Pair.set {α : Type} (x : Pair α) (p : Projector) (v : α) : Pair α :=
  match p with
  | .a => ⟨v, x.b⟩
  | .b => ⟨x.a, v⟩

def Trio.get {α : Type} (x : Trio α) : Connector → α
  | .a => x.a
  | .b => x.b
  | .h => x.h

def Trio.set {α : Type} (x : Trio α) (l : Connector) (v : α) : Trio α :=
  match l with
  | .a => ⟨v, x.b, x.h⟩
  | .b => ⟨x.a, v, x.h⟩
  | .h => ⟨x.a, x.b, v⟩

/-- A shutter's place among the four. -/
def Quad.atShutter {α : Type} (x : Quad α) : Shutter → α
  | .portA => x.w
  | .portB => x.x
  | .obs1 => x.y
  | .obs2 => x.z

def Quad.setShutter {α : Type} (x : Quad α) (sh : Shutter) (v : α) : Quad α :=
  match sh with
  | .portA => ⟨v, x.x, x.y, x.z⟩
  | .portB => ⟨x.w, v, x.y, x.z⟩
  | .obs1 => ⟨x.w, x.x, v, x.z⟩
  | .obs2 => ⟨x.w, x.x, x.y, v⟩

namespace Machine

/-- A group's place among the four. -/
def groupOf {α : Type} (x : Quad α) : Group → α
  | .house => x.w
  | .stage => x.x
  | .aisle => x.y
  | .work => x.z

def setGroupOf {α : Type} (x : Quad α) (g : Group) (v : α) : Quad α :=
  match g with
  | .house => ⟨v, x.x, x.y, x.z⟩
  | .stage => ⟨x.w, v, x.y, x.z⟩
  | .aisle => ⟨x.w, x.x, v, x.z⟩
  | .work => ⟨x.w, x.x, x.y, v⟩

/-! ### Reads and updates of the state -/

namespace State

def chanOf (s : State) (p : Projector) : Channel := s.chan.get p

def setChan (p : Projector) (c : Channel) (s : State) : State := { s with chan := s.chan.set p c }

def motionOf (s : State) (p : Projector) : Motion := s.motion.get p

def setMotion (p : Projector) (m : Motion) (s : State) : State := { s with motion := s.motion.set p m }

def arcOf (s : State) (p : Projector) : Arc := s.arc.get p

def setArc (p : Projector) (x : Arc) (s : State) : State := { s with arc := s.arc.set p x }

def shutterOf (s : State) (sh : Shutter) : ShutterRec := s.shutters.atShutter sh

def setShutter (sh : Shutter) (x : ShutterRec) (s : State) : State :=
  { s with shutters := s.shutters.setShutter sh x }

def heatOf (s : State) (p : Projector) : HeatMonitor := s.heat.get p

def setHeat (p : Projector) (m : HeatMonitor) (s : State) : State := { s with heat := s.heat.set p m }

def linkOf (s : State) (l : Connector) : Link := s.links.get l

def setLink (l : Connector) (k : Link) (s : State) : State := { s with links := s.links.set l k }

def setPlan (x : Plan) (s : State) : State := { s with plan := x }

def setProg (x : Progress) (s : State) : State := { s with prog := x }

def setFire (x : FireRec) (s : State) : State := { s with fire := x }

def setLights (x : Lighting) (s : State) : State := { s with lights := x }

def setBus (x : Bus) (s : State) : State := { s with bus := x }

def setPar (x : Params) (s : State) : State := { s with par := x }

def setInputs (x : Inputs) (s : State) : State := { s with inputs := x }

/-- R41, R42: the token and, with it, the sound selector. -/
def setToken (x : Option Projector) (s : State) : State := { s with token := x, sound := x }

/-! ### The motion count and timers (log 2) -/

/-- The motion count reaches an instant; it never goes back. -/
def passTo (instant : Nat) (s : State) : State := { s with motionCount := max s.motionCount instant }

/-- The motion count reaches the instant at which a running timer is due. -/
def passToDue (due : Option Nat) (s : State) : State :=
  match due with
  | some t => s.passTo t
  | none => s

/-- The instant at which a timer of this many tenths started now is due. -/
def tenthsFromNow (s : State) (n : Nat) : Nat := s.motionCount + n * Config.countsPerTenth

/-- One motion count passes (R22; log 1). -/
def tick (s : State) : State := s.passTo (s.motionCount + 1)

end State

/-! ### Parameters -/

def ProjParams.get (x : ProjParams) : ProjParam → ParamRec
  | .snom => x.snom
  | .tol => x.tol
  | .stallTime => x.stallTime
  | .tR1 => x.tR1
  | .tR2 => x.tR2
  | .tailAllowance => x.tailAllowance
  | .guard => x.guard
  | .vt => x.vt
  | .deadband => x.deadband
  | .gain => x.gain
  | .smax => x.smax
  | .highAlarm => x.highAlarm
  | .bn => x.bn
  | .stub => x.stub
  | .mc => x.mc
  | .strikeThreshold => x.strikeThreshold
  | .holdThreshold => x.holdThreshold
  | .heatThreshold => x.heatThreshold

def ProjParams.set (x : ProjParams) (q : ProjParam) (r : ParamRec) : ProjParams :=
  match q with
  | .snom => { x with snom := r }
  | .tol => { x with tol := r }
  | .stallTime => { x with stallTime := r }
  | .tR1 => { x with tR1 := r }
  | .tR2 => { x with tR2 := r }
  | .tailAllowance => { x with tailAllowance := r }
  | .guard => { x with guard := r }
  | .vt => { x with vt := r }
  | .deadband => { x with deadband := r }
  | .gain => { x with gain := r }
  | .smax => { x with smax := r }
  | .highAlarm => { x with highAlarm := r }
  | .bn => { x with bn := r }
  | .stub => { x with stub := r }
  | .mc => { x with mc := r }
  | .strikeThreshold => { x with strikeThreshold := r }
  | .holdThreshold => { x with holdThreshold := r }
  | .heatThreshold => { x with heatThreshold := r }

def DevParams.get (x : DevParams) : DevParam → ParamRec
  | .tH1 => x.tH1
  | .tH2 => x.tH2
  | .brkMask => x.brkMask
  | .brkLevel => x.brkLevel
  | .brkFade => x.brkFade
  | .restoreFade => x.restoreFade
  | .autoResume => x.autoResume

def DevParams.set (x : DevParams) (q : DevParam) (r : ParamRec) : DevParams :=
  match q with
  | .tH1 => { x with tH1 := r }
  | .tH2 => { x with tH2 := r }
  | .brkMask => { x with brkMask := r }
  | .brkLevel => { x with brkLevel := r }
  | .brkFade => { x with brkFade := r }
  | .restoreFade => { x with restoreFade := r }
  | .autoResume => { x with autoResume := r }

/-- R184: the held value of a per-projector parameter. -/
def State.held (s : State) (p : Projector) (q : ProjParam) : Nat := ((s.par.proj.get p).get q).held

/-- R184: the held value of a device parameter. -/
def State.heldDev (s : State) (q : DevParam) : Nat := (s.par.dev.get q).held

/-! ### Division that rounds up -/

/-- ceil(n / d), for d above 0. -/
def ceilDiv (n d : Nat) : Nat := (n + d - 1) / d

/-! ### Plan reads -/

/-- R2: L, the length in frames. -/
def Entry.frames (e : Entry) : Nat := e.feet * 16

/-- R8: an entry with no break after it. -/
def Entry.noBreak (e : Entry) : Bool := decide (e.brk = .absent)

/-- The first index, counting from i, whose entry satisfies the test. -/
def searchFrom (test : Entry → Bool) (i : Nat) : List Entry → Option Nat
  | [] => none
  | e :: es => if test e then some i else searchFrom test (i + 1) es

/-- R17: the states of an entry that the search stops at, after the position. -/
def EntryState.ahead : EntryState → Bool
  | .pending | .threaded | .armed | .running => true
  | .done | .skipped => false

/-- R17: the states in which the entry at the position is the next entry. -/
def EntryState.waiting : EntryState → Bool
  | .pending | .threaded | .armed => true
  | .running | .done | .skipped => false

namespace State

def entryAt (s : State) (i : Nat) : Option Entry := s.plan.entries[i]?

/-- R17: the next entry. -/
def nextEntry (s : State) : Option Nat :=
  match s.prog.position with
  | none => searchFrom (fun e => e.state.ahead) 0 s.plan.entries
  | some i =>
    if (s.entryAt i).any (fun e => e.state.waiting) then some i
    else searchFrom (fun e => e.state.ahead) (i + 1) (s.plan.entries.drop (i + 1))

/-- R18: a projector's next entry. -/
def nextFor (s : State) (p : Projector) : Option Nat :=
  let start := s.prog.position.getD 0
  searchFrom (fun e => decide (e.projector = p) && decide (e.state = .pending)) start (s.plan.entries.drop start)

/-- The entry a channel is linked to (R5). -/
def entryOf (s : State) (p : Projector) : Option Entry := (s.chanOf p).entry.bind s.entryAt

/-- The channel linked to an entry (R5). -/
def linkedTo (s : State) (i : Nat) : Option Projector :=
  if (s.chanOf .a).entry = some i then some .a
  else if (s.chanOf .b).entry = some i then some .b
  else none

/-- The channel linked to the next entry. -/
def nextChannel (s : State) : Option Projector := s.nextEntry.bind s.linkedTo

/-- The channel of p is linked to the next entry. -/
def isNext (s : State) (p : Projector) : Bool :=
  match s.nextEntry with
  | some i => decide ((s.chanOf p).entry = some i)
  | none => false

end State

/-! ### Motion reads -/

/-- R25: the measured speed. -/
def Motion.speed10 (m : Motion) : Nat :=
  if m.ring.length = Config.ringSize then 800000 / m.ring.sum else 0

namespace State

/-- R28: the remaining frames of a channel linked to an entry. -/
def remaining (s : State) (p : Projector) : Option Nat :=
  (s.entryOf p).map fun e => e.frames - (s.motionOf p).frames

/-- R28: the remaining frames, where a rule reads them of a linked channel. -/
def rf (s : State) (p : Projector) : Nat := (s.remaining p).getD 0

/-- R29: the remaining time, in tenths. -/
def remainingTime (s : State) (p : Projector) : Option Nat :=
  (s.remaining p).map fun r =>
    let speed := (s.motionOf p).speed10
    let per := if speed = 0 then s.held p .snom else speed
    min (ceilDiv (r * 100) per) Config.maxHalf

/-- R74: whole tenths since the motor start, held at 255 (log 11). -/
def tenthsSinceStart (s : State) (p : Projector) : Nat :=
  min ((s.motionCount - (s.motionOf p).motorStart) / Config.countsPerTenth) 255

end State

/-! ### Arc reads -/

namespace State

/-- R90: the burn rate B. -/
def burnRate (s : State) (p : Projector) : Nat :=
  if Config.bucketRing ≤ (s.arcOf p).completed then (s.arcOf p).ring.sum else s.held p .bn

/-- R91: the carbon time Ct. -/
def carbonTime (s : State) (p : Projector) : Nat :=
  let stub := s.held p .stub
  if (s.arcOf p).carbon ≤ stub then 0
  else if s.burnRate p = 0 then Config.maxHalf
  else min (((s.arcOf p).carbon - stub) * 600 / s.burnRate p) Config.maxHalf

/-- R48: the time the rest of the reel needs at the nominal speed. -/
def requiredTime (s : State) (p : Projector) : Nat := ceilDiv (s.rf p * 100) (s.held p .snom)

/-- R43: a channel's picture conditions. -/
def pictureConditions (s : State) (p : Projector) : Bool :=
  decide ((s.shutterOf p.port).state = .held) && decide ((s.arcOf p).state = .lit) && !s.fire.lockout

/-- R43: a channel is ready for picture. -/
def readyForPicture (s : State) (p : Projector) : Bool :=
  decide ((s.chanOf p).state = .ready) && s.pictureConditions p

end State

end Machine

end Sys2Proof
end

