-- ==== Sys2Proof/Machine/Flags.lean ====
section
/-! DEFINITION. Flags: the booth summary (R175, R193) and the flag bytes of the replies and of the STATUS sections
(R196). -/

namespace Sys2Proof.Machine

/-- R193: the token field. -/
def tokenCode : Option Projector → Byte
  | none => 0
  | some .a => 1
  | some .b => 2

/-- R196: the sound selector's code in STATUS SHOW. -/
def soundCode : Option Projector → Byte
  | some .a => 0
  | some .b => 1
  | none => 2

/-- R175, R193: the booth summary on a link, with the count of notices that wait. -/
def State.summary (s : State) (k : Link) (waiting : Nat) : List Byte :=
  [byte (s.prog.position.getD 0 * 16 + min waiting 15),
   byte ((tokenCode s.token).toNat * 64 + s.prog.state.number * 8 + k.discard.toNat * 4 + k.overrun.toNat * 2 +
     k.lost.toNat)]

/-- R196: bit 0 open made, bit 1 closed made. -/
def sensesByte (s : State) (sh : Shutter) : Byte :=
  flagByte [s.inputs.openSense.atShutter sh, s.inputs.closedSense.atShutter sh]

/-- R196, STATUS PROJECTOR: the channel's flags. -/
def channelFlags (c : Channel) (m : Motion) : Byte :=
  flagByte [c.motorCueTaken, c.changeTaken, c.deferred, c.openOnReady, c.pastPicture, c.douser, c.motor, m.atSpeed]

/-- R196, STATUS FIRE: a shutter's outputs and senses. -/
def shutterFlags (s : State) (sh : Shutter) : Byte :=
  let x := s.shutterOf sh
  flagByte [x.lift, x.hold, s.inputs.openSense.atShutter sh, s.inputs.closedSense.atShutter sh]

/-- R196: a lighting group's flags. -/
def groupFlags (g : GroupRec) : Byte := flagByte [g.active, g.save.isSome]

/-- R195: byte 8 of the pack record. -/
def packFlags (x : Pack) : Byte := flagByte [x.isPresent, x.loadFail, x.sent.isSome]

/-- R196, STATUS LINKS: a link's flags. -/
def linkFlags (k : Link) : Byte := flagByte [k.discard, k.overrun, k.lost]

end Sys2Proof.Machine
end

