-- ==== Sys2Proof/Machine/Notices.lean ====
section
/-! DEFINITION. LNK's sending side: notices routed (R178) and queued (R180, R181), frames built (R192), and the
transmitter's choice (R176). -/

namespace Sys2Proof.Machine

/-! ### The notice queue -/

/-- R180: a queued notice that a new one of a coalescing kind replaces. -/
def Notice.sameSubject (m n : Notice) : Bool := decide (m.kind = n.kind) && decide (m.subject = n.subject)

/-- R181: the queue without its oldest notice of a kind other than FIRE and FIRE_CLEARED. -/
def displaceOldest (q : List Notice) : List Notice := q.eraseP fun m => !m.kind.isFire

/-- R180, R181: a copy joins a link's notice queue. -/
def Link.enqueue (k : Link) (n : Notice) : Link :=
  if n.kind.coalesces && k.notices.any (fun m => m.sameSubject n) then
    { k with notices := k.notices.map fun m =>
        if m.sameSubject n then { m with clock := n.clock, data := n.data } else m }
  else if k.notices.length < Config.noticeLimit then { k with notices := k.notices ++ [n] }
  else if n.kind.isFire && k.notices.any (fun m => !m.kind.isFire) then
    { k with notices := displaceOldest k.notices ++ [n], lost := true }
  else { k with lost := true }

/-- R178: whether a mask sends a notice to a role. -/
def admits (mask : BitVec 3) (n : Notice) (r : Role) : Bool :=
  mask.getLsbD r.bit &&
    (if n.kind.ofProjector then
      match r.own with
      | some p => decide (n.subject = p.code)
      | none => true
    else true)

/-- R172, R178: the copy of a notice that reaches a link. ROLE_CHANGE is not placed on the queue of the link it
reports. -/
def deliver (mask : BitVec 3) (n : Notice) (l : Connector) (k : Link) : Link :=
  match k.binding with
  | none => k
  | some r =>
    if admits mask n r && !(decide (n.kind = .roleChange) && decide (n.subject = l.code)) then k.enqueue n else k

namespace State

/-- R178: the routing mask of a kind. -/
def maskOf (s : State) (kind : NoticeKind) : BitVec 3 := s.routing[kind.index]

/-- R178: one copy of a notice to each link it reaches. -/
def route (n : Notice) (s : State) : State :=
  { s with links :=
      ⟨deliver (s.maskOf n.kind) n .a s.links.a, deliver (s.maskOf n.kind) n .b s.links.b,
        deliver (s.maskOf n.kind) n .h s.links.h⟩ }

/-- R177: a notice generated now carries the show-clock seconds as they stand. -/
def noticeNow (s : State) (kind : NoticeKind) (subject : Byte) (data : List Byte) : Notice :=
  ⟨kind, subject, s.prog.clock, data⟩

/-- R177: a block generates a notice and hands it to LNK. -/
def notify (kind : NoticeKind) (subject : Byte) (data : List Byte) (s : State) : State :=
  s.route (s.noticeNow kind subject data)

/-- The LIGHTS_DONE notices this step's actions have brought go to LNK (R121; log 8). -/
def handLights (s : State) : State :=
  s.lights.out.foldl (fun t n => t.route n) (s.setLights { s.lights with out := [] })

end State

/-! ### Frames -/

/-- The sum of bytes modulo 256. -/
def byteSum (xs : List Byte) : Byte := xs.foldl (fun acc x => acc + x) 0

/-- R192: LEN, the body and CHECK. -/
def sealedBody (body : List Byte) : List Byte :=
  let len := byte body.length
  len :: body ++ [-(byteSum (len :: body))]

/-- R192: a frame: start byte, LEN, body, CHECK. -/
def frameOf (body : List Byte) : List Byte := 0x7E :: sealedBody body

/-- R174, R196: the frame of a reply. -/
def State.replyFrame (s : State) (k : Link) (r : Reply) : List Byte :=
  frameOf (r.kind :: (s.summary k k.notices.length ++ (r.code.code :: r.data)))

/-- R197: the frame of a notice, with the count of notices still queued. -/
def State.noticeFrame (s : State) (k : Link) (n : Notice) (waiting : Nat) : List Byte :=
  frameOf (n.kind.code :: (s.summary k waiting ++ (n.subject :: (half n.clock ++ n.data))))

/-- R176: an idle transmitter chooses: the oldest reply, or else the oldest notice. A reply's summary clears DISCARD
and OVERRUN (R174); the notice that empties the queue clears NOTICES_LOST (R181). -/
def State.chosen (s : State) (k : Link) : Link :=
  match k.tx with
  | .idle =>
    match k.replies with
    | r :: rest => { k with replies := rest, tx := .reply (s.replyFrame k r), discard := false, overrun := false }
    | [] =>
      match k.notices with
      | n :: rest =>
        { k with notices := rest, tx := .notice (s.noticeFrame k n rest.length), lost := k.lost && !rest.isEmpty }
      | [] => k
  | .reply _ => k
  | .notice _ => k

namespace State

/-- R176: every idle transmitter makes its choice (log 7). -/
def startIdle (s : State) : State :=
  { s with links := ⟨s.chosen s.links.a, s.chosen s.links.b, s.chosen s.links.h⟩ }

/-- The close of every step: the step's LIGHTS_DONE notices are handed on (log 8), and idle transmitters begin
(log 7). -/
def finish (s : State) : State := s.handLights.startIdle

/-- The outcome of a command whose work is done: the next state. -/
def completed (s : State) : Host.Outcome State Fault Refusal := .next s.finish

end State

end Sys2Proof.Machine
end

