-- ==== Sys2Proof/Machine/Answers.lean ====
section
/-! DEFINITION. How LNK takes a request: the receive slot and the reply (R169, R174), the checks of R171 and the rights
of R173. -/

namespace Sys2Proof.Machine

/-- What a request leaves: the state, and the result code and data of its reply (R174). -/
structure Answer where
  state : State
  code : ResultCode
  data : List Byte
  deriving DecidableEq, Repr

/-- R196: an answer with no data. -/
def State.answer (s : State) (code : ResultCode) : Answer := ⟨s, code, []⟩

/-- OK, or ADJUSTED where a value written was changed. -/
def okOr (adjusted : Bool) : ResultCode := if adjusted then .adjusted else .ok

/-- R174: the KIND of a reply. -/
def replyKind (kind : Byte) : Byte :=
  if kind.toNat = 0 ∨ 0x80 ≤ kind.toNat then 0x80 else kind + 0x80

namespace State

/-- R169: a reply joins the reply queue of a link. -/
def queueReply (l : Connector) (r : Reply) (s : State) : State :=
  s.setLink l { s.linkOf l with replies := (s.linkOf l).replies ++ [r] }

/-- R169: a frame with a complete body has assembled; its request takes a free slot. -/
def takeSlot (l : Connector) (body : List Byte) (s : State) : State :=
  s.setLink l { s.linkOf l with stage := .hunt, assembly := [], slots := (s.linkOf l).slots ++ [body] }

/-- R169: a frame that completes while both slots are held is dropped. -/
def overrunFrame (l : Connector) (s : State) : State :=
  s.setLink l { s.linkOf l with stage := .hunt, assembly := [], overrun := true }

/-- R169: both slots of a link are held. -/
def slotsFull (s : State) (l : Connector) : Bool := decide (Config.slotLimit ≤ (s.linkOf l).slots.length)

/-- R169: a well-formed frame completes on a link, and `answer` is what its request gets. In BREAK nothing is received
(R170). -/
def takeRequest (l : Connector) (kind : Byte) (params : List Byte) (answer : State → Answer) (s : State) : State :=
  if (s.linkOf l).stage = .brk then s
  else if s.slotsFull l then s.overrunFrame l
  else
    let a := answer (s.takeSlot l (kind :: params))
    a.state.queueReply l ⟨replyKind kind, a.code, a.data⟩

end State

/-! ### Rights (R173) -/

/-- Rights of a request as R173's table gives them, by role and subject. -/
abbrev Rights (α : Type) := Role → α → Bool

def anyRole {α : Type} : Rights α := fun _ _ => true

def houseOnly {α : Type} : Rights α := fun r _ => decide (r = .h)

/-- A station's own projector. -/
def ownProjector : Rights Projector := fun r p => decide (r.own = some p)

/-- A station's own projector; the house, either. -/
def ownOrHouse : Rights Projector := fun r p => decide (r = .h) || decide (r.own = some p)

/-- A station's own port shutter; the house, any shutter. -/
def ownPortOrHouse : Rights Shutter := fun r sh => decide (r = .h) || decide (r.own.map Projector.port = some sh)

/-- R171: LNK's checks of a request other than IDENT: the binding, the subject its codes name, and the rights. -/
def screen {α : Type} (l : Connector) (subject : Option α) (rights : Rights α) (owner : α → State → Answer)
    (s : State) : Answer :=
  match (s.linkOf l).binding with
  | none => s.answer .notBound
  | some r =>
    match subject with
    | none => s.answer .badRequest
    | some x => if rights r x then owner x s else s.answer .notPermitted

end Sys2Proof.Machine
end

