-- ==== Sys2Proof/Machine/Params.lean ====
section
/-! DEFINITION. PAR: the parameter table (R185), the placing of a written value (R186, R187, R189) and the take-effect
points (R188). -/

namespace Sys2Proof.Machine

/-- R185: the take-effect points. -/
inductive TakeEffect where
  | immediate | nextInterval | nextStart | nextCycle
  deriving DecidableEq, Repr

def TakeEffect.code : TakeEffect → Byte
  | .immediate => 0
  | .nextInterval => 1
  | .nextStart => 2
  | .nextCycle => 3

/-- R185: a row of the parameter table. -/
structure ParamSpec where
  low : Nat
  high : Nat
  default : Nat
  point : TakeEffect
  deriving DecidableEq, Repr

/-- R185. T_r2's lower end is 20; its relation to T_r1 is R189's. -/
def ProjParam.row : ProjParam → ParamSpec
  | .snom => ⟨160, 300, 240, .nextStart⟩
  | .tol => ⟨1, 30, 5, .nextStart⟩
  | .stallTime => ⟨1000, 10000, 2500, .nextStart⟩
  | .tR1 => ⟨10, 100, 40, .nextStart⟩
  | .tR2 => ⟨20, 300, 100, .nextStart⟩
  | .tailAllowance => ⟨0, 480, 96, .immediate⟩
  | .guard => ⟨4, 48, 16, .nextStart⟩
  | .vt => ⟨80, 180, 120, .nextInterval⟩
  | .deadband => ⟨0, 20, 4, .nextInterval⟩
  | .gain => ⟨1, 32, 8, .nextInterval⟩
  | .smax => ⟨1, 20, 6, .nextInterval⟩
  | .highAlarm => ⟨8, 60, 20, .nextInterval⟩
  | .bn => ⟨10, 200, 70, .immediate⟩
  | .stub => ⟨200, 1000, 400, .immediate⟩
  | .mc => ⟨0, 6000, 1200, .immediate⟩
  | .strikeThreshold => ⟨20, 150, 60, .immediate⟩
  | .holdThreshold => ⟨10, 100, 40, .nextInterval⟩
  | .heatThreshold => ⟨60, 240, 150, .immediate⟩

/-- R185. A break mask is a number whose bit 0 is HOUSE. -/
def DevParam.row : DevParam → ParamSpec
  | .tH1 => ⟨5, 50, 10, .immediate⟩
  | .tH2 => ⟨10, 200, 50, .immediate⟩
  | .brkMask => ⟨0, 15, 1, .nextCycle⟩
  | .brkLevel => ⟨0, 255, 96, .nextCycle⟩
  | .brkFade => ⟨0, 600, 20, .nextCycle⟩
  | .restoreFade => ⟨0, 600, 30, .nextCycle⟩
  | .autoResume => ⟨0, 1, 1, .immediate⟩

/-- R194: the per-projector parameters in the order of their identifiers. -/
def ProjParam.all : List ProjParam :=
  [.snom, .tol, .stallTime, .tR1, .tR2, .tailAllowance, .guard, .vt, .deadband, .gain, .smax, .highAlarm, .bn, .stub,
   .mc, .strikeThreshold, .holdThreshold, .heatThreshold]

/-- R194: the device parameters in the order of their identifiers. -/
def DevParam.all : List DevParam := [.tH1, .tH2, .brkMask, .brkLevel, .brkFade, .restoreFade, .autoResume]

/-- R184: a parameter record's owner: a projector, or the booth. -/
inductive ParamRef where
  | proj (p : Projector) (q : ProjParam)
  | dev (q : DevParam)
  deriving DecidableEq, Repr

def ParamRef.row : ParamRef → ParamSpec
  | .proj _ q => q.row
  | .dev q => q.row

/-- R194: the record an identifier and a selector name: `none` for a per-projector identifier with a selector that is
no projector (LNK's subject check, R171), `some none` for an identifier that names no parameter. -/
def ParamRef.ofCodes (id proj : Byte) : Option (Option ParamRef) :=
  if id.toNat = 0 then some none
  else match ProjParam.all[id.toNat - 1]? with
    | some q => (Projector.ofCode proj).map fun p => some (.proj p q)
    | none => some ((DevParam.all[id.toNat - 19]?).map .dev)

namespace Params

def recOf (x : Params) : ParamRef → ParamRec
  | .proj p q => (x.proj.get p).get q
  | .dev q => x.dev.get q

def setRec (x : Params) (ref : ParamRef) (r : ParamRec) : Params :=
  match ref with
  | .proj p q => { x with proj := x.proj.set p ((x.proj.get p).set q r) }
  | .dev q => { x with dev := x.dev.set q r }

end Params

/-! ### Placing a value -/

/-- R186, step 2: a value in range. Bits of a break mask outside the four groups are removed; any auto-resume value
above 1 is held as 1. -/
def ParamRef.inRange (ref : ParamRef) (v : Nat) : Taken Nat :=
  match ref with
  | .dev .brkMask => ⟨v % 16, decide (16 ≤ v)⟩
  | _ => clamp ref.row.low ref.row.high v

/-- R187: a value placed as the pending value. -/
def ParamRec.placed (r : ParamRec) (v : Nat) : ParamRec :=
  if r.pending = some v then r
  else if v = r.held then { r with pending := none }
  else { r with pending := some v }

/-- R189: the effective value. -/
def ParamRec.effective (r : ParamRec) : Nat := r.pending.getD r.held

/-- R186, step 4: an IMMEDIATE value is held at once; any other is placed by R187. -/
def ParamRec.taken (r : ParamRec) (point : TakeEffect) (v : Nat) : ParamRec :=
  match point with
  | .immediate => { r with held := v }
  | .nextInterval | .nextStart | .nextCycle => r.placed v

/-- R189: the least T_r2 that a T_r1 of this many tenths allows. -/
def leastLimit (tR1 : Nat) : Nat := tR1 + 10

/-- R189: a projector's T_r2 is raised to its effective T_r1 + 10 where it is below; true where it was. -/
def ProjParams.raiseLimit (x : ProjParams) : ProjParams × Bool :=
  if x.tR2.effective < leastLimit x.tR1.effective then
    ({ x with tR2 := x.tR2.placed (leastLimit x.tR1.effective) }, true)
  else (x, false)

/-! ### Take-effect points (R188) -/

/-- R188: a present pending value becomes held. -/
def ParamRec.promoted (r : ParamRec) : ParamRec := ⟨r.effective, none⟩

/-- R188: the parameters of one take-effect point. -/
def ProjParams.promote (point : TakeEffect) (x : ProjParams) : ProjParams :=
  ProjParam.all.foldl (fun y q => if q.row.point = point then y.set q (y.get q).promoted else y) x

def DevParams.promote (point : TakeEffect) (x : DevParams) : DevParams :=
  DevParam.all.foldl (fun y q => if q.row.point = point then y.set q (y.get q).promoted else y) x

namespace State

/-- R188: the take-effect point of a projector is reached: NEXT_START at its motor start, NEXT_INTERVAL at its
regulation interval. -/
def promoteProj (p : Projector) (point : TakeEffect) (s : State) : State :=
  s.setPar { s.par with proj := s.par.proj.set p ((s.par.proj.get p).promote point) }

/-- R188: NEXT_CYCLE, at each dimmer cycle start. -/
def promoteCycle (s : State) : State := s.setPar { s.par with dev := s.par.dev.promote .nextCycle }

end State

end Sys2Proof.Machine
end

