-- ==== Sys2Proof/Machine/Lighting.lean ====
section
/-! DEFINITION. LTG: lighting actions and fades (R121, R122), break and restore (R126, R127), emergency (R129 to
R131). -/

namespace Sys2Proof.Machine

/-- R120: the target in force of a group. -/
def GroupRec.inForce (g : GroupRec) : Nat := if g.active then g.target else g.level

/-- R121: what an action leaves of a group's break save: a break and a restore keep it, any other discards it. -/
def FadeSource.keptSave (source : FadeSource) (save : Option Nat) : Option Nat :=
  if source = .brk || source = .restore then save else Option.none

/-- R121: an action applied to one group. -/
def GroupRec.applied (g : GroupRec) (level fade : Nat) (source : FadeSource) : GroupRec where
  level := if fade = 0 then level else g.level
  active := decide (fade ≠ 0)
  start := g.level
  target := level
  n := fade * Config.cyclesPerTenth
  k := 0
  source := source
  save := source.keptSave g.save

/-- R133: LIGHTS_DONE for a group, with the level reached and the source of the action. -/
def lightsDone (clock : Nat) (g : Group) (x : GroupRec) : Notice :=
  ⟨.lightsDone, g.code, clock, [byte x.level, x.source.code]⟩

namespace Lighting

def groupAt (x : Lighting) (g : Group) : GroupRec := groupOf x.groups g

def setGroup (x : Lighting) (g : Group) (r : GroupRec) : Lighting :=
  { x with groups := setGroupOf x.groups g r }

/-- R121: an action on one group; with a fade time of 0 the level is set at once and LIGHTS_DONE follows. -/
def actOn (clock level fade : Nat) (source : FadeSource) (g : Group) (x : Lighting) : Lighting :=
  let r := (x.groupAt g).applied level fade source
  let y := x.setGroup g r
  if fade = 0 then { y with out := y.out ++ [lightsDone clock g r] } else y

/-- R121, R130: an action on the groups of its mask, in the order HOUSE, STAGE, AISLE, WORK; ignored in emergency. -/
def act (clock : Nat) (mask : BitVec 4) (level fade : Nat) (source : FadeSource) (x : Lighting) : Lighting :=
  if x.emergency then x
  else Group.all.foldl (fun y g => if mask.getLsbD g.index then y.actOn clock level fade source g else y) x

/-- R126: the break action on one group: the target in force is saved unless a save is held. -/
def breakOn (clock level fade : Nat) (g : Group) (x : Lighting) : Lighting :=
  let r := x.groupAt g
  (x.setGroup g { r with save := some (r.save.getD r.inForce) }).actOn clock level fade .brk g

/-- R126: the break action. -/
def breakAction (clock : Nat) (mask : BitVec 4) (level fade : Nat) (x : Lighting) : Lighting :=
  if x.emergency then x
  else Group.all.foldl (fun y g => if mask.getLsbD g.index then y.breakOn clock level fade g else y) x

/-- R127: the restore of one group that holds a save. -/
def restoreOn (clock fade : Nat) (g : Group) (x : Lighting) : Lighting :=
  match (x.groupAt g).save with
  | none => x
  | some level =>
    let y := x.actOn clock level fade .restore g
    y.setGroup g { y.groupAt g with save := none }

/-- R127: the restore. -/
def restoreAction (clock fade : Nat) (x : Lighting) : Lighting :=
  if x.emergency then x else Group.all.foldl (fun y g => y.restoreOn clock fade g) x

/-- R129: a group in emergency. -/
def full : GroupRec := ⟨255, false, 255, 255, 0, 0, .none, none⟩

/-- R129: emergency entry. -/
def enterEmergency (x : Lighting) : Lighting := { x with groups := ⟨full, full, full, full⟩, emergency := true }

/-- R131: fire reset ends the emergency. -/
def endEmergency (x : Lighting) : Lighting := { x with emergency := false }

end Lighting

/-- R122: the level of a fade after k of its n cycles. -/
def fadeLevel (start target k n : Nat) : Nat :=
  ((start : Int) + (((target : Int) - start) * k).tdiv n).toNat

/-- R122: one fade step of a group. -/
def GroupRec.stepped (g : GroupRec) : GroupRec :=
  if g.active then
    let k := g.k + 1
    if k < g.n then { g with k := k, level := fadeLevel g.start g.target k g.n }
    else { g with k := k, level := g.target, active := false }
  else g

/-- R122: a fade ends at this step. -/
def GroupRec.ends (g : GroupRec) : Bool := g.active && !g.stepped.active

namespace State

/-- R121: an action of the plan, where one is present. -/
def applyAction (x : Option LightAction) (source : FadeSource) (s : State) : State :=
  match x with
  | none => s
  | some y => s.setLights (s.lights.act s.prog.clock y.mask y.level y.fade source)

/-- R126: SHW hands LTG the break action, of the held break parameters. -/
def applyBreak (s : State) : State :=
  s.setLights (s.lights.breakAction s.prog.clock (BitVec.ofNat 4 (s.heldDev .brkMask)) (s.heldDev .brkLevel)
    (s.heldDev .brkFade))

/-- R127: SHW hands LTG the restore, with the held restore fade. -/
def applyRestore (s : State) : State :=
  s.setLights (s.lights.restoreAction s.prog.clock (s.heldDev .restoreFade))

/-- R122, R133: the fade step of a cycle start for one group, with its LIGHTS_DONE where the fade ends. -/
def fadeStepOn (g : Group) (s : State) : State :=
  let before := s.lights.groupAt g
  let t := s.setLights (s.lights.setGroup g before.stepped)
  if before.ends then t.route (lightsDone t.prog.clock g before.stepped) else t

/-- R122: the fade step of a cycle start. -/
def fadeStep (s : State) : State := Group.all.foldl (fun t g => t.fadeStepOn g) s

end State

end Sys2Proof.Machine
end

