-- ==== Sys2Proof/Machine/Show.lean ====
section
/-! DEFINITION. SHW: what the show does when it starts (R154), loses or regains the picture (R155, R156), reaches a
picture end (R157, R158) and comes to the end of the plan (R161, R162). -/

namespace Sys2Proof.Machine

/-! ### Free values (log 10) -/

namespace State

/-- The i-th byte of this step whose value the spec does not state. -/
def freeAt (s : State) (i : Nat) : Byte := Config.freeByte (s.freeCount * 64 + i)

/-- A step that has used free bytes moves the counter on, so that the next one uses others. -/
def freeUsed (s : State) : State := { s with freeCount := s.freeCount + 1 }

end State

/-! ### The picture (R155, R156) -/

namespace State

/-- R155: CHG tells SHW that the picture has been lost. -/
def pictureLost (s : State) : State :=
  if s.prog.state = .running then (s.setProg { s.prog with state := .stalled }).applyBreak else s

/-- R156: CHG tells SHW that the picture has been regained. -/
def pictureRegained (s : State) : State :=
  if s.prog.state = .stalled then (s.setProg { s.prog with state := .running }).applyRestore else s

/-- R157: the picture end of an INTERMISSION break on the entry at index i. -/
def beginIntermission (i duration : Nat) (action : Option LightAction) (s : State) : State :=
  ((s.setProg { s.prog with
      state := .intermission
      timerEntry := some i
      timer := if duration = 0 then none else some duration }).applyAction action .intermission).notify
    .intermissionStart (byte i) (half duration ++ [byte s.plan.passNumber])

/-- R158: the picture end of an END break on the entry at index i. -/
def endShow (i : Nat) (action : Option LightAction) (s : State) : State :=
  ((s.setProg { s.prog with state := .ended }).applyAction action .ending).notify
    .showEnd (byte i) [0, byte s.plan.passNumber, byte s.plan.repeatCount]

/-- R157, R158: CHG tells SHW of the picture end of the entry at index i, with its break. -/
def showPictureEnd (i : Nat) (brk : BreakAfter) (s : State) : State :=
  if s.prog.state = .running ∨ s.prog.state = .stalled then
    match brk with
    | .absent => s
    | .intermission duration action => s.beginIntermission i duration action
    | .ending action => s.endShow i action
  else s

/-! ### The end of the plan (R161, R162) -/

/-- R161: the plan is exhausted. -/
def exhausted (s : State) : Bool :=
  s.plan.entries.any (fun e => decide (e.state = .done)) &&
  !s.plan.entries.any (fun e => decide (e.state = .armed) || decide (e.state = .running)) &&
  s.nextEntry.isNone

end State

/-- R162, R16: an entry brought back for another showing. -/
def Entry.renewed (e : Entry) : Entry := { e with state := .pending, framesRun := none }

namespace State

/-- R162: pass rollover. -/
def rollover (s : State) : State :=
  let pass := min (s.plan.passNumber + 1) 255
  ((s.setPlan { s.plan with
      passNumber := pass
      entries := s.plan.entries.map fun e => if e.state = .done then e.renewed else e }).setProg
    { s.prog with
      position := none
      clock := 0
      tenths := 0
      clockStarted := false
      state := .idle
      lastDone := none }).notify .passStart 0xFF [byte pass, byte s.plan.repeatCount]

/-- R162: rollover is made when the repeat count is 0 or greater than the pass number. -/
def decideRollover (s : State) : State :=
  if s.plan.repeatCount = 0 ∨ s.plan.passNumber < s.plan.repeatCount then s.rollover else s

/-- R161: the test for exhaustion, made at a reel done or elsewhere. -/
def testExhausted (atReelDone : Bool) (s : State) : State :=
  if s.exhausted then
    match s.prog.state with
    | .idle | .stalled | .intermission =>
      ((s.setProg { s.prog with state := .ended, timer := none, timerEntry := none }).notify
        .showEnd (indexByte s.prog.lastDone) [1, byte s.plan.passNumber, byte s.plan.repeatCount]).decideRollover
    | .ended => if atReelDone then s.decideRollover else s
    | .running | .fireStop => s
  else s

/-! ### Starting the show (R154) -/

/-- R154: what SHW does with a START_SHOW that CHG has taken; a panel's, or the internal one of an intermission
resume, whose INTERMISSION_END has been sent. -/
def showStarted (byPanel : Bool) (s : State) : State :=
  let running : Progress := { s.prog with
    state := .running, timer := none, timerEntry := none, clockStarted := true }
  match s.prog.state with
  | .idle => s.setProg { s.prog with state := .running, clockStarted := true }
  | .stalled => (s.setProg { s.prog with state := .running, clockStarted := true }).applyRestore
  | .intermission =>
    if byPanel then
      match s.prog.timer with
      | some n =>
        (s.notify .intermissionEnd (indexByte s.prog.timerEntry) (0 :: 0 :: half n)).setProg running
      | none =>
        ((s.notify .intermissionEnd (indexByte s.prog.timerEntry) [0, 0, s.freeAt 0, s.freeAt 1]).setProg
          running).freeUsed
    else s.setProg running
  | .running | .ended | .fireStop => s

/-- R163: the show clock runs. -/
def clockRuns (s : State) : Bool :=
  s.prog.clockStarted &&
    (decide (s.prog.state = .running) || decide (s.prog.state = .intermission) || decide (s.prog.state = .stalled))

/-- R164, R116: what the show becomes at fire reset. -/
def showAfterFire (s : State) : ShowState :=
  if s.plan.entries.isEmpty || s.exhausted then .ended else .stalled

end State

end Sys2Proof.Machine
end

