-- ==== Sys2Proof/Machine/DimmerBus.lean ====
section
/-! DEFINITION. DBM: dimmer cycles (R136, R139), level packets and replies (R138, R140, R141), identify rounds (R143,
R144), the bus reset and enumeration (R145, R146), and the bus events of the table. -/

namespace Sys2Proof.Machine

/-! ### Messages on the dimmer bus (R195) -/

/-- R195: a message with the check byte that makes its bytes sum to 0. -/
def busMessage (xs : List Byte) : List Byte := xs ++ [-(byteSum xs)]

def markerMessage (cycle : Nat) : List Byte := busMessage [0xA0, byte cycle]

def levelMessage (address level : Nat) : List Byte := busMessage [byte (0xB0 + address), byte level]

def identifyCall : List Byte := busMessage [0xD0]

def assignMessage (x : Serial) (address : Nat) : List Byte :=
  busMessage (0xE0 :: (serialBytes x ++ [byte address]))

def ackMessage (address : Nat) : List Byte := busMessage [0xF0, byte address]

/-- R195: a pack's reply to a level packet: OK, or LOAD_FAIL. -/
def replyMessage (loadFail : Bool) (address : Nat) : List Byte :=
  busMessage [if loadFail then 0xC1 else 0xC0, byte address]

/-- R140, R195: what a reply window has read: OK (false), LOAD_FAIL (true), or a miss. -/
def readReply (address : Nat) (reply : List Byte) : Option Bool :=
  if reply = replyMessage false address then some false
  else if reply = replyMessage true address then some true
  else none

/-! ### The pack table -/

namespace Bus

/-- R137: an entry is found by its address. -/
def packAt (b : Bus) (a : Nat) : Option Pack := b.packs.find? fun x => decide (x.address = a)

/-- The entry of a serial. -/
def packOf (b : Bus) (serial : Serial) : Option Pack := b.packs.find? fun x => decide (x.serial = serial)

/-- The entry at an address changed. -/
def modPack (a : Nat) (f : Pack → Pack) (b : Bus) : Bus :=
  { b with packs := b.packs.map fun x => if x.address = a then f x else x }

/-- R138: P, worked from the snapshot. -/
def packLevel (b : Bus) (x : Pack) : Nat :=
  match x.group with
  | none => 0
  | some g => groupOf b.snapshot g * x.top / 255

/-- R139: an entry needs a packet. -/
def needsPacket (b : Bus) (x : Pack) : Bool :=
  x.isPresent && (decide (x.sent ≠ some (b.packLevel x)) || decide (Config.refreshCycles ≤ x.since))

/-- R139: the addresses in round-robin order, from the one after the pointer. -/
def scanOrder (b : Bus) : List Nat := (List.range Config.packLimit).map fun i => (b.pointer + i) % Config.packLimit + 1

/-- R139: the addresses chosen within a budget. -/
def chosenPacks (b : Bus) (budget : Nat) : List Nat :=
  (b.scanOrder.filter fun a => (b.packAt a).any b.needsPacket).take budget

/-- R139: the packets of a cycle are planned, and the pointer moves to the last of them. -/
def planPackets (budget : Nat) (b : Bus) : Bus :=
  let chosen := b.chosenPacks budget
  { b with plan := chosen, pointer := chosen.getLastD b.pointer }

/-- R144: the lowest address that no entry holds and that is not withheld. -/
def freeAddress (b : Bus) : Option Nat :=
  ((List.range Config.packLimit).map (· + 1)).find? fun a => (b.packAt a).isNone && !b.withheld.contains a

/-- R144: the address given to a serial; 0 parks. -/
def addressFor (b : Bus) (serial : Serial) : Nat :=
  match b.packOf serial with
  | some x => x.address
  | none => b.freeAddress.getD 0

end Bus

/-- R144: a new entry. -/
def Pack.fresh (serial : Serial) (address : Nat) : Pack := ⟨serial, address, none, 255, none, 0, true, false, 0⟩

/-- The pack table is held in ascending address (R137 gives it no order of its own). -/
def insertPack (x : Pack) : List Pack → List Pack
  | [] => [x]
  | y :: ys => if x.address < y.address then x :: y :: ys else y :: insertPack x ys

/-- R145: an entry at the break of a bus reset. -/
def Pack.dropped (x : Pack) : Pack := { x with isPresent := false, misses := 0, sent := none }

/-! ### The serial read in an identify round (R143) -/

/-- R143: one bit slot: the line reads low if any contender drives 0, and those that left it for a 1 then drop out. -/
def bitSlot (i : Nat) (round : List Serial × Nat) : List Serial × Nat :=
  let line := round.1.all fun x => x.getLsbD i
  (round.1.filter fun x => x.getLsbD i == line, 2 * round.2 + line.toNat)

/-- R143: the 24 bits the part reads, bit 23 first. -/
def readSerial (contenders : List Serial) : Serial :=
  BitVec.ofNat 24 (((List.range 24).reverse.foldl (fun r i => bitSlot i r) (contenders, 0)).2)

/-! ### Cycle starts (R136) -/

namespace Bus

/-- R136, step 2, R145: a pending reset begins its break. -/
def beginBreak (now : Nat) (b : Bus) : Bus :=
  { b with
    state := .brk
    breakEnded := false
    breakDue := now + Config.busBreakCounts
    parked := 0
    withheld := []
    packs := b.packs.map Pack.dropped }

/-- R136, step 5, BREAK: a cycle start that finds the break ended begins the enumeration. -/
def leaveBreak (b : Bus) : Bus :=
  if b.state = .brk ∧ b.breakEnded then { b with state := .enumerating, rounds := 0 } else b

/-- R136, steps 1 to 4, with the snapshot of the levels after the fade step. -/
def cycleBegins (now : Nat) (levels : Quad Nat) (b : Bus) : Bus :=
  let c := { b with cycle := (b.cycle + 1) % 256, plan := [], roundDue := false, window := none, snapshot := levels }
  let d := if c.state = .resetPending then c.beginBreak now else c
  { d with packs := d.packs.map fun x => { x with since := min (x.since + 1) 255 } }

/-- R136, steps 5 and 6: the cycle is planned, and its first messages go out. -/
def cyclePlanned (b : Bus) : Bus :=
  let c := b.leaveBreak
  match c.state with
  | .normal | .resetPending =>
    let n := (c.identify + 1) % Config.identifyPeriod
    if n = 0 then
      { c.planPackets Config.roundBudget with
        identify := n, roundDue := true, out := [markerMessage c.cycle, identifyCall] }
    else { c.planPackets Config.fullBudget with identify := n, out := [markerMessage c.cycle] }
  | .brk => { c with out := [] }
  | .enumerating => { c with roundDue := true, out := [markerMessage c.cycle, identifyCall] }

/-- R146: the counts that BUS_RESET_DONE and STATUS give. -/
def presentCount (b : Bus) : Nat := b.packs.countP fun x => x.isPresent

def absentCount (b : Bus) : Nat := b.packs.countP fun x => !x.isPresent

end Bus

/-- The four levels of the lighting groups (R132). -/
def Lighting.levels (x : Lighting) : Quad Nat :=
  ⟨x.groups.w.level, x.groups.x.level, x.groups.y.level, x.groups.z.level⟩

/-- R150: the events of PACK_EVENT. -/
inductive PackChange where
  | found | absent | returned | loadFail | tableFull
  deriving DecidableEq, Repr

def PackChange.code : PackChange → Byte
  | .found => 0
  | .absent => 1
  | .returned => 2
  | .loadFail => 3
  | .tableFull => 4

namespace State

def modBus (f : Bus → Bus) (s : State) : State := s.setBus (f s.bus)

/-- R150: PACK_EVENT of an entry. -/
def packNotice (change : PackChange) (x : Pack) (s : State) : State :=
  s.notify .packEvent (byte x.address)
    (change.code :: (serialBytes x.serial ++ [Group.packCode x.group, marker x.loadFail]))

/-- R144, R150: PACK_EVENT table-full: subject 0, group FFh (log 29). -/
def tableFullNotice (serial : Serial) (s : State) : State :=
  s.notify .packEvent 0 (PackChange.tableFull.code :: (serialBytes serial ++ [0xFF, 0]))

/-- R136, R122, R188: a dimmer cycle start. -/
def cycleStart (s : State) : State :=
  let now := max s.motionCount s.bus.cycleDue
  let t := ((s.passTo s.bus.cycleDue).promoteCycle).fadeStep
  t.setBus { ((t.bus.cycleBegins now t.lights.levels).cyclePlanned) with
    cycleDue := t.bus.cycleDue + Config.cycleCounts }

/-! ### Level packets (R140, R141) -/

/-- R140: the first planned packet goes out, where its slot has come: no round is still to be made and no window is
open (log 19). A pack that the cycle's own round has bound again since it was planned is sent it too (log 49). -/
def sendPacket (s : State) : State :=
  let b := s.bus
  if b.roundDue || b.window.isSome then s
  else
    match b.plan with
    | [] => s
    | a :: rest =>
      match b.packAt a with
      | none => s.setBus { b with plan := rest, out := [] }
      | some x =>
        s.setBus { b.modPack a (fun y => { y with sent := some (b.packLevel x), since := 0 }) with
          plan := rest, window := some a, out := [levelMessage a (b.packLevel x)] }

/-- R140, R141: a miss. -/
def packMisses (x : Pack) (s : State) : State :=
  let misses := min (x.misses + 1) Config.missLimit
  let gone := decide (misses = Config.missLimit)
  let y : Pack := { x with sent := none, misses := misses, isPresent := x.isPresent && !gone }
  let t := s.modBus fun b => b.modPack x.address fun _ => y
  if gone && x.isPresent then t.packNotice .absent y else t

/-- R140: an OK or LOAD_FAIL reply; PACK_EVENT load-fail follows a change of the flag. -/
def packAnswers (loadFail : Bool) (x : Pack) (s : State) : State :=
  let y : Pack := { x with misses := 0, loadFail := loadFail }
  let t := s.modBus fun b => b.modPack x.address fun _ => y
  if x.loadFail = loadFail then t else t.packNotice .loadFail y

/-- R140: the end of a reply window. -/
def windowEnds (reply : List Byte) (s : State) : State :=
  match s.bus.window with
  | none => s
  | some a =>
    let t := s.setBus { s.bus with window := none, out := [] }
    match t.bus.packAt a with
    | none => t
    | some x =>
      match readReply a reply with
      | some flag => t.packAnswers flag x
      | none => t.packMisses x

/-! ### Identify rounds (R143, R144, R146) -/

/-- R144: an acknowledged round. The plan of the cycle stays as it was made, also where it holds the pack that returns
(log 49). -/
def roundWon (serial : Serial) (s : State) : State :=
  match s.bus.packOf serial with
  | some x =>
    let y : Pack := { x with isPresent := true, misses := 0, sent := none }
    (s.modBus fun b => b.modPack x.address fun _ => y).packNotice .returned y
  | none =>
    match s.bus.freeAddress with
    | some a =>
      let y := Pack.fresh serial a
      (s.modBus fun b => { b with packs := insertPack y b.packs }).packNotice .found y
    | none => (s.modBus fun b => { b with parked := min (b.parked + 1) 255 }).tableFullNotice serial

/-- R143: a void round withholds an address given to a serial that is not in the table. -/
def roundVoid (serial : Serial) (s : State) : State :=
  let a := s.bus.addressFor serial
  if a = 0 ∨ (s.bus.packOf serial).isSome then s
  else s.modBus fun b => { b with withheld := if b.withheld.contains a then b.withheld else b.withheld ++ [a] }

/-- R143, R144: the round after its presence slot, with the acknowledge read. The address is chosen and the serial
looked up here, from one table (log 50). -/
def roundAnswered (contenders : List Serial) (ack : List Byte) (s : State) : State :=
  let serial := readSerial contenders
  let a := s.bus.addressFor serial
  let t := s.modBus fun b => { b with out := [assignMessage serial a] }
  if ack = ackMessage a then t.roundWon serial else t.roundVoid serial

/-- R146: the end of enumeration, complete or cut short. -/
def enumerated (complete : Bool) (s : State) : State :=
  let t := s.modBus fun b => { b with state := .normal, identify := 0 }
  t.notify .busResetDone 0xFF
    [byte t.bus.presentCount, byte t.bus.absentCount, byte t.bus.parked, byte t.bus.rounds, marker complete]

/-- R146: a round made in ENUMERATING is counted, and may end it. -/
def countRound (answered : Bool) (s : State) : State :=
  if s.bus.state = .enumerating then
    let t := s.modBus fun b => { b with rounds := b.rounds + 1 }
    if !answered then t.enumerated true
    else if t.bus.rounds = Config.enumerationLimit then t.enumerated false
    else t
  else s

/-- R143, R146: the end of the identify round of a cycle, where one is due. -/
def roundEnds (contenders : List Serial) (ack : List Byte) (s : State) : State :=
  if s.bus.roundDue then
    let t := s.modBus fun b => { b with roundDue := false, out := [] }
    if contenders.isEmpty then t.countRound false else (t.roundAnswered contenders ack).countRound true
  else s

/-- R145: the 50 ms of a break have passed. -/
def breakEnds (s : State) : State :=
  if s.bus.state = .brk then (s.passTo s.bus.breakDue).modBus fun b => { b with breakEnded := true } else s

end State

/-- DIMMER_CYCLE_START (R136). -/
def execDimmerCycleStart (s : State) : Host.Outcome State Fault Refusal := s.cycleStart.completed

/-- BUS_BREAK_END (R145). -/
def execBusBreakEnd (s : State) : Host.Outcome State Fault Refusal := s.breakEnds.completed

/-- LEVEL_PACKET_SENT (R140). -/
def execLevelPacketSent (s : State) : Host.Outcome State Fault Refusal := s.sendPacket.completed

/-- LEVEL_REPLY_WINDOW_END (R140), with the bytes read in the window. -/
def execLevelReplyWindowEnd (reply : List Byte) (s : State) : Host.Outcome State Fault Refusal :=
  (s.windowEnds reply).completed

/-- IDENTIFY_ROUND_END (R143, R144), with the packs that contend and the bytes of the acknowledge. -/
def execIdentifyRoundEnd (contenders : List Serial) (ack : List Byte) (s : State) : Host.Outcome State Fault Refusal :=
  (s.roundEnds contenders ack).completed

end Sys2Proof.Machine
end

