-- ==== Sys2Proof/Machine/Changeover.lean ====
section
/-! DEFINITION. CHG: what changes a projector channel, the token, the dousers and the sound, other than a request
(03_changeover.md). A definition that reads `s` before its change takes what it needs first; each is one step of the
rule it cites. -/

namespace Sys2Proof.Machine

namespace State

def modChan (p : Projector) (f : Channel → Channel) (s : State) : State := s.setChan p (f (s.chanOf p))

def modMotion (p : Projector) (f : Motion → Motion) (s : State) : State := s.setMotion p (f (s.motionOf p))

/-- R4: an entry's state. -/
def setEntryState (i : Nat) (x : EntryState) (s : State) : State :=
  s.setPlan { s.plan with entries := s.plan.entries.modify i fun e => { e with state := x } }

/-- R4: the state of the entry a channel is linked to. -/
def setLinkedState (p : Projector) (x : EntryState) (s : State) : State :=
  match (s.chanOf p).entry with
  | some i => s.setEntryState i x
  | none => s

/-- R153: the plan position moves to the entry of a channel. -/
def positionTo (p : Projector) (s : State) : State := s.setProg { s.prog with position := (s.chanOf p).entry }

/-- The reel on the channel carries a break after it (R3). -/
def hasBreak (s : State) (p : Projector) : Bool := (s.entryOf p).any fun e => !e.noBreak

/-! ### Halts (R24, R69, R70) -/

/-- R24, R42: a motor stop. -/
def stopMotor (p : Projector) (s : State) : State :=
  (s.modChan p fun c => { c with motor := false }).modMotion p fun m =>
    { m with ring := [], atSpeed := false, stallWatch := none }

end State

/-- R69: the causes of a halt. -/
inductive HaltCause where
  | filmBreak | stall | runupFail | heat | request | fire
  deriving DecidableEq, Repr

namespace State

/-- R69, R74: the notice of a halt, from the state before it. -/
def haltNotice (p : Projector) (cause : HaltCause) (s : State) (before : State) : State :=
  match cause with
  | .filmBreak =>
    s.notify .filmBreak p.code (half (before.motionOf p).frames ++ [(before.chanOf p).state.code])
  | .stall => s.notify .motorStall p.code (half (before.motionOf p).frames)
  | .runupFail => s.notify .runupFail p.code (half (before.motionOf p).speed10)
  | .heat | .request | .fire => s

/-- R69: the channel's own part of a halt. -/
def toHalted (p : Projector) (s : State) : State :=
  (s.stopMotor p).modChan p fun c => { c with
    state := .halted, douser := false, runup := .none, runupDue := none, deferred := false, openOnReady := false }

/-- R69: a channel enters HALTED, from a state in which its motor runs. -/
def halt (p : Projector) (cause : HaltCause) (s : State) : State :=
  if (s.chanOf p).state.running then
    let held := decide (s.token = some p)
    let halted := s.toHalted p
    let t := (if held then halted.setToken none else halted).haltNotice p cause s
    if (held || (s.chanOf p).openOnReady) && decide (cause ≠ .fire) then t.pictureLost else t
  else s

/-- R50, R70: an ARMED channel returns to THREADED, and its entry. -/
def disarmChannel (p : Projector) (s : State) : State :=
  (s.setLinkedState p .threaded).modChan p fun c => { c with state := .threaded }

/-- R70: fire entry and heat stage 1 on a channel. -/
def makeSafe (p : Projector) (cause : HaltCause) (s : State) : State :=
  if (s.chanOf p).state = .armed then s.disarmChannel p else s.halt p cause

/-! ### Motor start (R51, R49) -/

/-- R51: a motor start, up to the film test. -/
def motorRuns (p : Projector) (s : State) : State :=
  let t := s.promoteProj p .nextStart
  ((t.setLinkedState p .running).modChan p fun c => { c with
      state := .starting
      motor := true
      runup := .one
      runupDue := some (t.tenthsFromNow (t.held p .tR1)) }).modMotion p fun m => { m with
    ring := []
    atSpeed := false
    pulseRef := t.motionCount
    speedReached := false
    stallWatch := none
    motorStart := t.motionCount }

/-- R35: at a motor start with the film-present state OPEN, the film break follows at once. -/
def filmAtStart (p : Projector) (s : State) : State :=
  if (s.motionOf p).filmClosed then s else s.halt p .filmBreak

/-- R51: a motor start. -/
def startMotor (p : Projector) (s : State) : State := (s.motorRuns p).filmAtStart p

/-- R49: what the late start test of channel q looks for in the other channel. -/
def lateStartDue (q : Projector) (s : State) : Bool :=
  let o := s.chanOf q.other
  (decide (s.token = some q.other) && !s.hasBreak q.other && (o.motorCueTaken || o.deferred)) ||
    (decide (o.state = .tail) && o.deferred)

/-- R49: the late start test of channel q. -/
def lateStart (q : Projector) (s : State) : State :=
  if decide ((s.chanOf q).state = .armed) && s.isNext q && s.lateStartDue q then s.startMotor q else s

/-! ### The picture (R58 to R68) -/

/-- R41, R42: a channel takes the screen: ON_SCREEN, douser open, token and sound. -/
def takeScreen (p : Projector) (s : State) : State :=
  (s.modChan p fun c => { c with state := .onScreen, douser := true }).setToken (some p)

/-- R59, R60, R62: a holder's reel leaves the screen. -/
def leaveScreen (p : Projector) (deferred : Bool) (s : State) : State :=
  s.modChan p fun c => { c with state := .tail, douser := false, pastPicture := true, deferred := deferred }

end State

/-- R60, R61, R63: how a swap comes about. -/
inductive SwapKind where
  | cue | late | request
  deriving DecidableEq, Repr

namespace State

/-- R60, R61, R63, R74: the notice of a swap, from the state before it. -/
def swapNotice (out inc : Projector) (kind : SwapKind) (s : State) (before : State) : State :=
  let position := indexByte s.prog.position
  match kind with
  | .cue => s.notify .changeover inc.code (half (before.rf out) ++ [position, 0])
  | .request => s.notify .changeover inc.code (half (before.rf out) ++ [position, 1])
  | .late =>
    let e := ((before.entryOf out).map (·.allowance)).getD 0
    s.notify .lateChangeover inc.code (signedHalf ((e : Int) - before.rf out) ++ [position])

/-- R124: the start action of a channel's entry. -/
def applyStart (p : Projector) (s : State) : State :=
  s.applyAction ((s.entryOf p).bind (·.startAction)) .start

/-- R60: the swap from the holder to the incoming channel. From DARK, the start action comes before the restore
(log 44). -/
def swap (out inc : Projector) (kind : SwapKind) (s : State) : State :=
  let t := ((((s.leaveScreen out false).takeScreen inc).positionTo inc).swapNotice out inc kind s).applyStart inc
  if (s.chanOf out).state = .dark then t.pictureRegained else t

/-- R68: a channel carrying open on ready goes on screen. A reel whose changeover point has been taken is deferred at
once, before the late start test of the other channel (log 24). -/
def openScreen (p : Projector) (s : State) : State :=
  ((s.takeScreen p).modChan p fun c => { c with
    openOnReady := false, deferred := c.deferred || c.changeTaken }).lateStart p.other

/-- R66: recovery of a channel while the show is STALLED with no token holder. -/
def recover (p : Projector) (s : State) : State :=
  ((((s.takeScreen p).positionTo p).notify .recovery p.code [1]).pictureRegained).lateStart p.other

/-- R43: a channel has become ready for picture: the one case that applies. -/
def becomesReady (p : Projector) (s : State) : State :=
  match s.token with
  | some h =>
    if decide (h = p.other) && (s.chanOf h).deferred && s.isNext p then s.swap h p .late else s
  | none =>
    if (s.chanOf p).openOnReady then s.openScreen p
    else if decide (s.prog.state = .stalled) && s.isNext p then s.recover p
    else s

/-- R52: the speed-reached event of a channel in STARTING. -/
def speedReached (p : Projector) (s : State) : State :=
  if (s.chanOf p).state = .starting then
    let t := (s.modChan p fun c => { c with state := .ready, runup := .none, runupDue := none }).notify
      .atSpeed p.code (half (s.motionOf p).speed10 ++ [byte (s.tenthsSinceStart p)])
    if t.readyForPicture p then t.becomesReady p else t
  else s

/-- R64: a holder on screen loses a picture condition. -/
def goDark (p : Projector) (s : State) : State :=
  (s.modChan p fun c => { c with state := .dark, douser := false }).pictureLost

/-- R65: a DARK holder's last missing condition is met. -/
def leaveDark (p : Projector) (s : State) : State :=
  ((s.modChan p fun c => { c with state := .onScreen, douser := true }).notify .recovery p.code [0]).pictureRegained

/-- R43, R64, R65: a report of ARC or FSU that a picture condition of the projector has changed. -/
def conditionsReported (p : Projector) (s : State) : State :=
  let met := s.pictureConditions p
  match (s.chanOf p).state with
  | .onScreen => if met then s else s.goDark p
  | .dark => if met then s.leaveDark p else s
  | .ready => if met then s.becomesReady p else s
  | .idle | .threaded | .armed | .starting | .tail | .halted => s

/-! ### Cues (R53 to R59, R62) -/

/-- R59: the picture end of a holder whose entry has a break. -/
def pictureEnd (p : Projector) (s : State) : State :=
  let t := (s.leaveScreen p (s.chanOf p).deferred).setToken none
  match (s.chanOf p).entry, s.entryOf p with
  | some i, some e => t.showPictureEnd i e.brk
  | _, _ => t

/-- R62: the run-out of a holder whose entry has no break. -/
def runOut (p : Projector) (s : State) : State :=
  (((s.leaveScreen p true).setToken none).notify .runOut p.code (half (s.motionOf p).frames)).pictureLost

/-- R59, R62: the reel end of a holder. -/
def reelEnds (p : Projector) (s : State) : State := if s.hasBreak p then s.pictureEnd p else s.runOut p

end State

/-- R197: what a cue was taken from. -/
inductive CueCause where
  | foil | footage | guardEnd
  deriving DecidableEq, Repr

def CueCause.code : CueCause → Byte
  | .foil => 0
  | .footage => 1
  | .guardEnd => 2

namespace State

/-- R74: F and Rf, the data of a cue's notice. -/
def footageData (s : State) (p : Projector) : List Byte := half (s.motionOf p).frames ++ half (s.rf p)

/-- R57: NO_INCOMING. -/
def noIncoming (p : Projector) (s : State) : State :=
  s.notify .noIncoming p.code [(s.chanOf p.other).state.code, indexByte s.nextEntry]

/-- R57: the motor cue is taken. -/
def takeMotorCue (p : Projector) (cause : CueCause) (s : State) : State :=
  let t := (s.modChan p fun c => { c with motorCueTaken := true }).notify
    .cueMotor p.code (s.footageData p ++ [cause.code])
  if s.hasBreak p then t
  else
    match t.nextChannel with
    | some q =>
      match (t.chanOf q).state with
      | .armed => t.startMotor q
      | .starting | .ready => t
      | .idle | .threaded | .onScreen | .dark | .tail | .halted => t.noIncoming p
    | none => t.noIncoming p

/-- R58: the holder is deferred, and an ARMED next channel is started. -/
def defer (p : Projector) (s : State) : State :=
  let t := s.modChan p fun c => { c with deferred := true }
  match t.nextChannel with
  | some q => if (t.chanOf q).state = .armed then t.startMotor q else t
  | none => t

/-- R58, R59: the changeover point is taken. -/
def takeChange (p : Projector) (cause : CueCause) (s : State) : State :=
  let t := (s.modChan p fun c => { c with changeTaken := true }).notify
    .cueChange p.code (s.footageData p ++ [cause.code])
  if s.hasBreak p then t.pictureEnd p
  else
    match t.nextChannel with
    | some q => if t.readyForPicture q then t.swap p q .cue else t.defer p
    | none => t.defer p

/-- R55, R56: a foil that takes no cue. -/
def strayFoil (p : Projector) (s : State) : State :=
  s.notify .strayFoil p.code (s.footageData p ++ [byte (s.chanOf p).foilCount])

/-- R56: FOIL_MISSING, naming the motor cue (0) or the changeover point (1). -/
def foilMissing (p : Projector) (which : Byte) (s : State) : State :=
  s.notify .foilMissing p.code (which :: s.footageData p)

/-- R56: |Rf − distance| ≤ G. -/
def inWindow (s : State) (p : Projector) (distance : Nat) : Bool :=
  decide (((s.rf p : Int) - distance).natAbs ≤ s.held p .guard)

/-- R53 to R56: a foil event handed for a channel in ON_SCREEN or DARK. -/
def foilEvent (p : Projector) (s : State) : State :=
  let t := s.modChan p fun c => { c with foilCount := min (c.foilCount + 1) 255 }
  let c := t.chanOf p
  match t.entryOf p with
  | none => t
  | some e =>
    match e.cue with
    | .footage => t
    | .foil =>
      if c.foilCount = 1 then t.takeMotorCue p .foil
      else if c.foilCount = 2 then t.takeChange p .foil
      else t.strayFoil p
    | .guarded =>
      if !c.motorCueTaken && t.inWindow p e.lead then t.takeMotorCue p .foil
      else if !c.changeTaken && t.inWindow p e.allowance then t.takeChange p .foil
      else t.strayFoil p

/-- R53 to R56, R59, R62: a footage point handed for a channel in ON_SCREEN or DARK. -/
def footagePoint (p : Projector) (x : FootagePoint) (s : State) : State :=
  let c := s.chanOf p
  match s.entryOf p with
  | none => s
  | some e =>
    match x with
    | .motor => if e.cue = .footage && !c.motorCueTaken then s.takeMotorCue p .footage else s
    | .change => if e.cue = .footage && !c.changeTaken then s.takeChange p .footage else s
    | .motorGuard =>
      if e.cue = .guarded && !c.motorCueTaken then (s.foilMissing p 0).takeMotorCue p .guardEnd else s
    | .changeGuard =>
      if e.cue = .guarded && !c.changeTaken then (s.foilMissing p 1).takeChange p .guardEnd else s
    | .reelEnd => s.reelEnds p
    | .tailEnd => s

/-! ### The end of a reel (R72, R73) -/

/-- R72, R73: the channel of a reel that has left the screen returns to IDLE with its entry DONE, and SHW is told. -/
def finishReel (p : Projector) (s : State) : State :=
  let run := (s.motionOf p).frames
  let t := s.modChan p fun c => { c with state := .idle, entry := none, deferred := false, pastPicture := false }
  match (s.chanOf p).entry with
  | none => t
  | some i =>
    (((t.setPlan { t.plan with
          entries := t.plan.entries.modify i fun e => { e with state := .done, framesRun := some run } }).notify
        .reelDone p.code (byte i :: half run)).setProg { t.prog with lastDone := some i }).testExhausted true

/-- R73: the tail end or the film end finishes a reel in TAIL. -/
def reelDone (p : Projector) (s : State) : State :=
  if (s.chanOf p).state = .tail then (s.stopMotor p).finishReel p else s

end State

end Sys2Proof.Machine
end

