-- ==== Sys2Proof/Machine/ArcControl.lean ====
section
/-! DEFINITION. ARC: strikes, regulation and the ends of an arc (04_arc_lamps_and_carbon_stock.md), and the arc events
of the table. -/

namespace Sys2Proof.Machine

/-- R197: the causes of ARC_STATE. -/
inductive ArcCause where
  | struck | strikeFailed | arcLost | feedFault | exhausted | loaded | request | fire | boothReset | strikeBegun
  deriving DecidableEq, Repr

def ArcCause.code : ArcCause → Byte
  | .struck => 0
  | .strikeFailed => 1
  | .arcLost => 2
  | .feedFault => 3
  | .exhausted => 4
  | .loaded => 5
  | .request => 6
  | .fire => 7
  | .boothReset => 8
  | .strikeBegun => 9

/-- R78: the contactor is closed in STRIKING and LIT. -/
def ArcState.closesContactor : ArcState → Bool
  | .striking | .lit => true
  | .off | .fault | .exhausted => false

/-- R78: a new arc state with its outputs, no strike being in progress in any state but STRIKING. -/
def Arc.become (x : Arc) (new : ArcState) : Arc :=
  { x with
    state := new
    phase := .none
    strikeDue := none
    strikeOut := .idle
    contactor := new.closesContactor }

namespace State

def modArc (p : Projector) (f : Arc → Arc) (s : State) : State := s.setArc p (f (s.arcOf p))

/-- R78, R97: ARC_STATE, from the state the arc had to the state it has. -/
def arcNotice (p : Projector) (previous : ArcState) (cause : ArcCause) (s : State) : State :=
  s.notify .arcState p.code
    ([(s.arcOf p).state.code, previous.code, cause.code] ++ half (s.arcOf p).carbon)

/-- R78: a change of arc state, reported to CHG after its ARC_STATE (R43). -/
def arcTo (p : Projector) (new : ArcState) (cause : ArcCause) (s : State) : State :=
  ((s.modArc p fun x => x.become new).arcNotice p (s.arcOf p).state cause).conditionsReported p

/-- R83: the burn record starts afresh. -/
def freshBurn (p : Projector) (s : State) : State :=
  s.modArc p fun x => { x with ring := [], completed := 0, bucket := 0, intervals := 0, highRun := 0 }

/-- R86, R82, R96: the arc is exhausted: CARBON_EXHAUSTED, then ARC_STATE. -/
def exhaustArc (p : Projector) (s : State) : State :=
  (s.notify .carbonExhausted p.code (half (s.arcOf p).carbon ++ half (s.burnRate p))).arcTo p .exhausted .exhausted

/-- R82: a strike has failed: STRIKE_FAIL, then ARC_STATE. V and I are those sensed (log 13). -/
def failStrike (p : Projector) (s : State) : State :=
  (s.notify .strikeFail p.code [(s.arcOf p).phase.code, byte (s.inputs.voltage.get p), byte (s.inputs.current.get p),
    byte (s.arcOf p).elapsed]).arcTo p .off .strikeFailed

/-! ### Striking (R80 to R83) -/

/-- R80: a strike begins. A current that already flows is not compared here (log 40). -/
def beginStrike (p : Projector) (s : State) : State :=
  let due := some (s.tenthsFromNow Config.touchTenths)
  ((s.modArc p fun x => { x with
      state := .striking
      phase := .touch
      strikeDue := due
      elapsed := 0
      contactor := true
      strikeOut := .touching }).arcNotice p (s.arcOf p).state .strikeBegun).conditionsReported p

/-- R81: in TOUCH, a current at or above the strike threshold makes the touch. It is compared at every current and every
threshold given, a change or not, and not at STRIKE (log 40). -/
def testTouch (p : Projector) (s : State) : State :=
  if (s.arcOf p).phase = .touch ∧ s.held p .strikeThreshold ≤ s.inputs.current.get p then
    let due := some (s.tenthsFromNow Config.drawTenths)
    s.modArc p fun x => { x with phase := .draw, strikeDue := due, strikeOut := .drawing }
  else s

/-- R82: the draw ends with the voltage and current sensed. -/
def endDraw (p : Projector) (s : State) : State :=
  if s.held p .vt ≤ s.inputs.voltage.get p + 16 ∧ s.held p .holdThreshold ≤ s.inputs.current.get p then
    if s.held p .stub < (s.arcOf p).carbon then (s.freshBurn p).arcTo p .lit .struck
    else s.exhaustArc p
  else s.failStrike p

/-! ### Regulation (R84 to R92) -/

/-- R85: the sample of a regulation interval. -/
def sampleArc (p : Projector) (s : State) : State :=
  s.modArc p fun x => { x with sampleV := s.inputs.voltage.get p, sampleI := s.inputs.current.get p }

/-- R86: the steps asked. -/
def stepsAsked (s : State) (p : Projector) : Nat :=
  let e : Int := (s.inputs.voltage.get p : Int) - s.held p .vt
  if e ≤ s.held p .deadband then 0
  else min ((e - s.held p .deadband).toNat * s.held p .gain / 8) (s.held p .smax)

/-- R86: the error, the steps asked and the steps issued; C falls and the bucket rises by the steps issued. -/
def feed (p : Projector) (s : State) : State :=
  let e : Int := (s.inputs.voltage.get p : Int) - s.held p .vt
  let n := s.stepsAsked p
  let steps := min n ((s.arcOf p).carbon - s.held p .stub)
  s.modArc p fun x => { x with
    err := e, asked := n, issued := steps, carbon := x.carbon - steps, bucket := x.bucket + steps }

/-- R87: the high-alarm run after this interval's error. -/
def highRunAfter (s : State) (p : Projector) : Nat :=
  if (s.held p .highAlarm : Int) < (s.arcOf p).err then (s.arcOf p).highRun + 1 else 0

/-- R92: the running check of a bucket completion. -/
def runningCheck (p : Projector) (s : State) : State :=
  let ct := s.carbonTime p
  let rt := (s.remainingTime p).getD 0
  if decide (s.token = some p) && !(s.arcOf p).lowWarned && decide (ct < rt) then
    (s.notify .carbonLow p.code (half ct ++ half rt ++ half (s.arcOf p).carbon)).modArc p fun x =>
      { x with lowWarned := true }
  else s

/-- R90: a bucket is completed. -/
def completeBucket (p : Projector) (s : State) : State :=
  (s.modArc p fun x => { x with
    ring := x.ring.drop (x.ring.length + 1 - Config.bucketRing) ++ [x.bucket]
    bucket := 0
    intervals := 0
    completed := min (x.completed + 1) 255 }).runningCheck p

/-- R88: the interval is counted. -/
def countInterval (p : Projector) (s : State) : State :=
  if (s.arcOf p).intervals + 1 = Config.bucketIntervals then s.completeBucket p
  else s.modArc p fun x => { x with intervals := x.intervals + 1 }

/-- R85 to R88: the regulation of a LIT arc, after the sample. -/
def regulate (p : Projector) (s : State) : State :=
  if s.inputs.current.get p < s.held p .holdThreshold then s.arcTo p .off .arcLost
  else
    let t := s.feed p
    if (t.arcOf p).carbon ≤ t.held p .stub then t.exhaustArc p
    else
      let run := t.highRunAfter p
      let u := t.modArc p fun x => { x with highRun := run }
      if run = Config.highRunLimit then u.arcTo p .fault .feedFault else u.countInterval p

/-! ### Putting out (R94, R95) -/

/-- R94, R95: an arc that is not OFF is put OFF; a strike in progress is abandoned without STRIKE_FAIL. -/
def putOut (p : Projector) (cause : ArcCause) (s : State) : State :=
  if (s.arcOf p).state = .off then s else s.arcTo p .off cause

/-- R96: a LIT arc whose carbon is at or below a new stub is exhausted. -/
def stubChanged (p : Projector) (s : State) : State :=
  if (s.arcOf p).state = .lit ∧ (s.arcOf p).carbon ≤ s.held p .stub then s.exhaustArc p else s

/-- The arc voltage is sensed (log 14). -/
def senseVoltage (p : Projector) (v : Byte) (s : State) : State :=
  s.setInputs { s.inputs with voltage := s.inputs.voltage.set p v.toNat }

end State

/-- ARC_CURRENT_CHANGE (R81); a current already held is compared too (log 40). -/
def execArcCurrentChange (p : Projector) (current : Byte) (s : State) : Host.Outcome State Fault Refusal :=
  ((s.setInputs { s.inputs with current := s.inputs.current.set p current.toNat }).testTouch p).completed

/-- TOUCH_TIMER_EXPIRY (R81, R82). -/
def execTouchTimerExpiry (p : Projector) (s : State) : Host.Outcome State Fault Refusal :=
  if (s.arcOf p).phase = .touch then ((s.passToDue (s.arcOf p).strikeDue).failStrike p).completed
  else s.completed

/-- DRAW_TIMER_EXPIRY (R82), with the voltage sensed at the end of the draw. -/
def execDrawTimerExpiry (p : Projector) (voltage : Byte) (s : State) : Host.Outcome State Fault Refusal :=
  if (s.arcOf p).phase = .draw then
    (((s.passToDue (s.arcOf p).strikeDue).senseVoltage p voltage).endDraw p).completed
  else s.completed

/-- REGULATION_INTERVAL (R84), with the voltage sensed at it: the NEXT_INTERVAL values become held, then a LIT arc is
regulated. -/
def execRegulationInterval (p : Projector) (voltage : Byte) (s : State) : Host.Outcome State Fault Refusal :=
  let due := (s.arcOf p).regulationDue
  let t := (((s.passTo due).modArc p fun x => { x with
    regulationDue := due + Config.regulationCounts }).promoteProj p .nextInterval).senseVoltage p voltage
  if (s.arcOf p).state = .lit then ((t.sampleArc p).regulate p).completed else t.completed

/-- STRIKE_ELAPSED_TICK (R77): a tenth has passed; counted while STRIKING, held at 35. -/
def execStrikeElapsedTick (p : Projector) (s : State) : Host.Outcome State Fault Refusal :=
  if (s.arcOf p).state = .striking then
    (s.modArc p fun x => { x with elapsed := min (x.elapsed + 1) 35 }).completed
  else s.completed

end Sys2Proof.Machine
end

