-- ==== Sys2Proof/Machine/FireControl.lean ====
section
/-! DEFINITION. FSU: shutters (R99 to R106), heat monitors (R107 to R110), fire entry and fire reset (R111 to R118), and
their events. -/

namespace Sys2Proof.Machine

/-! ### Shutters -/

/-- R99: the lift output of each shutter state. -/
def ShutterState.lifts : ShutterState → Bool
  | .raising => true
  | .down | .held | .dropping | .jammed => false

/-- R99: the hold output of each shutter state. -/
def ShutterState.holds : ShutterState → Bool
  | .raising | .held => true
  | .down | .dropping | .jammed => false

/-- R99, R100, R102: the move timer of a state, in tenths. -/
def ShutterState.moveTenths : ShutterState → Option Nat
  | .raising => some Config.raiseTenths
  | .dropping => some Config.dropTenths
  | .down | .held | .jammed => none

namespace State

/-- R106, R117: SHUTTER_STATE, from the state the shutter had to the state it has. -/
def shutterNotice (sh : Shutter) (previous : ShutterState) (s : State) : State :=
  s.notify .shutterState sh.code
    [(s.shutterOf sh).state.code, previous.code, (s.shutterOf sh).lastCause.code, sensesByte s sh]

/-- R99: a shutter's new state with its outputs and its move timer. -/
def placeShutter (sh : Shutter) (new : ShutterState) (cause : ShutterCause) (s : State) : State :=
  s.setShutter sh ⟨new, new.moveTenths.map s.tenthsFromNow, new.lifts, new.holds, cause⟩

/-- R106: a change of shutter state, reported by SHUTTER_STATE and, for a port shutter, to CHG. -/
def shutterTo (sh : Shutter) (new : ShutterState) (cause : ShutterCause) (s : State) : State :=
  let t := (s.placeShutter sh new cause).shutterNotice sh (s.shutterOf sh).state
  match sh.projector with
  | some p => t.conditionsReported p
  | none => t

/-- R105: a shutter that would be left JAMMED with its closed sense made is DOWN. -/
def jammedOrDown (s : State) (sh : Shutter) : ShutterState :=
  if s.inputs.closedSense.atShutter sh then .down else .jammed

end State

/-- OPEN_SENSE_CHANGE (R101, R104, R105): the rule for the level it reports (log 26). -/
def execOpenSenseChange (sh : Shutter) (made : Bool) (s : State) : Host.Outcome State Fault Refusal :=
  let t := s.setInputs { s.inputs with openSense := s.inputs.openSense.setShutter sh made }
  match (s.shutterOf sh).state, made with
  | .raising, true => (t.shutterTo sh .held .opened).completed
  | .held, false => (t.shutterTo sh (t.jammedOrDown sh) .lost).completed
  | _, _ => t.completed

/-- CLOSED_SENSE_CHANGE (R103, R104, R105): the rule for the level it reports (log 26). -/
def execClosedSenseChange (sh : Shutter) (made : Bool) (s : State) : Host.Outcome State Fault Refusal :=
  let t := s.setInputs { s.inputs with closedSense := s.inputs.closedSense.setShutter sh made }
  match (s.shutterOf sh).state, made with
  | .dropping, true => (t.shutterTo sh .down .closed).completed
  | .jammed, true => (t.shutterTo sh .down .closed).completed
  | .down, false => (t.shutterTo sh .jammed .lost).completed
  | _, _ => t.completed

/-- RAISE_TIMEOUT (R101, R105): a raise has failed, whatever its open sense stands at (log 43). -/
def execRaiseTimeout (sh : Shutter) (s : State) : Host.Outcome State Fault Refusal :=
  if (s.shutterOf sh).state = .raising then
    let t := s.passToDue (s.shutterOf sh).moveDue
    (t.shutterTo sh (t.jammedOrDown sh) .timeout).completed
  else s.completed

/-- DROP_TIMEOUT (R103, R105): the plate has not reached its seat. -/
def execDropTimeout (sh : Shutter) (s : State) : Host.Outcome State Fault Refusal :=
  if (s.shutterOf sh).state = .dropping then
    let t := s.passToDue (s.shutterOf sh).moveDue
    (t.shutterTo sh (t.jammedOrDown sh) .timeout).completed
  else s.completed

/-! ### Fire entry -/

/-- The four shutters in the order of R112. -/
def shutterOrder : List Shutter := [.portA, .portB, .obs1, .obs2]

namespace State

/-- R111: a fire source is active. -/
def sourceActive (s : State) (x : Source) : Bool :=
  match x with
  | .heatA => decide (s.held .a .heatThreshold < s.inputs.heat.a + Config.heatBand)
  | .heatB => decide (s.held .b .heatThreshold < s.inputs.heat.b + Config.heatBand)
  | .pull1 => s.inputs.pull1
  | .pull2 => s.inputs.pull2
  | .loop => s.inputs.loop

/-- R115: the sources active now. -/
def sourcesActive (s : State) : List Source :=
  [Source.heatA, .heatB, .pull1, .pull2, .loop].filter s.sourceActive

/-- R117, R197: the reading and peak heat of a heat source; 0 and 0 for a pull or link source. -/
def fireHeat (s : State) (x : Source) : List Byte :=
  match x with
  | .heatA => [byte s.inputs.heat.a, byte s.heat.a.peak]
  | .heatB => [byte s.inputs.heat.b, byte s.heat.b.peak]
  | .pull1 | .pull2 | .loop => [0, 0]

/-- R117: FIRE, for the first source (0) or an added one (1). -/
def fireNotice (x : Source) (added : Byte) (s : State) : State :=
  s.notify .fire x.code ([added, Source.setByte s.fire.recorded] ++ s.fireHeat x)

/-- R112, step 2: what fire entry does to a shutter. -/
def dropForFire (sh : Shutter) (s : State) : State :=
  if (s.shutterOf sh).state = .held ∨ (s.shutterOf sh).state = .raising then s.shutterTo sh .dropping .fire else s

/-- R112: fire entry with a source. FIRE is handed first, then each SHUTTER_STATE, then each ARC_STATE. -/
def fireEntry (x : Source) (s : State) : State :=
  let locked := s.setFire ⟨true, some x, [x], some s.prog.clock, true⟩
  let halted := (locked.makeSafe .a .fire).makeSafe .b .fire
  let stopped := (halted.setLights halted.lights.enterEmergency).setProg { halted.prog with
    state := .fireStop, timer := none, timerEntry := none }
  let dropped := shutterOrder.foldl (fun t sh => t.dropForFire sh) (stopped.fireNotice x 0)
  (dropped.putOut .a .fire).putOut .b .fire

/-- R112, R113: a source that becomes active makes fire entry, or is added to the record under lockout. -/
def fireSource (x : Source) (s : State) : State :=
  if s.fire.lockout then
    if s.fire.recorded.contains x then s
    else (s.setFire { s.fire with recorded := s.fire.recorded ++ [x] }).fireNotice x 1
  else s.fireEntry x

end State

/-- The fire inputs with one of them open or closed. -/
def Inputs.setFire (x : Inputs) (i : FireInput) (isOpen : Bool) : Inputs :=
  match i with
  | .pull1 => { x with pull1 := isOpen }
  | .pull2 => { x with pull2 := isOpen }
  | .loop => { x with loop := isOpen }

/-- FIRE_SOURCE_OPEN (R111). -/
def execFireSourceOpen (x : FireInput) (s : State) : Host.Outcome State Fault Refusal :=
  ((s.setInputs (s.inputs.setFire x true)).fireSource (Source.input x)).completed

/-- FIRE_SOURCE_CLOSE (R111): a source's becoming quiet changes no state but the input. -/
def execFireSourceClose (x : FireInput) (s : State) : Host.Outcome State Fault Refusal :=
  (s.setInputs (s.inputs.setFire x false)).completed

/-- KEY_SWITCH_CHANGE (R114). -/
def execKeySwitchChange (turnedOn : Bool) (s : State) : Host.Outcome State Fault Refusal :=
  (s.setInputs { s.inputs with key := turnedOn }).completed

/-! ### Heat monitors -/

namespace State

def modHeat (p : Projector) (f : HeatMonitor → HeatMonitor) (s : State) : State := s.setHeat p (f (s.heatOf p))

/-- R107 to R110: a monitor compares the reading with H, or with H − 4. Peak heat follows the reading outside NORMAL
(log 16). -/
def compareHeat (p : Projector) (s : State) : State :=
  let reading := s.inputs.heat.get p
  let h := s.held p .heatThreshold
  let m := s.heatOf p
  match m.state with
  | .normal => if h < reading then s.setHeat p ⟨.stage1Wait, some 0, reading⟩ else s
  | .stage1Wait | .dousedWait =>
    if reading + Config.heatBand ≤ h then s.setHeat p ⟨.normal, none, max m.peak reading⟩
    else s.setHeat p { m with peak := max m.peak reading }
  | .tripped => s.setHeat p { m with peak := max m.peak reading }

/-- R108: the first stage acts on a monitor in STAGE1_WAIT. HEAT_STAGE1 reports what SHW's break action follows
(log 8). -/
def heatStage1 (p : Projector) (s : State) : State :=
  let t := s.modHeat p fun m => { m with state := .dousedWait, elapsed := some 0 }
  (t.notify .heatStage1 p.code
    [byte (t.inputs.heat.get p), byte (t.heatOf p).peak, byte (t.held p .heatThreshold)]).makeSafe p .heat

/-- R109: T_h2 is reached in DOUSED_WAIT. -/
def heatTrips (p : Projector) (s : State) : State :=
  (s.modHeat p fun m => { m with state := .tripped, elapsed := none }).fireSource (Source.heat p)

/-- R107, R108: the first stage acts where the stage timer of a monitor in STAGE1_WAIT has reached the held T_h1. -/
def stage1TimerTest (p : Projector) (s : State) : State :=
  match (s.heatOf p).state, (s.heatOf p).elapsed with
  | .stage1Wait, some n => if s.heldDev .tH1 ≤ n then s.heatStage1 p else s
  | _, _ => s

/-- R107, R109: a monitor in DOUSED_WAIT trips where its stage timer has reached the held T_h2. -/
def dousedTimerTest (p : Projector) (s : State) : State :=
  match (s.heatOf p).state, (s.heatOf p).elapsed with
  | .dousedWait, some n => if s.heldDev .tH2 ≤ n then s.heatTrips p else s
  | _, _ => s

end State

/-- HEAT_READING_CHANGE (R108, R109). -/
def execHeatReadingChange (p : Projector) (reading : Byte) (s : State) : Host.Outcome State Fault Refusal :=
  ((s.setInputs { s.inputs with heat := s.inputs.heat.set p reading.toNat }).compareHeat p).completed

/-- HEAT_STAGE1_EXPIRY (R107, R108). A timer that has not reached the held T_h1 runs on (log 47). -/
def execHeatStage1Expiry (p : Projector) (s : State) : Host.Outcome State Fault Refusal :=
  (s.stage1TimerTest p).completed

/-- DOUSED_WAIT_EXPIRY (R107, R109). A timer that has not reached the held T_h2 runs on (log 47). -/
def execDousedWaitExpiry (p : Projector) (s : State) : Host.Outcome State Fault Refusal :=
  (s.dousedTimerTest p).completed

/-- HEAT_STAGE_TIMER_TICK (R107): a tenth of a running stage timer. The expiry that the tenth may bring is a command of
its own (log 47). -/
def execHeatStageTimerTick (p : Projector) (s : State) : Host.Outcome State Fault Refusal :=
  (s.modHeat p fun m => { m with elapsed := m.elapsed.map (· + 1) }).completed

/-! ### Fire reset and power-on -/

namespace State

/-- R116: a monitor returned to NORMAL with its timer stopped. -/
def calmHeat (p : Projector) (s : State) : State := s.modHeat p fun m => { m with state := .normal, elapsed := none }

/-- R116: fire reset. -/
def fireCleared (s : State) : State :=
  let subject := match s.fire.first with
    | some x => x.code
    | none => 0xFF
  let recorded := Source.setByte s.fire.recorded
  let cleared := ((s.setFire ⟨false, none, [], none, false⟩).calmHeat .a).calmHeat .b
  let lit := cleared.setLights cleared.lights.endEmergency
  let shown := lit.setProg { lit.prog with state := lit.showAfterFire }
  ((shown.conditionsReported .a).conditionsReported .b).notify .fireCleared subject [recorded]

/-- R118: a shutter's record from its senses. -/
def shutterAtPower (s : State) (sh : Shutter) : ShutterRec := ⟨s.jammedOrDown sh, none, false, false, .none⟩

/-- R118: every block takes its power-on values; the inputs and the queue are the booth's (log 22). A foil input already
active leaves its stage INACTIVE, and no qualification starts until the input changes (log 48): R32 speaks of the input
going active. -/
def poweredUp (s : State) : State :=
  let t : State := { State.reset with inputs := s.inputs, pending := s.pending }
  { t with shutters := ⟨t.shutterAtPower .portA, t.shutterAtPower .portB, t.shutterAtPower .obs1,
      t.shutterAtPower .obs2⟩ }

/-- R118: a fire input open at power-on. -/
def testFireInput (x : FireInput) (s : State) : State :=
  if s.sourceActive (Source.input x) then s.fireSource (Source.input x) else s

end State

/-- POWER_ON (R118): the power-on values, the first heat readings compared, and each fire input tested at once, in the
order PULL_1, PULL_2, LINK (log 42). -/
def execPowerOn (s : State) : Host.Outcome State Fault Refusal :=
  (((((s.poweredUp.compareHeat .a).compareHeat .b).testFireInput .pull1).testFireInput .pull2).testFireInput
    .loop).completed

end Sys2Proof.Machine
end

