-- ==== Sys2Proof/Machine/Status.lean ====
section
/-! DEFINITION. STATUS (R182): the data of each section (R196). -/

namespace Sys2Proof.Machine

/-- R182, R194: the sections of STATUS. -/
inductive StatusSection where
  | booth | projector (p : Projector) | arc (p : Projector) | fire | lights | bus | links
  deriving DecidableEq, Repr

def StatusSection.ofCode (c : Byte) : Option StatusSection :=
  match c.toNat with
  | 0 => some .booth
  | 1 => some (.projector .a)
  | 2 => some (.projector .b)
  | 3 => some (.arc .a)
  | 4 => some (.arc .b)
  | 5 => some .fire
  | 6 => some .lights
  | 7 => some .bus
  | 8 => some .links
  | _ => none

/-- STATUS SHOW (R166, R196). -/
def showStatus (s : State) : List Byte :=
  [byte s.prog.state.number, indexByte s.prog.position, indexByte s.nextEntry, byte s.plan.passNumber,
      byte s.plan.repeatCount] ++ halfOrAbsent s.prog.timer ++ [indexByte s.prog.timerEntry] ++ half s.prog.clock ++
    [marker s.prog.clockStarted, byte (s.heldDev .autoResume), tokenCode s.token, soundCode s.sound]

/-- R29, R196: Rf and Rt; free bytes for a channel with no entry (log 10). -/
def remainingBytes (s : State) (p : Projector) : List Byte :=
  match s.remaining p, s.remainingTime p with
  | some rf, some rt => half rf ++ half rt
  | _, _ => [s.freeAt 0, s.freeAt 1, s.freeAt 2, s.freeAt 3]

/-- STATUS PROJECTOR (R38, R75, R196). -/
def projectorStatus (p : Projector) (s : State) : List Byte :=
  let c := s.chanOf p
  let m := s.motionOf p
  [c.state.code, indexByte c.entry, channelFlags c m, byte c.foilCount, c.runup.code] ++ half m.speed10 ++
    half (m.frames / 16) ++ [byte (m.frames % 16)] ++ remainingBytes s p ++
    [flagByte [(s.entryOf p).isSome, m.filmClosed]]

/-- STATUS ARC (R97, R196). -/
def arcStatus (p : Projector) (s : State) : List Byte :=
  let x := s.arcOf p
  [x.state.code, x.phase.code] ++ half x.carbon ++ half (s.carbonTime p) ++ half (s.burnRate p) ++
    [byte x.completed, byte x.sampleV, byte x.sampleI] ++ signedHalf x.err ++
    [byte x.asked, byte x.issued, byte x.highRun, flagByte [x.lowWarned, x.contactor], x.strikeOut.code]

/-- STATUS FIRE: a monitor; the elapsed time of a stopped timer is a free byte (log 10). -/
def heatStatus (s : State) (p : Projector) (i : Nat) : List Byte :=
  [(s.heatOf p).state.code, byte (s.inputs.heat.get p), byte (s.heatOf p).peak,
    match (s.heatOf p).elapsed with
    | some n => byte n
    | none => s.freeAt i]

/-- R192, R197: the first source, FFh for none. -/
def firstCode : Option Source → Byte
  | some x => x.code
  | none => 0xFF

/-- STATUS FIRE (R117, R196). An absent entry time is sent as FFFFh (log 45). -/
def fireStatus (s : State) : List Byte :=
  (shutterOrder.flatMap fun sh => [(s.shutterOf sh).state.code, shutterFlags s sh]) ++ heatStatus s .a 0 ++
    heatStatus s .b 1 ++ [marker s.fire.lockout, firstCode s.fire.first, Source.setByte s.fire.recorded] ++
    halfOrAbsent s.fire.entryTime ++ [Source.setByte s.sourcesActive, flagByte [s.fire.alarm, s.inputs.key]]

/-- A group's break save as sent; a free byte when absent (log 10). -/
def saveByte (s : State) (i : Nat) (r : GroupRec) : Byte :=
  match r.save with
  | some n => byte n
  | none => s.freeAt i

/-- STATUS LIGHTS (R133, R196). -/
def lightsStatus (s : State) : List Byte :=
  marker s.lights.emergency :: Group.all.flatMap fun g =>
    let r := s.lights.groupAt g
    [byte r.level, groupFlags r, byte r.start, byte r.target] ++ half r.n ++ half r.k ++
      [r.source.code, saveByte s g.index r]

/-- STATUS BUS (R150, R196). -/
def busStatus (s : State) : List Byte :=
  [s.bus.state.code, byte s.bus.cycle, byte s.bus.packs.length, byte s.bus.presentCount, byte s.bus.absentCount,
    byte s.bus.parked, byte (s.bus.packs.countP fun x => x.loadFail)]

/-- STATUS LINKS: one link. -/
def linkStatus (k : Link) : List Byte :=
  [match k.binding with
    | some r => r.code
    | none => 0xFF,
    byte k.slots.length, byte k.replies.length, byte k.notices.length, linkFlags k]

/-- STATUS LINKS (R182, R196). -/
def linksStatus (s : State) : List Byte := linkStatus s.links.a ++ linkStatus s.links.b ++ linkStatus s.links.h

/-- R182: the data of a section. -/
def sectionData (s : State) : StatusSection → List Byte
  | .booth => showStatus s
  | .projector p => projectorStatus p s
  | .arc p => arcStatus p s
  | .fire => fireStatus s
  | .lights => lightsStatus s
  | .bus => busStatus s
  | .links => linksStatus s

/-- STATUS (R182). It changes no state of the part: it moves on the model's free-value counter alone (log 10). -/
def statusAnswer (sect : Byte) (s : State) : Answer :=
  match StatusSection.ofCode sect with
  | some x => ⟨s.freeUsed, .ok, sectionData s x⟩
  | none => s.answer .noEntry

end Sys2Proof.Machine
end

