-- ==== Sys2Proof/Machine/BoothRequests.lean ====
section
/-! DEFINITION. The requests of ARC (R80, R93, R94), FSU (R100, R102, R115), LTG (R123), DBM (R145, R147 to R149), PAR
(R186, R190), LNK (R172, R179) and SHW (R160). -/

namespace Sys2Proof.Machine

/-! ### Arcs -/

/-- R196: the data of STRIKE, ARC_OFF and CARBON_LOAD, refused or not. -/
def arcData (s : State) (p : Projector) : List Byte :=
  (s.arcOf p).state.code :: (half (s.arcOf p).carbon ++ half (s.carbonTime p))

def arcAnswer (p : Projector) (code : ResultCode) (s : State) : Answer := ⟨s, code, arcData s p⟩

/-- R80, step 3: the carbon is too short to strike. -/
def State.strikeShort (s : State) (p : Projector) : Bool :=
  decide ((s.arcOf p).state = .exhausted) || decide ((s.arcOf p).carbon ≤ s.held p .stub + Config.strikeMargin)

/-- STRIKE (R80). -/
def strikeAnswer (p : Projector) (s : State) : Answer :=
  if (s.arcOf p).state = .lit ∨ (s.arcOf p).state = .striking then arcAnswer p .ok s
  else if s.fire.lockout then arcAnswer p .fireLockout s
  else if s.strikeShort p then arcAnswer p .carbonShort s
  else arcAnswer p .ok (s.beginStrike p)

/-- ARC_OFF (R94). -/
def arcOffAnswer (p : Projector) (s : State) : Answer := arcAnswer p .ok (s.putOut p .request)

/-- R93: the stock is set, and a FAULT or EXHAUSTED arc becomes OFF. -/
def State.loadCarbon (p : Projector) (length : Nat) (s : State) : State :=
  let t := s.modArc p fun x => { x with carbon := length }
  if (s.arcOf p).state = .off then t else t.arcTo p .off .loaded

/-- CARBON_LOAD (R93). -/
def carbonLoadAnswer (length : Nat) (p : Projector) (s : State) : Answer :=
  match (s.arcOf p).state with
  | .lit | .striking => arcAnswer p .notReady s
  | .off | .fault | .exhausted =>
    let held := clamp 100 6000 length
    arcAnswer p (okOr held.adjusted) (s.loadCarbon p held.val)

/-! ### Shutters and fire reset -/

/-- R196: the data of SHUTTER_RAISE and SHUTTER_DROP, refused or not. -/
def shutterAnswer (sh : Shutter) (code : ResultCode) (s : State) : Answer :=
  ⟨s, code, [(s.shutterOf sh).state.code, sensesByte s sh]⟩

/-- SHUTTER_RAISE (R100). A raise begun with the open sense made is RAISING all the same (log 43). -/
def shutterRaiseAnswer (sh : Shutter) (s : State) : Answer :=
  match (s.shutterOf sh).state with
  | .held | .raising => shutterAnswer sh .ok s
  | .dropping => shutterAnswer sh (if s.fire.lockout then .fireLockout else .busy) s
  | .down | .jammed =>
    if s.fire.lockout then shutterAnswer sh .fireLockout s
    else shutterAnswer sh .ok (s.shutterTo sh .raising .request)

/-- SHUTTER_DROP (R102). -/
def shutterDropAnswer (sh : Shutter) (s : State) : Answer :=
  match (s.shutterOf sh).state with
  | .held | .raising => shutterAnswer sh .ok (s.shutterTo sh .dropping .request)
  | .down | .dropping | .jammed => shutterAnswer sh .ok s

/-- R115, R196: the data of FIRE_RESET. -/
def fireData (s : State) : List Byte :=
  [marker s.fire.lockout, firstCode s.fire.first, Source.setByte s.fire.recorded, Source.setByte s.sourcesActive]

/-- FIRE_RESET (R115, R116). KEY_OFF carries no data (log 15). -/
def fireResetAnswer (s : State) : Answer :=
  if !s.fire.lockout then ⟨s, .ok, fireData s⟩
  else if !s.inputs.key then s.answer .keyOff
  else if !s.sourcesActive.isEmpty then ⟨s, .sourceActive, fireData s⟩
  else
    let t := s.fireCleared
    ⟨t, .ok, fireData t⟩

/-! ### Lights -/

/-- R123, R196: the four groups of a LIGHTS reply. -/
def lightsData (s : State) : List Byte :=
  Group.all.flatMap fun g =>
    let r := s.lights.groupAt g
    [byte r.level, byte r.target, groupFlags r, saveByte s g.index r]

/-- R123: the state a LIGHTS request asks for is already held. -/
def lightsHeld (x : Lighting) (mask : BitVec 4) (level : Nat) : Bool :=
  Group.all.all fun g =>
    !mask.getLsbD g.index ||
      (decide ((x.groupAt g).level = level) && !(x.groupAt g).active && (x.groupAt g).save.isNone)

/-- LIGHTS (R123). -/
def lightsAnswer (mask level : Byte) (fade : Half) (s : State) : Answer :=
  if s.lights.emergency then s.answer .fireLockout
  else
    let m := takeMask mask
    let f := clamp 0 600 fade.toNat
    let code := okOr (m.adjusted || f.adjusted)
    let t :=
      if lightsHeld s.lights m.val level.toNat then s
      else s.applyAction (some ⟨m.val, level.toNat, f.val⟩) .request
    ⟨t.freeUsed, code, lightsData t⟩

/-! ### The dimmer bus -/

/-- BUS_RESET (R145). -/
def busResetAnswer (s : State) : Answer :=
  if s.bus.state = .normal then (s.modBus fun b => { b with state := .resetPending }).answer .ok
  else s.answer .busy

/-- R195: the pack record. -/
def packBytes (b : Bus) (x : Pack) : List Byte :=
  byte x.address :: (serialBytes x.serial ++
    [Group.packCode x.group, byte x.top, byte (x.sent.getD 0), byte x.since, packFlags x, byte x.misses,
      byte (b.packLevel x)])

/-- R196: a set of addresses: bit n for address n. -/
def addressBits (packs : List Pack) : List Byte := half ((packs.map fun x => 2 ^ x.address).sum)

/-- R149, R196: the bus summary. -/
def busData (b : Bus) : List Byte :=
  [b.state.code, byte b.cycle, byte b.identify, byte b.pointer, byte b.packs.length] ++ addressBits b.packs ++
    addressBits (b.packs.filter fun x => x.isPresent) ++ [byte b.parked, byte b.rounds]

/-- R147, R196: the pack record of an address. -/
def packData (b : Bus) (a : Nat) : List Byte :=
  match b.packAt a with
  | some x => packBytes b x
  | none => []

/-- PACK_READ (R149). -/
def packReadAnswer (selector : Byte) (s : State) : Answer :=
  if selector = 0xFF then ⟨s, .ok, busData s.bus⟩
  else if (s.bus.packAt selector.toNat).isSome then ⟨s, .ok, packData s.bus selector.toNat⟩
  else s.answer .noEntry

/-- PACK_WRITE (R147). -/
def packWriteAnswer (address group top : Byte) (s : State) : Answer :=
  match s.bus.packAt address.toNat with
  | none => s.answer .noEntry
  | some x =>
    let g := takeCode (Group.ofPackCode group) x.group
    let t := s.modBus fun b => b.modPack address.toNat fun y => { y with group := g.val, top := top.toNat }
    ⟨t, okOr g.adjusted, packData t.bus address.toNat⟩

/-- PACK_FORGET (R148). -/
def packForgetAnswer (address : Byte) (s : State) : Answer :=
  match s.bus.packAt address.toNat with
  | none => s.answer .noEntry
  | some x =>
    if x.isPresent then s.answer .notReady
    else
      ⟨s.modBus fun b => { b with packs := b.packs.filter fun y => decide (y.address ≠ address.toNat) }, .ok,
        [address]⟩

/-! ### Parameters -/

/-- R196: the identifier and the projector of a parameter record. -/
def paramName : ParamRef → List Byte
  | .proj p q => [byte (ProjParam.all.idxOf q + 1), p.code]
  | .dev q => [byte (DevParam.all.idxOf q + 19), 0xFF]

/-- R196: a parameter record, 14 bytes. -/
def paramRecord (s : State) (x : ParamRef) : List Byte :=
  let r := s.par.recOf x
  paramName x ++ half r.held ++ [marker r.pending.isSome] ++ half (r.pending.getD 0) ++ [x.row.point.code] ++
    half x.row.low ++ half x.row.high ++ half x.row.default

/-- PARAM_READ (R190). -/
def paramReadAnswer (x : Option ParamRef) (s : State) : Answer :=
  match x with
  | none => s.answer .noEntry
  | some q => ⟨s, .ok, paramRecord s q⟩

/-- R189: the value of a T_r2 write after the constraint; any other value is left. -/
def State.constrained (s : State) (x : ParamRef) (v : Taken Nat) : Taken Nat :=
  match x with
  | .proj p .tR2 =>
    let least := leastLimit ((s.par.proj.get p).get .tR1).effective
    if v.val < least then ⟨least, true⟩ else v
  | _ => v

/-- R186, step 4: the value is placed. -/
def State.placeParam (x : ParamRef) (v : Nat) (s : State) : State :=
  s.setPar (s.par.setRec x ((s.par.recOf x).taken x.row.point v))

/-- R186, step 4: what the owning block does at once with the value held, also where it was held before (log 40). A T_h1
or T_h2 that expires the timers of both monitors acts on A, then on B (log 41). -/
def State.paramActs (x : ParamRef) (s : State) : State :=
  match x with
  | .proj p .strikeThreshold => s.testTouch p
  | .proj p .stub => s.stubChanged p
  | .proj p .heatThreshold => s.compareHeat p
  | .dev .tH1 => (s.stage1TimerTest .a).stage1TimerTest .b
  | .dev .tH2 => (s.dousedTimerTest .a).dousedTimerTest .b
  | .proj _ _ | .dev _ => s

/-- R189: after a write of T_r1, T_r2 is raised where it is below; true where it was. -/
def State.limitRaised (x : ParamRef) (s : State) : State × Bool :=
  match x with
  | .proj p .tR1 =>
    let r := (s.par.proj.get p).raiseLimit
    (s.setPar { s.par with proj := s.par.proj.set p r.1 }, r.2)
  | _ => (s, false)

/-- R189, R196: T_r2's record, beside T_r1's. -/
def limitRecord (s : State) : ParamRef → List Byte
  | .proj p _ => paramRecord s (.proj p .tR2)
  | .dev _ => []

/-- PARAM_WRITE (R186 to R189). -/
def paramWriteAnswer (value : Half) (x : Option ParamRef) (s : State) : Answer :=
  match x with
  | none => s.answer .noEntry
  | some q =>
    let v := s.constrained q (q.inRange value.toNat)
    let raised := (s.placeParam q v.val).limitRaised q
    let t := raised.1.paramActs q
    ⟨t, okOr (v.adjusted || raised.2), paramRecord t q ++ (if raised.2 then limitRecord t q else [])⟩

/-! ### Routing, binding and the intermission timer -/

/-- ROUTE_READ (R179). -/
def routeReadAnswer (kind : Byte) (s : State) : Answer :=
  match NoticeKind.ofCode kind with
  | none => s.answer .noEntry
  | some k => ⟨s, .ok, [kind, (s.maskOf k).setWidth 8]⟩

/-- R179: the mask held for a kind after a write. -/
def routedMask (k : NoticeKind) (mask : Byte) : Taken (BitVec 3) :=
  let m := takeRoleMask mask
  if k.isFire then ⟨7, m.adjusted || decide (m.val ≠ 7)⟩ else m

def State.setMask (k : NoticeKind) (mask : BitVec 3) (s : State) : State :=
  { s with routing := s.routing.set k.index.val mask k.index.isLt }

/-- ROUTE_WRITE (R179). -/
def routeWriteAnswer (mask : Byte) (kind : Byte) (s : State) : Answer :=
  match NoticeKind.ofCode kind with
  | none => s.answer .noEntry
  | some k =>
    let m := routedMask k mask
    let t := s.setMask k m.val
    ⟨t, okOr m.adjusted, [kind, (t.maskOf k).setWidth 8]⟩

/-- INTERMISSION_EXTEND (R160). -/
def intermissionExtendAnswer (seconds : Half) (s : State) : Answer :=
  match s.prog.state, s.prog.timer with
  | .intermission, some n =>
    let held := min (n + seconds.toNat) Config.timerLimit
    ⟨s.setProg { s.prog with timer := some held }, okOr (decide (Config.timerLimit < n + seconds.toNat)), half held⟩
  | _, _ => s.answer .notReady

namespace State

/-- R172: a role is bound to a link. -/
def roleBound (s : State) (r : Role) : Bool :=
  decide (s.links.a.binding = some r) || decide (s.links.b.binding = some r) || decide (s.links.h.binding = some r)

/-- R170, R172: ROLE_CHANGE, with its link as subject: freed (0) or bound (1). -/
def roleNotice (l : Connector) (r : Role) (change : Byte) (s : State) : State :=
  s.notify .roleChange l.code [r.code, change]

/-- R172: a free role is bound to a link. -/
def bindRole (l : Connector) (r : Role) (s : State) : State :=
  (s.setLink l { s.linkOf l with binding := some r }).roleNotice l r 1

end State

/-- IDENT (R171, R172). -/
def identAnswer (l : Connector) (role : Byte) (s : State) : Answer :=
  match Role.ofCode role with
  | none => s.answer .badRequest
  | some r =>
    if (s.linkOf l).binding.isSome then s.answer .alreadyBound
    else if s.roleBound r then s.answer .roleTaken
    else ⟨s.bindRole l r, .ok, [r.code]⟩

end Sys2Proof.Machine
end

