-- ==== Sys2Proof/Machine/Starting.lean ====
section
/-! DEFINITION. START_SHOW as CHG and SHW take it (R67, R154), the intermission timer (R159) and the show clock
(R163). -/

namespace Sys2Proof.Machine

namespace State

/-- R67, step 2: the show states from which START_SHOW is taken, with the token none. -/
def startable (s : State) : Bool :=
  (decide (s.prog.state = .idle) || decide (s.prog.state = .stalled) || decide (s.prog.state = .intermission)) &&
    s.token.isNone

/-- R67, step 3: the channel linked to the next entry, when it is ARMED or READY. -/
def startChannel (s : State) : Option Projector :=
  s.nextChannel.filter fun q => decide ((s.chanOf q).state = .armed) || decide ((s.chanOf q).state = .ready)

/-- R67: what START_SHOW finds: the channel it starts, or the refusal of the first check that fails. -/
def startCheck (s : State) : Except ResultCode Projector :=
  if s.fire.lockout then .error .fireLockout
  else if !s.startable then .error .notReady
  else
    match s.startChannel with
    | some q => .ok q
    | none => .error .notReady

/-- R67, R154, R124: the part of a START_SHOW before the motor start: SHW's, open on ready, and the start action. From
STALLED, the restore comes before the start action (log 44). -/
def openShow (byPanel : Bool) (q : Projector) (s : State) : State :=
  ((s.showStarted byPanel).modChan q fun c => { c with openOnReady := true }).applyStart q

/-- R67: START_SHOW taken on a channel that is ARMED or READY. The position of an ARMED one moves at its motor start,
before a film break handed at the start (R153). -/
def startOn (byPanel : Bool) (q : Projector) (s : State) : State :=
  let t := s.openShow byPanel q
  if (s.chanOf q).state = .armed then ((t.motorRuns q).positionTo q).filmAtStart q
  else
    let u := t.positionTo q
    if u.readyForPicture q then u.openScreen q else u

/-- R159: what the expiry of the intermission timer resumes: the next channel, if auto-resume is held 1. -/
def resumeChannel (s : State) : Option Projector :=
  if s.heldDev .autoResume = 1 then s.startChannel else none

/-- R159: INTERMISSION_END for an expiry, resumed (1) or waiting (2). -/
def intermissionEnds (outcome : Byte) (s : State) : State :=
  s.notify .intermissionEnd (indexByte s.prog.timerEntry) [1, outcome, 0, 0]

/-- R159: the intermission timer expires; the resume is START_SHOW taken internally, with its checks. INTERMISSION_END
says "resumed" before those checks are made (log 46). -/
def timerExpires (s : State) : State :=
  let t := s.setProg { s.prog with timer := none }
  match t.resumeChannel with
  | some _ =>
    let u := t.intermissionEnds 1
    match u.startCheck with
    | .ok q => u.startOn false q
    | .error _ => u
  | none => t.intermissionEnds 2

/-- R159, R160: a second of a running intermission timer passes without its expiry; the fall to 0 is the expiry itself
(log 34). -/
def timerFalls (s : State) : State :=
  s.setProg { s.prog with timer := s.prog.timer.map fun n => if n ≤ 1 then n else n - 1 }

/-- R163: a tenth of the show clock. -/
def clockTenth (s : State) : State :=
  if s.prog.tenths + 1 < 10 then s.setProg { s.prog with tenths := s.prog.tenths + 1 }
  else s.setProg { s.prog with tenths := 0, clock := min (s.prog.clock + 1) Config.maxHalf }

end State

/-- INTERMISSION_TIMER_TICK (R159): a running timer falls by 1; its fall to 0 is INTERMISSION_EXPIRY (log 34). -/
def execIntermissionTimerTick (s : State) : Host.Outcome State Fault Refusal := s.timerFalls.completed

/-- INTERMISSION_EXPIRY (R159, R160): the second at which the timer reaches 0. A timer that an extend taken first has left
with more than that second runs on through it (log 34). -/
def execIntermissionExpiry (s : State) : Host.Outcome State Fault Refusal :=
  match s.prog.timer with
  | some n => if n ≤ 1 then s.timerExpires.completed else s.timerFalls.completed
  | none => s.completed

/-- SHOW_CLOCK_TICK (R163): a tenth of a second has passed; counted while the clock runs. -/
def execShowClockTick (s : State) : Host.Outcome State Fault Refusal :=
  if s.clockRuns then s.clockTenth.completed else s.completed

end Sys2Proof.Machine
end

