-- ==== Sys2Proof/Machine/ChannelRequests.lean ====
section
/-! DEFINITION. The requests of CHG: THREADED, UNTHREAD, ARM, DISARM, STOP, CLEAR (R45 to R50, R71, R72), START_SHOW
(R67), CHANGE_NOW (R63) and BOOTH_RESET (R76). -/

namespace Sys2Proof.Machine

/-- R44: the data of a channel request's reply, refused or not. -/
def channelData (s : State) (p : Projector) : List Byte := [(s.chanOf p).state.code, indexByte (s.chanOf p).entry]

/-- R44: an answer to a channel request. -/
def channelAnswer (p : Projector) (code : ResultCode) (s : State) : Answer := ⟨s, code, channelData s p⟩

namespace State

/-- R45: the channel's linked entry carries the label. -/
def carries (s : State) (i : Option Nat) (label : Byte) : Bool :=
  (i.bind s.entryAt).any fun e => decide (e.label = label.toNat)

/-- R45, R92: the reel of the entry at index i is declared laced. -/
def declareThreaded (p : Projector) (i : Nat) (s : State) : State :=
  ((((s.setEntryState i .threaded).modChan p fun c => { c with
      state := .threaded
      entry := some i
      motorCueTaken := false
      changeTaken := false
      foilCount := 0
      deferred := false
      openOnReady := false
      pastPicture := false }).modMotion p fun m => { m with
    frames := 0, raised := [], foilMerge := none }).modArc p fun x => { x with lowWarned := false })

/-- R46, R72: the channel returns to IDLE and its entry to PENDING. -/
def unlinkPending (p : Projector) (s : State) : State :=
  (s.setLinkedState p .pending).modChan p fun c => { c with state := .idle, entry := none }

/-- R48: the carbon will not last with the margin. -/
def carbonShort (s : State) (p : Projector) : Bool :=
  decide (s.carbonTime p < s.requiredTime p + s.held p .mc)

/-- R47: ARM taken: the channel and its entry are ARMED, and the late start test is made. -/
def armChannel (p : Projector) (s : State) : State :=
  ((s.setLinkedState p .armed).modChan p fun c => { c with state := .armed }).lateStart p

/-- R72: CLEAR of a HALTED channel. -/
def clearChannel (p : Projector) (s : State) : State :=
  if (s.chanOf p).pastPicture then s.finishReel p
  else if (s.motionOf p).filmClosed then (s.disarmChannel p).testExhausted false
  else (s.unlinkPending p).testExhausted false

/-- R76: a channel at booth reset. -/
def resetChannel (p : Projector) (s : State) : State :=
  (s.stopMotor p).modChan p fun c => { c with
    state := .idle
    entry := none
    runup := .none
    runupDue := none
    deferred := false
    openOnReady := false
    pastPicture := false
    douser := false }

/-- R76: an entry at booth reset. -/
def unprepared (e : Entry) : Entry :=
  match e.state with
  | .threaded | .armed | .running => e.renewed
  | .pending | .done | .skipped => e

/-- R76, R95, R165: booth reset. ARC_STATE is sent with the show clock as it stood before the step clears it, and A's
before B's (log 39): R112 gives that order for fire entry alone. -/
def boothReset (s : State) : State :=
  let t := ((s.resetChannel .a).resetChannel .b).setToken none
  let u := t.setPlan { t.plan with entries := t.plan.entries.map unprepared }
  let v := (u.putOut .a .boothReset).putOut .b .boothReset
  (v.setProg { v.prog with
    state := .idle
    timer := none
    timerEntry := none
    clock := 0
    tenths := 0
    clockStarted := false }).testExhausted false

/-- R63: the holder whose picture CHANGE_NOW carries over. -/
def changeNowFrom (s : State) : Option Projector :=
  s.token.filter fun h => s.readyForPicture h.other && s.isNext h.other

end State

/-- THREADED (R45). -/
def threadedAnswer (label : Byte) (p : Projector) (s : State) : Answer :=
  if (s.chanOf p).state ≠ .idle then
    if decide ((s.chanOf p).state = .threaded) && s.carries (s.chanOf p).entry label then channelAnswer p .ok s
    else channelAnswer p .notReady s
  else
    match s.nextFor p with
    | none => channelAnswer p .wrongReel s
    | some i =>
      if !s.carries (some i) label then channelAnswer p .wrongReel s
      else if !(s.motionOf p).filmClosed then channelAnswer p .notReady s
      else channelAnswer p .ok (s.declareThreaded p i)

/-- UNTHREAD (R46). -/
def unthreadAnswer (p : Projector) (s : State) : Answer :=
  match (s.chanOf p).state with
  | .threaded => channelAnswer p .ok (s.unlinkPending p)
  | .idle => channelAnswer p .ok s
  | .armed | .starting | .ready | .onScreen | .dark | .tail | .halted => channelAnswer p .notReady s

/-- R47: the first of ARM's checks on a THREADED channel that fails. -/
def armRefusal (p : Projector) (s : State) : Option ResultCode :=
  if !s.isNext p then some .notNext
  else if s.fire.lockout then some .fireLockout
  else if (s.arcOf p).state ≠ .lit then some .lampNotLit
  else if (s.shutterOf p.port).state ≠ .held then some .shutterDown
  else if s.carbonShort p then some .carbonShort
  else none

/-- ARM (R47). -/
def armAnswer (p : Projector) (s : State) : Answer :=
  match (s.chanOf p).state with
  | .threaded =>
    match armRefusal p s with
    | some code => channelAnswer p code s
    | none => channelAnswer p .ok (s.armChannel p)
  | .armed => channelAnswer p .ok s
  | .idle | .starting | .ready | .onScreen | .dark | .tail | .halted => channelAnswer p .notReady s

/-- DISARM (R50). -/
def disarmAnswer (p : Projector) (s : State) : Answer :=
  match (s.chanOf p).state with
  | .armed => channelAnswer p .ok (s.disarmChannel p)
  | .threaded => channelAnswer p .ok s
  | .idle | .starting | .ready | .onScreen | .dark | .tail | .halted => channelAnswer p .notReady s

/-- STOP (R71). -/
def stopAnswer (p : Projector) (s : State) : Answer :=
  match (s.chanOf p).state with
  | .starting | .ready | .onScreen | .dark | .tail => channelAnswer p .ok (s.halt p .request)
  | .halted => channelAnswer p .ok s
  | .idle | .threaded | .armed => channelAnswer p .notReady s

/-- CLEAR (R72). -/
def clearAnswer (p : Projector) (s : State) : Answer :=
  if (s.chanOf p).state = .halted then channelAnswer p .ok (s.clearChannel p) else channelAnswer p .notReady s

/-- START_SHOW (R67). -/
def startShowAnswer (s : State) : Answer :=
  match s.startCheck with
  | .ok q => (s.startOn true q).answer .ok
  | .error code => s.answer code

/-- CHANGE_NOW (R63). -/
def changeNowAnswer (s : State) : Answer :=
  match s.changeNowFrom with
  | some h => (s.swap h h.other .request).answer .ok
  | none => s.answer .notReady

/-- BOOTH_RESET (R76). -/
def boothResetAnswer (s : State) : Answer :=
  if s.fire.lockout then s.answer .fireLockout else s.boothReset.answer .ok

end Sys2Proof.Machine
end

