-- ==== Sys2Proof/Machine/PlanStore.lean ====
section
/-! DEFINITION. PLN: the alternation check (R8), the plan edits with their locks (R9 to R16), and PLAN_READ (R19). -/

namespace Sys2Proof.Machine

/-! ### Entries as they are sent -/

/-- R195: an action with its present marker; zeros when absent. -/
def sentAction : Option LightAction → List Byte
  | some x => [1, x.mask.setWidth 8, byte x.level] ++ half x.fade
  | none => [0, 0, 0, 0, 0]

/-- R195: the break after form with its further fields; zeros where not read. -/
def sentBreak : BreakAfter → List Byte
  | .absent => [0, 0, 0] ++ sentAction none
  | .intermission duration action => 1 :: (half duration ++ sentAction action)
  | .ending action => [2, 0, 0] ++ sentAction action

/-- R195: the read form of an entry, 27 bytes. -/
def sentEntry (e : Entry) : List Byte :=
  [byte e.label, e.projector.code] ++ half e.feet ++ [e.cue.code] ++ half e.lead ++ [byte e.allowance] ++
    sentAction e.startAction ++ sentBreak e.brk ++ half e.frames ++
    [e.state.code, marker e.framesRun.isSome] ++ half (e.framesRun.getD 0)

/-- R196: the data of the header replies. -/
def headerData (s : State) : List Byte :=
  [byte s.plan.entries.length, byte s.plan.repeatCount, byte s.plan.passNumber, indexByte s.prog.position,
    indexByte s.nextEntry, indexByte (s.nextFor .a), indexByte (s.nextFor .b)]

/-- R196: an index and the entry at it. -/
def entryData (s : State) (i : Nat) : List Byte :=
  match s.entryAt i with
  | some e => byte i :: sentEntry e
  | none => []

/-! ### The alternation check (R8) -/

/-- R8: the show would carry from x straight on to y on the same projector. -/
def Entry.clashes (x y : Entry) : Bool := x.noBreak && decide (x.projector = y.projector)

/-- R8: no entry of the list clashes with the one after it. -/
def noClashes : List Entry → Bool
  | x :: y :: rest => !x.clashes y && noClashes (y :: rest)
  | _ => true

/-- R8: the list passes the alternation check. -/
def alternates (entries : List Entry) : Bool := noClashes (entries.filter fun e => decide (e.state ≠ .skipped))

/-! ### Locks (R10 to R13) -/

/-- R10: PLAN_WRITE finds an entry locked. -/
def writeLocked (current : ShowState) (e : Entry) : Bool :=
  match e.state with
  | .pending | .threaded | .skipped => false
  | .done => !(decide (current = .idle) || decide (current = .ended))
  | .armed | .running => true

/-- R11: the states of an entry that an insert can move. -/
def EntryState.movable : EntryState → Bool
  | .pending | .threaded | .skipped => true
  | .armed | .running | .done => false

/-- R12: the states in which an entry can be deleted. -/
def EntryState.removable : EntryState → Bool
  | .pending | .threaded => true
  | .armed | .running | .done | .skipped => false

/-! ### Links across an edit (R5, R15; log 28) -/

/-- An index after an insert at i. -/
def afterInsert (i j : Nat) : Nat := if i ≤ j then j + 1 else j

/-- An index after the delete of i. -/
def afterDelete (i j : Nat) : Option Nat := if j = i then none else if i < j then some (j - 1) else some j

namespace State

/-- Every link to an entry is moved: the position, the channels', the intermission entry and last done. -/
def relink (f : Nat → Option Nat) (s : State) : State :=
  let t := s.setProg { s.prog with
    position := s.prog.position.bind f
    timerEntry := s.prog.timerEntry.bind f
    lastDone := s.prog.lastDone.bind f }
  (t.modChan .a fun c => { c with entry := c.entry.bind f }).modChan .b fun c => { c with entry := c.entry.bind f }

def setEntries (entries : List Entry) (s : State) : State := s.setPlan { s.plan with entries := entries }

/-- R14: the channel linked to an entry, being in THREADED, returns to IDLE (log 25). -/
def releaseChannel (i : Nat) (s : State) : State :=
  match s.linkedTo i with
  | some p =>
    if (s.chanOf p).state = .threaded then s.modChan p fun c => { c with state := .idle, entry := none } else s
  | none => s

/-- R16: a channel linked to a THREADED or ARMED entry returns to IDLE. -/
def releaseForRestart (p : Projector) (s : State) : State :=
  if (s.chanOf p).state = .threaded ∨ (s.chanOf p).state = .armed then
    s.modChan p fun c => { c with state := .idle, entry := none }
  else s

/-- R16: the restart of the plan. -/
def restartPlan (s : State) : State :=
  let t := (s.releaseForRestart .a).releaseForRestart .b
  (t.setPlan { t.plan with
      passNumber := 1
      entries := t.plan.entries.map fun e => if e.state = .skipped then e else e.renewed }).setProg
    { t.prog with
      state := .idle, position := none, clock := 0, tenths := 0, clockStarted := false, lastDone := none }

/-- R16: PLAN_HEADER taken. -/
def writeHeader (count : Nat) (s : State) : State :=
  let t := s.setPlan { s.plan with repeatCount := count }
  if decide (s.prog.state = .ended) && !s.plan.entries.any (fun e => decide (e.state = .running)) then t.restartPlan
  else t

/-- R10: the entry that a write leaves in place of e. -/
def written (x : EntryForm) (e : Entry) : Taken Entry :=
  takeEntry e.projector e.cue e.brk.form (if e.state = .done then .done else .pending)
    (if e.state = .done then e.framesRun else none) x

/-- R7, R11: the entry an insert adds, with the insert defaults. -/
def inserted (x : EntryForm) : Taken Entry := takeEntry .a .footage .absent .pending none x

end State

/-! ### The edits -/

/-- PLAN_READ (R19). -/
def planReadAnswer (selector : Byte) (s : State) : Answer :=
  if selector = 0xFF then ⟨s, .ok, headerData s⟩
  else if selector.toNat < s.plan.entries.length then ⟨s, .ok, entryData s selector.toNat⟩
  else s.answer .noEntry

/-- PLAN_WRITE (R9, R10). -/
def planWriteAnswer (i : Nat) (x : EntryForm) (s : State) : Answer :=
  match s.entryAt i with
  | none => s.answer .noEntry
  | some e =>
    if writeLocked s.prog.state e then s.answer .locked
    else
      let w := State.written x e
      let entries := s.plan.entries.set i w.val
      if alternates entries then
        let t := ((s.releaseChannel i).setEntries entries).testExhausted false
        ⟨t, okOr w.adjusted, entryData t i⟩
      else s.answer .planConflict

/-- PLAN_INSERT (R9, R11). -/
def planInsertAnswer (i : Nat) (x : EntryForm) (s : State) : Answer :=
  if s.plan.entries.length < i then s.answer .noEntry
  else if Config.planSize ≤ s.plan.entries.length then s.answer .tableFull
  else if !(s.plan.entries.drop i).all (fun e => e.state.movable) then s.answer .locked
  else
    let w := State.inserted x
    let entries := s.plan.entries.insertIdx i w.val
    if alternates entries then
      let t := (s.setEntries entries).relink fun j => some (afterInsert i j)
      ⟨t, okOr w.adjusted, entryData t i⟩
    else s.answer .planConflict

/-- PLAN_DELETE (R9, R12). -/
def planDeleteAnswer (i : Nat) (s : State) : Answer :=
  match s.entryAt i with
  | none => s.answer .noEntry
  | some e =>
    if !e.state.removable || decide (s.prog.position = some i) then s.answer .locked
    else
      let entries := s.plan.entries.eraseIdx i
      if alternates entries then
        let t := (((s.releaseChannel i).setEntries entries).relink (afterDelete i)).testExhausted false
        ⟨t, .ok, [byte i, byte t.plan.entries.length]⟩
      else s.answer .planConflict

/-- R196: the data of a PLAN_SKIP reply. -/
def skipData (s : State) (i : Nat) : List Byte :=
  match s.entryAt i with
  | some e => [byte i, e.state.code]
  | none => []

/-- PLAN_SKIP (R9, R13). -/
def planSkipAnswer (i : Nat) (s : State) : Answer :=
  match s.entryAt i with
  | none => s.answer .noEntry
  | some e =>
    match e.state with
    | .armed | .running | .done => s.answer .locked
    | .skipped => ⟨s, .ok, skipData s i⟩
    | .pending | .threaded =>
      let entries := s.plan.entries.set i { e with state := .skipped }
      if alternates entries then
        let t := ((s.releaseChannel i).setEntries entries).testExhausted false
        ⟨t, .ok, skipData t i⟩
      else s.answer .planConflict

/-- PLAN_HEADER (R16). -/
def planHeaderAnswer (count : Nat) (s : State) : Answer :=
  let t := s.writeHeader count
  ⟨t, .ok, headerData t⟩

end Sys2Proof.Machine
end

