-- ==== Sys2Proof/Machine/Links.lean ====
section
/-! DEFINITION. LNK's receiving side: what each request is answered (R171, R173), frames and bytes (R168, R169), breaks
(R170) and the end of a transmission (R176); and the request commands of the table. -/

namespace Sys2Proof.Machine

/-! ### Requests (R171 to R173, R194) -/

/-- What LNK and the owning block answer to a request on a link. -/
def requestAnswer (l : Connector) (r : Request) : State → Answer :=
  match r with
  | .ident role => identAnswer l role
  | .status sect => screen l (some ()) anyRole fun _ => statusAnswer sect
  | .planRead i => screen l (some ()) anyRole fun _ => planReadAnswer i
  | .planWrite i x => screen l (some ()) houseOnly fun _ => planWriteAnswer i.toNat x
  | .planInsert i x => screen l (some ()) houseOnly fun _ => planInsertAnswer i.toNat x
  | .planDelete i => screen l (some ()) houseOnly fun _ => planDeleteAnswer i.toNat
  | .planSkip i => screen l (some ()) houseOnly fun _ => planSkipAnswer i.toNat
  | .planHeader n => screen l (some ()) houseOnly fun _ => planHeaderAnswer n.toNat
  | .threaded p label => screen l (Projector.ofCode p) ownProjector (threadedAnswer label)
  | .unthread p => screen l (Projector.ofCode p) ownProjector unthreadAnswer
  | .arm p => screen l (Projector.ofCode p) ownOrHouse armAnswer
  | .disarm p => screen l (Projector.ofCode p) ownOrHouse disarmAnswer
  | .stop p => screen l (Projector.ofCode p) ownOrHouse stopAnswer
  | .clear p => screen l (Projector.ofCode p) ownOrHouse clearAnswer
  | .startShow => screen l (some ()) anyRole fun _ => startShowAnswer
  | .changeNow => screen l (some ()) anyRole fun _ => changeNowAnswer
  | .strike p => screen l (Projector.ofCode p) ownProjector strikeAnswer
  | .arcOff p => screen l (Projector.ofCode p) ownProjector arcOffAnswer
  | .carbonLoad p n => screen l (Projector.ofCode p) ownProjector (carbonLoadAnswer n.toNat)
  | .shutterRaise sh => screen l (Shutter.ofCode sh) ownPortOrHouse shutterRaiseAnswer
  | .shutterDrop sh => screen l (Shutter.ofCode sh) anyRole shutterDropAnswer
  | .lights mask level fade => screen l (some ()) anyRole fun _ => lightsAnswer mask level fade
  | .fireReset => screen l (some ()) houseOnly fun _ => fireResetAnswer
  | .boothReset => screen l (some ()) houseOnly fun _ => boothResetAnswer
  | .busReset => screen l (some ()) houseOnly fun _ => busResetAnswer
  | .packRead a => screen l (some ()) anyRole fun _ => packReadAnswer a
  | .packWrite a g top => screen l (some ()) houseOnly fun _ => packWriteAnswer a g top
  | .packForget a => screen l (some ()) houseOnly fun _ => packForgetAnswer a
  | .paramRead x p => screen l (ParamRef.ofCodes x p) anyRole paramReadAnswer
  | .paramWrite x p v => screen l (ParamRef.ofCodes x p) houseOnly (paramWriteAnswer v)
  | .routeRead k => screen l (some ()) houseOnly fun _ => routeReadAnswer k
  | .routeWrite k mask => screen l (some ()) houseOnly fun _ => routeWriteAnswer mask k
  | .intermissionExtend n => screen l (some ()) houseOnly fun _ => intermissionExtendAnswer n

/-- R171, steps 1 to 3: the answer to a frame whose KIND names no request, or whose LEN is not its own. On an unbound
link IDENT alone gets past the first check. -/
def malformedAnswer (l : Connector) (kind : Byte) (s : State) : Answer :=
  if (s.linkOf l).binding.isNone && decide (kind ≠ 0x01) then s.answer .notBound else s.answer .badRequest

namespace State

/-- R169: a request arrives whole on a link, is taken and answered. -/
def request (l : Connector) (r : Request) (s : State) : State :=
  s.takeRequest l (requestCode r) (requestParams r) (requestAnswer l r)

/-- R169, R171: a well-formed frame with this KIND and these parameters completes on a link. -/
def frame (l : Connector) (kind : Byte) (params : List Byte) (s : State) : State :=
  match parseRequest kind params with
  | some r => s.request l r
  | none => s.takeRequest l kind params (malformedAnswer l kind)

/-! ### The receiver (R168, R170) -/

def modLink (l : Connector) (f : Link → Link) (s : State) : State := s.setLink l (f (s.linkOf l))

/-- R168: a frame is discarded. -/
def discardFrame (l : Connector) (s : State) : State :=
  s.modLink l fun k => { k with stage := .hunt, assembly := [], discard := true }

/-- R168: the CHECK byte has arrived, with LEN, the body and CHECK in assembly. -/
def checkFrame (l : Connector) (assembly : List Byte) (s : State) : State :=
  if byteSum assembly = 0 then
    let t := s.modLink l fun k => { k with stage := .hunt, assembly := [] }
    match assembly.tail.dropLast with
    | kind :: params => t.frame l kind params
    | [] => t
  else s.discardFrame l

/-- R168: a byte arrives in BODY. -/
def bodyByte (l : Connector) (b : Byte) (s : State) : State :=
  let assembly := (s.linkOf l).assembly ++ [b]
  if assembly.length < (assembly.headD 0).toNat + 2 then s.modLink l fun k => { k with assembly := assembly }
  else s.checkFrame l assembly

/-- R168: a byte received in LENGTH. -/
def lengthByte (l : Connector) (b : Byte) (s : State) : State :=
  if 1 ≤ b.toNat ∧ b.toNat ≤ Config.lenLimit then s.modLink l fun k => { k with stage := .body, assembly := [b] }
  else s.discardFrame l

/-- R168: a byte received on a link's receive loop. -/
def receiveByte (l : Connector) (b : Byte) (framingError : Bool) (s : State) : State :=
  match (s.linkOf l).stage with
  | .hunt =>
    if b = 0x7E ∧ !framingError then s.modLink l fun k => { k with stage := .length, assembly := [] } else s
  | .length => if framingError then s.discardFrame l else s.lengthByte l b
  | .body => if framingError then s.discardFrame l else s.bodyByte l b
  | .brk => s

/-- R168: a gap of more than 30 ms. -/
def gap (l : Connector) (s : State) : State :=
  match (s.linkOf l).stage with
  | .length | .body => s.discardFrame l
  | .hunt | .brk => s

/-- R170: the link record after a break. -/
def brokenLink : Link := ⟨none, .brk, [], [], [], .idle, [], false, false, false⟩

/-- R170: link reset. -/
def linkReset (l : Connector) (s : State) : State :=
  let t := s.setLink l brokenLink
  match (s.linkOf l).binding with
  | some r => t.roleNotice l r 0
  | none => t

/-- R170: the receive loop returns to mark. -/
def markReturns (l : Connector) (s : State) : State :=
  if (s.linkOf l).stage = .brk then s.modLink l fun k => { k with stage := .hunt } else s

/-- R169, R176: a frame has been sent to its end; a reply's slot is freed. The choice of the next frame is made as the
step closes (log 7). -/
def frameSent (l : Connector) (s : State) : State :=
  match (s.linkOf l).tx with
  | .idle => s
  | .reply _ => s.modLink l fun k => { k with tx := .idle, slots := k.slots.tail }
  | .notice _ => s.modLink l fun k => { k with tx := .idle }

/-- FRAME_RECEIVED's frame (R168, R169). A body with no LEN of 1 to 48 is no frame: it is discarded (log 6). -/
def frameBody (l : Connector) (body : List Byte) (s : State) : State :=
  if (s.linkOf l).stage = .brk then s
  else
    match body with
    | [] => s.discardFrame l
    | kind :: params => if body.length ≤ Config.lenLimit then s.frame l kind params else s.discardFrame l

end State

/-! ### The link events of the table -/

/-- FRAME_RECEIVED (R169). -/
def execFrameReceived (l : Connector) (body : List Byte) (s : State) : Host.Outcome State Fault Refusal :=
  (s.frameBody l body).completed

/-- INTERBYTE_GAP_TIMEOUT (R168). -/
def execInterbyteGapTimeout (l : Connector) (s : State) : Host.Outcome State Fault Refusal := (s.gap l).completed

/-- LINK_BREAK (R170). -/
def execLinkBreak (l : Connector) (s : State) : Host.Outcome State Fault Refusal := (s.linkReset l).completed

/-- LINK_MARK_RETURN (R170). -/
def execLinkMarkReturn (l : Connector) (s : State) : Host.Outcome State Fault Refusal := (s.markReturns l).completed

/-- TRANSMIT_FRAME_END (R176). -/
def execTransmitFrameEnd (l : Connector) (s : State) : Host.Outcome State Fault Refusal := (s.frameSent l).completed

/-- BYTE_RECEIVED (R168). -/
def execByteReceived (l : Connector) (b : Byte) (framingError : Bool) (s : State) : Host.Outcome State Fault Refusal :=
  (s.receiveByte l b framingError).completed

/-- UNKNOWN_REQUEST_KIND (R171): a frame whose KIND names no request (log 33). -/
def execUnknownRequestKind (l : Connector) (kind : Byte) (rest : List Byte) (s : State) :
    Host.Outcome State Fault Refusal :=
  (s.frameBody l (kind :: rest)).completed

/-! ### The requests of the table, each as its frame completes (log 5) -/

/-- IDENT (R172). -/
def execIdent (l : Connector) (role : Byte) (s : State) : Host.Outcome State Fault Refusal :=
  (s.request l (.ident role)).completed

/-- STATUS (R182). -/
def execStatus (l : Connector) (sect : Byte) (s : State) : Host.Outcome State Fault Refusal :=
  (s.request l (.status sect)).completed

/-- PLAN_READ (R19). -/
def execPlanRead (l : Connector) (i : Byte) (s : State) : Host.Outcome State Fault Refusal :=
  (s.request l (.planRead i)).completed

/-- PLAN_WRITE (R10). -/
def execPlanWrite (l : Connector) (i : Byte) (x : EntryForm) (s : State) : Host.Outcome State Fault Refusal :=
  (s.request l (.planWrite i x)).completed

/-- PLAN_INSERT (R11). -/
def execPlanInsert (l : Connector) (i : Byte) (x : EntryForm) (s : State) : Host.Outcome State Fault Refusal :=
  (s.request l (.planInsert i x)).completed

/-- PLAN_DELETE (R12). -/
def execPlanDelete (l : Connector) (i : Byte) (s : State) : Host.Outcome State Fault Refusal :=
  (s.request l (.planDelete i)).completed

/-- PLAN_SKIP (R13). -/
def execPlanSkip (l : Connector) (i : Byte) (s : State) : Host.Outcome State Fault Refusal :=
  (s.request l (.planSkip i)).completed

/-- PLAN_HEADER (R16). -/
def execPlanHeader (l : Connector) (n : Byte) (s : State) : Host.Outcome State Fault Refusal :=
  (s.request l (.planHeader n)).completed

/-- THREADED (R45). -/
def execThreaded (l : Connector) (p label : Byte) (s : State) : Host.Outcome State Fault Refusal :=
  (s.request l (.threaded p label)).completed

/-- UNTHREAD (R46). -/
def execUnthread (l : Connector) (p : Byte) (s : State) : Host.Outcome State Fault Refusal :=
  (s.request l (.unthread p)).completed

/-- ARM (R47). -/
def execArm (l : Connector) (p : Byte) (s : State) : Host.Outcome State Fault Refusal :=
  (s.request l (.arm p)).completed

/-- DISARM (R50). -/
def execDisarm (l : Connector) (p : Byte) (s : State) : Host.Outcome State Fault Refusal :=
  (s.request l (.disarm p)).completed

/-- STOP (R71). -/
def execStop (l : Connector) (p : Byte) (s : State) : Host.Outcome State Fault Refusal :=
  (s.request l (.stop p)).completed

/-- CLEAR (R72). -/
def execClear (l : Connector) (p : Byte) (s : State) : Host.Outcome State Fault Refusal :=
  (s.request l (.clear p)).completed

/-- START_SHOW (R67). -/
def execStartShow (l : Connector) (s : State) : Host.Outcome State Fault Refusal :=
  (s.request l .startShow).completed

/-- CHANGE_NOW (R63). -/
def execChangeNow (l : Connector) (s : State) : Host.Outcome State Fault Refusal :=
  (s.request l .changeNow).completed

/-- STRIKE (R80). -/
def execStrike (l : Connector) (p : Byte) (s : State) : Host.Outcome State Fault Refusal :=
  (s.request l (.strike p)).completed

/-- ARC_OFF (R94). -/
def execArcOff (l : Connector) (p : Byte) (s : State) : Host.Outcome State Fault Refusal :=
  (s.request l (.arcOff p)).completed

/-- CARBON_LOAD (R93). -/
def execCarbonLoad (l : Connector) (p : Byte) (n : Half) (s : State) : Host.Outcome State Fault Refusal :=
  (s.request l (.carbonLoad p n)).completed

/-- SHUTTER_RAISE (R100). -/
def execShutterRaise (l : Connector) (sh : Byte) (s : State) : Host.Outcome State Fault Refusal :=
  (s.request l (.shutterRaise sh)).completed

/-- SHUTTER_DROP (R102). -/
def execShutterDrop (l : Connector) (sh : Byte) (s : State) : Host.Outcome State Fault Refusal :=
  (s.request l (.shutterDrop sh)).completed

/-- LIGHTS (R123). -/
def execLights (l : Connector) (mask level : Byte) (fade : Half) (s : State) : Host.Outcome State Fault Refusal :=
  (s.request l (.lights mask level fade)).completed

/-- FIRE_RESET (R115, R116). -/
def execFireReset (l : Connector) (s : State) : Host.Outcome State Fault Refusal :=
  (s.request l .fireReset).completed

/-- BOOTH_RESET (R76). -/
def execBoothReset (l : Connector) (s : State) : Host.Outcome State Fault Refusal :=
  (s.request l .boothReset).completed

/-- BUS_RESET (R145). -/
def execBusReset (l : Connector) (s : State) : Host.Outcome State Fault Refusal :=
  (s.request l .busReset).completed

/-- PACK_READ (R149). -/
def execPackRead (l : Connector) (a : Byte) (s : State) : Host.Outcome State Fault Refusal :=
  (s.request l (.packRead a)).completed

/-- PACK_WRITE (R147). -/
def execPackWrite (l : Connector) (a g top : Byte) (s : State) : Host.Outcome State Fault Refusal :=
  (s.request l (.packWrite a g top)).completed

/-- PACK_FORGET (R148). -/
def execPackForget (l : Connector) (a : Byte) (s : State) : Host.Outcome State Fault Refusal :=
  (s.request l (.packForget a)).completed

/-- PARAM_READ (R190). -/
def execParamRead (l : Connector) (x p : Byte) (s : State) : Host.Outcome State Fault Refusal :=
  (s.request l (.paramRead x p)).completed

/-- PARAM_WRITE (R186). -/
def execParamWrite (l : Connector) (x p : Byte) (v : Half) (s : State) : Host.Outcome State Fault Refusal :=
  (s.request l (.paramWrite x p v)).completed

/-- ROUTE_READ (R179). -/
def execRouteRead (l : Connector) (k : Byte) (s : State) : Host.Outcome State Fault Refusal :=
  (s.request l (.routeRead k)).completed

/-- ROUTE_WRITE (R179). -/
def execRouteWrite (l : Connector) (k mask : Byte) (s : State) : Host.Outcome State Fault Refusal :=
  (s.request l (.routeWrite k mask)).completed

/-- INTERMISSION_EXTEND (R160). -/
def execIntermissionExtend (l : Connector) (n : Half) (s : State) : Host.Outcome State Fault Refusal :=
  (s.request l (.intermissionExtend n)).completed

end Sys2Proof.Machine
end

