-- ==== Sys2Proof/Machine/Motion.lean ====
section
/-! DEFINITION. MOT: the film motion events of a projector (02_film_motion_and_cue_detection.md) and the run-up timers
of CHG (R52). An event whose timer is not running, or whose stage is not the one it ends, changes nothing (log 3). -/

namespace Sys2Proof.Machine

/-! ### Tachometer (R23 to R27) -/

/-- R24: a period joins the ring at its newest end; a full ring loses its oldest. -/
def captured (ring : List Nat) (period : Nat) : List Nat :=
  ring.drop (ring.length + 1 - Config.ringSize) ++ [period]

/-- R26: the at-speed test. -/
def State.speedTest (s : State) (p : Projector) : Bool :=
  let m := s.motionOf p
  decide (m.ring.length = Config.ringSize) &&
    decide (((m.speed10 : Int) - s.held p .snom).natAbs ≤ s.held p .tol)

namespace State

/-- R23, R24, R36: an accepted pulse is captured, becomes the pulse reference and restarts the stall watch. -/
def capturePulse (p : Projector) (s : State) : State :=
  s.modMotion p fun m => { m with
    ring := captured m.ring (min (s.motionCount - m.pulseRef) Config.maxPeriod)
    pulseRef := s.motionCount
    stallWatch := m.stallWatch.map fun _ => s.motionCount }

/-- R26, R36: the at-speed test of a capture; its first pass in STARTING is the speed-reached event, which starts the
stall watch from this pulse. -/
def testSpeed (p : Projector) (s : State) : State :=
  let pass := s.speedTest p
  let t := s.modMotion p fun m => { m with atSpeed := pass }
  if pass && decide ((s.chanOf p).state = .starting) && !(s.motionOf p).speedReached then
    (t.modMotion p fun m => { m with speedReached := true, stallWatch := some s.motionCount }).speedReached p
  else t

/-- R30: a footage point's condition holds. -/
def pointReached (s : State) (p : Projector) (x : FootagePoint) : Bool :=
  match s.entryOf p with
  | none => false
  | some e =>
    let r := e.frames - (s.motionOf p).frames
    match x with
    | .motor => decide (r ≤ e.lead)
    | .motorGuard => decide ((r : Int) ≤ (e.lead : Int) - s.held p .guard)
    | .change => decide (r ≤ e.allowance)
    | .changeGuard => decide (r = 0) || decide ((r : Int) ≤ (e.allowance : Int) - s.held p .guard)
    | .reelEnd => decide (r = 0)
    | .tailEnd => decide (e.frames + s.held p .tailAllowance ≤ (s.motionOf p).frames)

/-- R30, R31: one footage point of ON_SCREEN and DARK, handed if the channel is still there, it has not been raised and
its condition holds. -/
def tryPoint (p : Projector) (s : State) (x : FootagePoint) : State :=
  if (s.chanOf p).state.holding && !(s.motionOf p).raised.contains x && s.pointReached p x then
    (s.modMotion p fun m => { m with raised := m.raised ++ [x] }).footagePoint p x
  else s

/-- R30, R73: the tail end. -/
def tryTailEnd (p : Projector) (s : State) : State :=
  if !(s.motionOf p).raised.contains .tailEnd && s.pointReached p .tailEnd then
    (s.modMotion p fun m => { m with raised := m.raised ++ [.tailEnd] }).reelDone p
  else s

/-- R30, R31: the footage points of the channel's state, nearest the reel head first. -/
def testPoints (p : Projector) (s : State) : State :=
  match (s.chanOf p).state with
  | .onScreen | .dark => [FootagePoint.motor, .motorGuard, .change, .changeGuard, .reelEnd].foldl (tryPoint p) s
  | .tail => s.tryTailEnd p
  | .idle | .threaded | .armed | .starting | .ready | .halted => s

/-- R27, R30: the count of F, and the footage points of a pulse that raises it. -/
def countFrame (p : Projector) (s : State) : State :=
  if (s.chanOf p).state.running && decide ((s.motionOf p).frames < Config.maxHalf) then
    (s.modMotion p fun m => { m with frames := m.frames + 1 }).testPoints p
  else s

/-- R23, R31: a tachometer pulse now. -/
def pulse (p : Projector) (s : State) : State :=
  if s.motionCount - (s.motionOf p).pulseRef < Config.minPeriod then s
  else ((s.capturePulse p).testSpeed p).countFrame p

end State

/-- TACH_PULSE (R23), at an instant of the motion count (log 2). -/
def execTachPulse (p : Projector) (instant : Nat) (s : State) : Host.Outcome State Fault Refusal :=
  ((s.passTo instant).pulse p).completed

/-- RING_TIMEOUT (R24): the ring is emptied where 65535 counts have passed since the pulse reference. An accepted pulse
taken first has moved the reference (log 4). -/
def execRingTimeout (p : Projector) (s : State) : Host.Outcome State Fault Refusal :=
  if (s.motionOf p).pulseRef + Config.maxPeriod ≤ s.motionCount then
    (s.modMotion p fun m => { m with ring := [], atSpeed := false }).completed
  else s.completed

/-- STALL_TIMEOUT (R36): the stall event where the held stall time has passed since the last accepted pulse. An accepted
pulse taken first has restarted the watch, and the stall does not happen (log 4). -/
def execStallTimeout (p : Projector) (s : State) : Host.Outcome State Fault Refusal :=
  match (s.motionOf p).stallWatch with
  | none => s.completed
  | some last =>
    if last + s.held p .stallTime ≤ s.motionCount then
      ((s.modMotion p fun m => { m with stallWatch := none }).halt p .stall).completed
    else s.completed

/-! ### Cue foils (R32, R33) -/

/-- FOIL_INPUT_CHANGE (R32). A level the input already has is no change. -/
def execFoilInputChange (p : Projector) (active : Bool) (s : State) : Host.Outcome State Fault Refusal :=
  if s.inputs.foil.get p = active then s.completed
  else
    let t := s.setInputs { s.inputs with foil := s.inputs.foil.set p active }
    let due := some (s.motionCount + Config.foilTime)
    match (s.motionOf p).foilStage, active with
    | .inactive, true => (t.modMotion p fun m => { m with foilStage := .qualifying, foilDue := due }).completed
    | .qualifying, false => (t.modMotion p fun m => { m with foilStage := .inactive, foilDue := none }).completed
    | .active, false => (t.modMotion p fun m => { m with foilStage := .releasing, foilDue := due }).completed
    | .releasing, true => (t.modMotion p fun m => { m with foilStage := .active, foilDue := none }).completed
    | _, _ => t.completed

namespace State

/-- R33: the activation belongs to the foil already seen. -/
def merged (s : State) (p : Projector) : Bool :=
  match (s.motionOf p).foilMerge with
  | some first => decide ((s.motionOf p).frames - first ≤ Config.mergeWindow)
  | none => false

/-- R33: an activation of the foil input. -/
def foilActivation (p : Projector) (s : State) : State :=
  if (s.chanOf p).state.holding && !s.merged p then
    (s.modMotion p fun m => { m with foilMerge := some m.frames }).foilEvent p
  else s

end State

/-- FOIL_QUALIFY_EXPIRY (R32): the input has been active for 2 ms. -/
def execFoilQualifyExpiry (p : Projector) (s : State) : Host.Outcome State Fault Refusal :=
  if (s.motionOf p).foilStage = .qualifying then
    (((s.passToDue (s.motionOf p).foilDue).modMotion p fun m =>
      { m with foilStage := .active, foilDue := none }).foilActivation p).completed
  else s.completed

/-- FOIL_RELEASE_EXPIRY (R32): the input has been inactive for 2 ms. -/
def execFoilReleaseExpiry (p : Projector) (s : State) : Host.Outcome State Fault Refusal :=
  if (s.motionOf p).foilStage = .releasing then
    ((s.passToDue (s.motionOf p).foilDue).modMotion p fun m =>
      { m with foilStage := .inactive, foilDue := none }).completed
  else s.completed

/-! ### Film present (R34, R35) -/

/-- FILM_SWITCH_CHANGE (R34): the filter begins again. A level the switch already has is no change. -/
def execFilmSwitchChange (p : Projector) (closed : Bool) (s : State) : Host.Outcome State Fault Refusal :=
  if s.inputs.filmClosed.get p = closed then s.completed
  else
    ((s.setInputs { s.inputs with filmClosed := s.inputs.filmClosed.set p closed }).modMotion p fun m =>
      { m with filmDue := some (s.motionCount + Config.filmTime) }).completed

namespace State

/-- R35: what the film-gone event hands to CHG. -/
def filmGone (p : Projector) (s : State) : State :=
  match (s.chanOf p).state with
  | .starting | .ready | .onScreen | .dark => s.halt p .filmBreak
  | .tail => s.reelDone p
  | .idle | .threaded | .armed | .halted => s

end State

/-- FILM_FILTER_EXPIRY (R34): the filtered state follows the switch where it has held its level for 50 ms. A change of
the switch taken first has begun the 50 ms again (log 4). -/
def execFilmFilterExpiry (p : Projector) (s : State) : Host.Outcome State Fault Refusal :=
  match (s.motionOf p).filmDue with
  | none => s.completed
  | some due =>
    if due ≤ s.motionCount then
      let closed := s.inputs.filmClosed.get p
      let t := s.modMotion p fun m => { m with filmClosed := closed, filmDue := none }
      if (s.motionOf p).filmClosed && !closed then (t.filmGone p).completed else t.completed
    else s.completed

/-! ### The run-up timers (R52) -/

/-- RUNUP_STAGE1_EXPIRY (R52). -/
def execRunupStage1Expiry (p : Projector) (s : State) : Host.Outcome State Fault Refusal :=
  if (s.chanOf p).runup = .one then
    let t := s.passToDue (s.chanOf p).runupDue
    let due := some (t.tenthsFromNow (t.held p .tR2 - t.held p .tR1))
    ((t.notify .slowRunup p.code (half (t.motionOf p).speed10)).modChan p fun c =>
      { c with runup := .two, runupDue := due }).completed
  else s.completed

/-- RUNUP_STAGE2_EXPIRY (R52): the run-up has failed. -/
def execRunupStage2Expiry (p : Projector) (s : State) : Host.Outcome State Fault Refusal :=
  if (s.chanOf p).runup = .two then ((s.passToDue (s.chanOf p).runupDue).halt p .runupFail).completed
  else s.completed

end Sys2Proof.Machine
end

