-- ==== Sys2Proof/Machine/Dispatch.lean ====
section
/-! DEFINITION. Dispatch: one arm for each command of the table, one call of its meaning. -/

namespace Sys2Proof.Machine

/-- The effect of a command on everything but the queue. -/
def exec (i : Instr) (s : State) : Host.Outcome State Fault Refusal :=
  match i with
  | .powerOn => Sys2Proof.Machine.execPowerOn s
  | .frameReceived l body => Sys2Proof.Machine.execFrameReceived l body s
  | .interbyteGapTimeout l => Sys2Proof.Machine.execInterbyteGapTimeout l s
  | .linkBreak l => Sys2Proof.Machine.execLinkBreak l s
  | .linkMarkReturn l => Sys2Proof.Machine.execLinkMarkReturn l s
  | .transmitFrameEnd l => Sys2Proof.Machine.execTransmitFrameEnd l s
  | .unknownRequestKind l kind rest => Sys2Proof.Machine.execUnknownRequestKind l kind rest s
  | .ident l role => Sys2Proof.Machine.execIdent l role s
  | .status l sect => Sys2Proof.Machine.execStatus l sect s
  | .planRead l selector => Sys2Proof.Machine.execPlanRead l selector s
  | .planWrite l index form => Sys2Proof.Machine.execPlanWrite l index form s
  | .planInsert l index form => Sys2Proof.Machine.execPlanInsert l index form s
  | .planDelete l index => Sys2Proof.Machine.execPlanDelete l index s
  | .planSkip l index => Sys2Proof.Machine.execPlanSkip l index s
  | .planHeader l count => Sys2Proof.Machine.execPlanHeader l count s
  | .threaded l proj label => Sys2Proof.Machine.execThreaded l proj label s
  | .unthread l proj => Sys2Proof.Machine.execUnthread l proj s
  | .arm l proj => Sys2Proof.Machine.execArm l proj s
  | .disarm l proj => Sys2Proof.Machine.execDisarm l proj s
  | .stop l proj => Sys2Proof.Machine.execStop l proj s
  | .clear l proj => Sys2Proof.Machine.execClear l proj s
  | .startShow l => Sys2Proof.Machine.execStartShow l s
  | .changeNow l => Sys2Proof.Machine.execChangeNow l s
  | .boothReset l => Sys2Proof.Machine.execBoothReset l s
  | .tachPulse p instant => Sys2Proof.Machine.execTachPulse p instant s
  | .ringTimeout p => Sys2Proof.Machine.execRingTimeout p s
  | .stallTimeout p => Sys2Proof.Machine.execStallTimeout p s
  | .foilInputChange p active => Sys2Proof.Machine.execFoilInputChange p active s
  | .foilQualifyExpiry p => Sys2Proof.Machine.execFoilQualifyExpiry p s
  | .foilReleaseExpiry p => Sys2Proof.Machine.execFoilReleaseExpiry p s
  | .filmSwitchChange p closed => Sys2Proof.Machine.execFilmSwitchChange p closed s
  | .filmFilterExpiry p => Sys2Proof.Machine.execFilmFilterExpiry p s
  | .runupStage1Expiry p => Sys2Proof.Machine.execRunupStage1Expiry p s
  | .runupStage2Expiry p => Sys2Proof.Machine.execRunupStage2Expiry p s
  | .strike l proj => Sys2Proof.Machine.execStrike l proj s
  | .arcOff l proj => Sys2Proof.Machine.execArcOff l proj s
  | .carbonLoad l proj length => Sys2Proof.Machine.execCarbonLoad l proj length s
  | .arcCurrentChange p current => Sys2Proof.Machine.execArcCurrentChange p current s
  | .touchTimerExpiry p => Sys2Proof.Machine.execTouchTimerExpiry p s
  | .drawTimerExpiry p voltage => Sys2Proof.Machine.execDrawTimerExpiry p voltage s
  | .regulationInterval p voltage => Sys2Proof.Machine.execRegulationInterval p voltage s
  | .shutterRaise l shutter => Sys2Proof.Machine.execShutterRaise l shutter s
  | .shutterDrop l shutter => Sys2Proof.Machine.execShutterDrop l shutter s
  | .openSenseChange sh made => Sys2Proof.Machine.execOpenSenseChange sh made s
  | .closedSenseChange sh made => Sys2Proof.Machine.execClosedSenseChange sh made s
  | .raiseTimeout sh => Sys2Proof.Machine.execRaiseTimeout sh s
  | .dropTimeout sh => Sys2Proof.Machine.execDropTimeout sh s
  | .heatReadingChange p reading => Sys2Proof.Machine.execHeatReadingChange p reading s
  | .heatStage1Expiry p => Sys2Proof.Machine.execHeatStage1Expiry p s
  | .dousedWaitExpiry p => Sys2Proof.Machine.execDousedWaitExpiry p s
  | .fireSourceOpen x => Sys2Proof.Machine.execFireSourceOpen x s
  | .fireSourceClose x => Sys2Proof.Machine.execFireSourceClose x s
  | .keySwitchChange turnedOn => Sys2Proof.Machine.execKeySwitchChange turnedOn s
  | .fireReset l => Sys2Proof.Machine.execFireReset l s
  | .lights l mask level fade => Sys2Proof.Machine.execLights l mask level fade s
  | .dimmerCycleStart => Sys2Proof.Machine.execDimmerCycleStart s
  | .busBreakEnd => Sys2Proof.Machine.execBusBreakEnd s
  | .levelReplyWindowEnd reply => Sys2Proof.Machine.execLevelReplyWindowEnd reply s
  | .identifyRoundEnd contenders ack => Sys2Proof.Machine.execIdentifyRoundEnd contenders ack s
  | .busReset l => Sys2Proof.Machine.execBusReset l s
  | .packRead l selector => Sys2Proof.Machine.execPackRead l selector s
  | .packWrite l address group top => Sys2Proof.Machine.execPackWrite l address group top s
  | .packForget l address => Sys2Proof.Machine.execPackForget l address s
  | .paramRead l id proj => Sys2Proof.Machine.execParamRead l id proj s
  | .paramWrite l id proj value => Sys2Proof.Machine.execParamWrite l id proj value s
  | .routeRead l kind => Sys2Proof.Machine.execRouteRead l kind s
  | .routeWrite l kind mask => Sys2Proof.Machine.execRouteWrite l kind mask s
  | .intermissionExtend l seconds => Sys2Proof.Machine.execIntermissionExtend l seconds s
  | .intermissionTimerTick => Sys2Proof.Machine.execIntermissionTimerTick s
  | .intermissionExpiry => Sys2Proof.Machine.execIntermissionExpiry s
  | .showClockTick => Sys2Proof.Machine.execShowClockTick s
  | .byteReceived l byte framingError => Sys2Proof.Machine.execByteReceived l byte framingError s
  | .levelPacketSent => Sys2Proof.Machine.execLevelPacketSent s
  | .strikeElapsedTick p => Sys2Proof.Machine.execStrikeElapsedTick p s
  | .heatStageTimerTick p => Sys2Proof.Machine.execHeatStageTimerTick p s

end Sys2Proof.Machine
end

