-- ==== Sys2Proof/Machine/PackUnit.lean ====
section
/-! DEFINITION. What a dimmer pack does on the line (R142, R143): a pack is outside the part and no part of `State`
(log 20). These functions say what replies and contenders the bus commands of the table can carry. -/

namespace Sys2Proof.Machine

/-- R142: the states of a pack. -/
inductive PackState where
  | unbound
  | bound (address : Nat)
  | parked
  deriving DecidableEq, Repr

/-- R142: a pack as it stands on the line. `heard` says whether it has heard this cycle's marker,
`loadOpen` that its load is open, so that it answers LOAD_FAIL (R140). -/
structure PackUnit where
  serial : Serial
  state : PackState
  lamp : Nat
  heard : Bool
  loadOpen : Bool
  deriving DecidableEq, Repr

namespace PackUnit

/-- R142: a pack that powers up. -/
def poweredUp (serial : Serial) (loadOpen : Bool) : PackUnit := ⟨serial, .unbound, 0, false, loadOpen⟩

/-- R142: a break of 40 ms or more. -/
def afterBreak (u : PackUnit) : PackUnit := { u with state := .unbound, heard := false }

/-- R142: the marker of a cycle. -/
def hearMarker (u : PackUnit) : PackUnit := { u with heard := true }

/-- R142, R143: the pack takes part in an identify round. -/
def contends (u : PackUnit) : Bool := u.heard && decide (u.state = .unbound)

/-- R143: the assign of a round. -/
def takeAssign (serial : Serial) (address : Nat) (u : PackUnit) : PackUnit :=
  if u.contends && decide (u.serial = serial) then
    if address = 0 then { u with state := .parked, lamp := 0 } else { u with state := .bound address }
  else u

/-- R142: a level packet: the pack it addresses takes the level and answers in the reply window. -/
def takeLevel (address level : Nat) (u : PackUnit) : PackUnit × List Byte :=
  if u.heard && decide (u.state = .bound address) then ({ u with lamp := level }, replyMessage u.loadOpen address)
  else (u, [])

end PackUnit

/-- R143: the serials that contend in a round called to these packs. -/
def contendersOf (units : List PackUnit) : List Serial := (units.filter PackUnit.contends).map (·.serial)

end Sys2Proof.Machine
end

