-- ==== Sys2Proof/Safety.lean ====
section
/-! DEFINITION. What counts as a safe run: the laws the spec says the part keeps, each with its rule, and the vocabulary
in which statements say what a command changes. -/

namespace Sys2Proof.Machine

/-! ### The laws -/

abbrev Projector.both : List Projector := [.a, .b]

abbrev Connector.every : List Connector := [.a, .b, .h]

abbrev Shutter.every : List Shutter := [.portA, .portB, .obs1, .obs2]

namespace State

/-- R41: the token names exactly the channel that is ON_SCREEN or DARK. -/
abbrev tokenLaw (s : State) : Prop :=
  ∀ p ∈ Projector.both, (s.token = some p ↔ (s.chanOf p).state.holding = true)

/-- R42: the sound follows the token; a douser is open exactly in ON_SCREEN, where the picture conditions hold; the
motor is on exactly in the running states. -/
abbrev outputLaw (s : State) : Prop :=
  s.sound = s.token ∧ ∀ p ∈ Projector.both,
    (s.chanOf p).douser = decide ((s.chanOf p).state = .onScreen) ∧
    (s.chanOf p).motor = (s.chanOf p).state.running ∧
    ((s.chanOf p).state = .onScreen → s.pictureConditions p = true)

/-- R41, R42. -/
abbrev pictureLaw (s : State) : Prop := s.tokenLaw ∧ s.outputLaw

/-- R77, R78, R99: the outputs of an arc and of a shutter are those of its state, and a strike phase stands exactly in
STRIKING. -/
abbrev driveLaw (s : State) : Prop :=
  (∀ p ∈ Projector.both, (s.arcOf p).contactor = (s.arcOf p).state.closesContactor ∧
      ((s.arcOf p).phase = .none ↔ (s.arcOf p).state ≠ .striking)) ∧
    ∀ sh ∈ Shutter.every, (s.shutterOf sh).lift = (s.shutterOf sh).state.lifts ∧
      (s.shutterOf sh).hold = (s.shutterOf sh).state.holds

/-- R112, R129, R193: what stands while the lockout is set, and that it is set exactly in FIRE_STOP. -/
abbrev lockoutLaw (s : State) : Prop :=
  (s.fire.lockout = true ↔ s.prog.state = .fireStop) ∧ s.lights.emergency = s.fire.lockout ∧
    s.fire.alarm = s.fire.lockout ∧
    (s.fire.lockout = true →
      (∀ p ∈ Projector.both, (s.chanOf p).motor = false ∧ (s.chanOf p).douser = false ∧
        (s.arcOf p).contactor = false) ∧
      (∀ sh ∈ Shutter.every, (s.shutterOf sh).lift = false ∧ (s.shutterOf sh).hold = false) ∧
      ∀ g ∈ Group.all, (s.lights.groupAt g).level = 255 ∧ (s.lights.groupAt g).active = false)

/-- R41, R42, R78, R99, R112: the picture, the drives and the lockout together. -/
abbrev boothLaw (s : State) : Prop := s.pictureLaw ∧ s.driveLaw ∧ s.lockoutLaw

/-- R79: while an arc is LIT its carbon stock is greater than the stub. -/
abbrev carbonLaw (s : State) : Prop :=
  ∀ p ∈ Projector.both, (s.arcOf p).state = .lit → s.held p .stub < (s.arcOf p).carbon

end State

/-- R4: the state of the entry that a channel in this state is linked to. -/
def ChannelState.entryState : ChannelState → Option EntryState
  | .idle => none
  | .threaded => some .threaded
  | .armed => some .armed
  | .starting | .ready | .onScreen | .dark | .tail | .halted => some .running

/-- R3: a lighting action holds its level and fade in range. -/
def LightAction.inRange (x : LightAction) : Bool := decide (x.level ≤ 255 ∧ x.fade ≤ 600)

/-- R3: a break after field holds its duration and action in range. -/
def BreakAfter.inRange : BreakAfter → Bool
  | .absent => true
  | .intermission duration action => decide (duration ≤ 1800) && action.all LightAction.inRange
  | .ending action => action.all LightAction.inRange

/-- R2, R6: an entry holds its numeric fields in range. -/
def Entry.inRange (e : Entry) : Bool :=
  decide (1 ≤ e.label ∧ e.label ≤ 99 ∧ 100 ≤ e.feet ∧ e.feet ≤ 2200 ∧ 48 ≤ e.lead ∧ e.lead ≤ 480 ∧ 8 ≤ e.allowance ∧
    e.allowance ≤ 96 ∧ e.allowance + 48 ≤ e.lead) && e.startAction.all LightAction.inRange && e.brk.inRange

namespace State

/-- R4, R5, R40: a channel is linked to an entry exactly outside IDLE; the entry is the projector's own and in the
state that goes with the channel's; and an entry in such a state has its channel. -/
abbrev linkLaw (s : State) : Prop :=
  (∀ p ∈ Projector.both, ((s.entryOf p).map fun e => (e.projector, e.state)) =
      (s.chanOf p).state.entryState.map fun x => (p, x)) ∧
    (∀ p ∈ Projector.both, (s.chanOf p).entry.isSome = (s.entryOf p).isSome) ∧
    ∀ i ∈ List.range s.plan.entries.length, ∀ e ∈ s.entryAt i,
      (e.state = .threaded ∨ e.state = .armed ∨ e.state = .running) → (s.linkedTo i).isSome = true

/-- R8: at most 16 entries, and the alternation of the projectors. -/
abbrev alternationLaw (s : State) : Prop :=
  s.plan.entries.length ≤ Config.planSize ∧ alternates s.plan.entries = true

/-- R2, R6: every entry holds its numeric fields in range. -/
abbrev rangeLaw (s : State) : Prop := ∀ e ∈ s.plan.entries, e.inRange = true

/-- R4, R5, R6, R8. -/
abbrev planLaw (s : State) : Prop := s.linkLaw ∧ s.alternationLaw ∧ s.rangeLaw

/-- R122: the level of a fading group lies between the fade's ends, and the fade has steps left. -/
abbrev fadeLaw (s : State) : Prop :=
  ∀ g ∈ Group.all, (s.lights.groupAt g).active = true →
    (s.lights.groupAt g).k < (s.lights.groupAt g).n ∧
    min (s.lights.groupAt g).start (s.lights.groupAt g).target ≤ (s.lights.groupAt g).level ∧
    (s.lights.groupAt g).level ≤ max (s.lights.groupAt g).start (s.lights.groupAt g).target

/-- R137: the pack table holds distinct addresses in 1..15 and distinct serials. -/
abbrev packLaw (s : State) : Prop :=
  (∀ x ∈ s.bus.packs, 1 ≤ x.address ∧ x.address ≤ Config.packLimit) ∧
    (s.bus.packs.map (·.address)).Nodup ∧ (s.bus.packs.map (·.serial)).Nodup ∧
    s.bus.packs.length ≤ Config.packLimit

/-- R172: each role is bound to at most one link. -/
abbrev roleLaw (s : State) : Prop :=
  ∀ l ∈ Connector.every, ∀ m ∈ Connector.every, l ≠ m → (s.linkOf l).binding.isSome = true →
    (s.linkOf l).binding ≠ (s.linkOf m).binding

end State

/-- R176: a reply is going out. -/
def Tx.sendsReply : Tx → Bool
  | .reply _ => true
  | .idle | .notice _ => false

/-- R169, R174: the slots of a link are held by the replies queued and the reply going out, and are at most two. -/
abbrev Link.slotLaw (k : Link) : Prop :=
  k.slots.length = k.replies.length + k.tx.sendsReply.toNat ∧ k.slots.length ≤ Config.slotLimit

/-- R180: at most 16 notices, at most one of a coalescing kind for a subject, and none on an unbound link. -/
abbrev Link.noticeLaw (k : Link) : Prop :=
  k.notices.length ≤ Config.noticeLimit ∧
    k.notices.Pairwise (fun m n => n.kind.coalesces = true → m.sameSubject n = false) ∧
    (k.binding = none → k.notices = [])

/-- R176: an idle transmitter has nothing to send. -/
abbrev Link.idleLaw (k : Link) : Prop := k.tx = .idle → k.replies = [] ∧ k.notices = []

namespace State

/-- R169, R174, R176, R180: the queues of every link. -/
abbrev queueLaw (s : State) : Prop :=
  ∀ l ∈ Connector.every, (s.linkOf l).slotLaw ∧ (s.linkOf l).noticeLaw ∧ (s.linkOf l).idleLaw

/-- R189: held and effective T_r2 are at least the T_r1 of the same kind + 10. -/
abbrev limitLaw (s : State) : Prop :=
  ∀ p ∈ Projector.both, leastLimit (s.held p .tR1) ≤ s.held p .tR2 ∧
    leastLimit ((s.par.proj.get p).tR1).effective ≤ ((s.par.proj.get p).tR2).effective

end State

/-- R184: the held value and any pending value lie in the parameter's range, and an IMMEDIATE parameter has no pending
value. -/
abbrev ParamRec.within (r : ParamRec) (row : ParamSpec) : Prop :=
  (row.low ≤ r.held ∧ r.held ≤ row.high) ∧ (∀ v ∈ r.pending, row.low ≤ v ∧ v ≤ row.high) ∧
    (row.point = .immediate → r.pending = none)

namespace State

/-- R184, R185: every parameter record. -/
abbrev paramLaw (s : State) : Prop :=
  (∀ p ∈ Projector.both, ∀ q ∈ ProjParam.all, (s.par.recOf (.proj p q)).within q.row) ∧
    ∀ q ∈ DevParam.all, (s.par.recOf (.dev q)).within q.row

/-- R24, R25, R90, R139, R159, R163: the rings, the intermission timer, the show clock and the pointer hold values of
their ranges. -/
abbrev countLaw (s : State) : Prop :=
  (∀ p ∈ Projector.both, (s.motionOf p).ring.length ≤ Config.ringSize ∧
      (∀ x ∈ (s.motionOf p).ring, Config.minPeriod ≤ x ∧ x ≤ Config.maxPeriod) ∧
      (s.arcOf p).ring.length ≤ Config.bucketRing) ∧
    (∀ n ∈ s.prog.timer, n ≤ Config.timerLimit) ∧ s.prog.clock ≤ 65535 ∧ s.prog.tenths ≤ 9 ∧
    s.bus.pointer ≤ Config.packLimit

end State

/-! ### What a command leaves unchanged -/

/-- The parts of the state that a statement names. -/
inductive Block where
  | plan | prog | motion (p : Projector) | chan (p : Projector) | token | arc (p : Projector) | shutter (sh : Shutter)
  | heat (p : Projector) | fire | lights | bus | link (l : Connector) | routing | par | inputs | motionCount
  | freeCount | queue
  deriving DecidableEq, Repr

/-- The two states agree in a block; the sound selector goes with the token (R42). -/
def Block.same (s t : State) : Block → Prop
  | .plan => t.plan = s.plan
  | .prog => t.prog = s.prog
  | .motion p => t.motionOf p = s.motionOf p
  | .chan p => t.chanOf p = s.chanOf p
  | .token => t.token = s.token ∧ t.sound = s.sound
  | .arc p => t.arcOf p = s.arcOf p
  | .shutter sh => t.shutterOf sh = s.shutterOf sh
  | .heat p => t.heatOf p = s.heatOf p
  | .fire => t.fire = s.fire
  | .lights => t.lights = s.lights
  | .bus => t.bus = s.bus
  | .link l => t.linkOf l = s.linkOf l
  | .routing => t.routing = s.routing
  | .par => t.par = s.par
  | .inputs => t.inputs = s.inputs
  | .motionCount => t.motionCount = s.motionCount
  | .freeCount => t.freeCount = s.freeCount
  | .queue => t.pending = s.pending

/-- Every block outside a list is unchanged. -/
def changesOnly (blocks : List Block) (s t : State) : Prop := ∀ b : Block, b ∉ blocks → b.same s t

/-- The blocks of the three links. -/
abbrev everyLink : List Block := [.link .a, .link .b, .link .h]

/-- R178: a link's record after these notices have been routed to it under the routing table of s. -/
def afterNotices (s : State) (l : Connector) (notices : List Notice) (k : Link) : Link :=
  notices.foldl (fun k n => deliver (s.maskOf n.kind) n l k) k

/-- R177, R178: exactly these notices have been routed, in this order, and nothing else has changed a link. -/
def notified (notices : List Notice) (s t : State) : Prop :=
  ∀ l : Connector, t.linkOf l = afterNotices s l notices (s.linkOf l)

/-! ### What a command answers -/

/-- The command does all of this and no more: the state u differs from s in the listed blocks and the links alone, these
notices have been routed in this order, the effect holds of u, and the outcome is the close of the step on what `after`
makes of u. -/
def runs (c : Instr) (s : State) (notices : List Notice) (blocks : List Block) (effect : State → Prop)
    (after : State → State := id) : Prop :=
  ∃ u : State, exec c s = .next (after u).finish ∧ notified notices s u ∧ effect u ∧
    changesOnly (everyLink ++ blocks) s u

/-- The command changes nothing: its outcome is the close of a step on s itself. -/
def idles (c : Instr) (s : State) : Prop := exec c s = .next s.finish

/-- R169: a frame with this body holds a receive slot of link l, and exactly these notices have been routed. -/
def taken (l : Connector) (body : List Byte) (notices : List Notice) (s t : State) : Prop :=
  ∀ m : Connector, t.linkOf m =
    if m = l then
      { afterNotices s m notices (s.linkOf m) with
        stage := .hunt
        assembly := []
        slots := (s.linkOf m).slots ++ [body] }
    else afterNotices s m notices (s.linkOf m)

/-- As `runs`, of a command that brings a frame with this body on link l: the frame takes a slot, and its reply joins
the reply queue after everything else it does (R169, R174). -/
def answers (c : Instr) (l : Connector) (body : List Byte) (s : State) (code : ResultCode) (data : State → List Byte)
    (notices : List Notice) (blocks : List Block) (effect : State → Prop) (after : State → State := id) : Prop :=
  ∃ u : State, exec c s = .next ((after u).queueReply l ⟨replyKind (body.headD 0), code, data (after u)⟩).finish ∧
    taken l body notices s u ∧ effect u ∧ changesOnly (everyLink ++ blocks) s u

/-- R169: the receiver of a link is up and a slot is free. -/
abbrev listens (l : Connector) (s : State) : Prop :=
  (s.linkOf l).stage ≠ .brk ∧ (s.linkOf l).slots.length < Config.slotLimit

/-- R169, R171: a request from a link bound to this role finds the receiver up and a slot free. -/
abbrev heard (l : Connector) (r : Role) (s : State) : Prop := (s.linkOf l).binding = some r ∧ listens l s

end Sys2Proof.Machine

namespace Sys2Proof

open Machine

/-- The command of the table that a request on a link is. -/
def Request.instr (l : Connector) : Request → Instr
  | .ident x => .ident l x
  | .status x => .status l x
  | .planRead i => .planRead l i
  | .planWrite i x => .planWrite l i x
  | .planInsert i x => .planInsert l i x
  | .planDelete i => .planDelete l i
  | .planSkip i => .planSkip l i
  | .planHeader n => .planHeader l n
  | .threaded p x => .threaded l p x
  | .unthread p => .unthread l p
  | .arm p => .arm l p
  | .disarm p => .disarm l p
  | .stop p => .stop l p
  | .clear p => .clear l p
  | .startShow => .startShow l
  | .changeNow => .changeNow l
  | .strike p => .strike l p
  | .arcOff p => .arcOff l p
  | .carbonLoad p n => .carbonLoad l p n
  | .shutterRaise sh => .shutterRaise l sh
  | .shutterDrop sh => .shutterDrop l sh
  | .lights mask level fade => .lights l mask level fade
  | .fireReset => .fireReset l
  | .boothReset => .boothReset l
  | .busReset => .busReset l
  | .packRead a => .packRead l a
  | .packWrite a g top => .packWrite l a g top
  | .packForget a => .packForget l a
  | .paramRead x p => .paramRead l x p
  | .paramWrite x p v => .paramWrite l x p v
  | .routeRead k => .routeRead l k
  | .routeWrite k mask => .routeWrite l k mask
  | .intermissionExtend n => .intermissionExtend l n

/-- R171, step 4: the role, projector or shutter a request names is one. A per-projector parameter names a projector
(R194). -/
def Request.named : Request → Bool
  | .ident x => decide (x.toNat ≤ 2)
  | .threaded p _ | .unthread p | .arm p | .disarm p | .stop p | .clear p | .strike p | .arcOff p | .carbonLoad p _ =>
    decide (p.toNat ≤ 1)
  | .shutterRaise sh | .shutterDrop sh => decide (sh.toNat ≤ 3)
  | .paramRead x p | .paramWrite x p _ => decide (p.toNat ≤ 1) || !decide (1 ≤ x.toNat ∧ x.toNat ≤ 18)
  | .status _ | .planRead _ | .planWrite _ _ | .planInsert _ _ | .planDelete _ | .planSkip _ | .planHeader _
  | .startShow | .changeNow | .lights _ _ _ | .fireReset | .boothReset | .busReset | .packRead _ | .packWrite _ _ _
  | .packForget _ | .routeRead _ | .routeWrite _ _ | .intermissionExtend _ => true

/-- R173: the table of rights. -/
def Request.permits (r : Role) : Request → Bool
  | .ident _ | .status _ | .planRead _ | .packRead _ | .paramRead _ _ | .startShow | .changeNow | .lights _ _ _
  | .shutterDrop _ => true
  | .threaded p _ | .unthread p | .strike p | .arcOff p | .carbonLoad p _ => r.own.any fun x => decide (x.code = p)
  | .arm p | .disarm p | .stop p | .clear p => decide (r = .h) || r.own.any fun x => decide (x.code = p)
  | .shutterRaise sh => decide (r = .h) || r.own.any fun x => decide (x.port.code = sh)
  | .planWrite _ _ | .planInsert _ _ | .planDelete _ | .planSkip _ | .planHeader _ | .fireReset | .boothReset
  | .intermissionExtend _ | .busReset | .packWrite _ _ _ | .packForget _ | .paramWrite _ _ _ | .routeRead _
  | .routeWrite _ _ => decide (r = .h)

namespace Machine

/-- `answers`, of a request on link l. -/
def grants (l : Connector) (r : Request) (s : State) (code : ResultCode) (data : State → List Byte)
    (notices : List Notice) (blocks : List Block) (effect : State → Prop) (after : State → State := id) : Prop :=
  answers (r.instr l) l (requestBody r) s code data notices blocks effect after

/-- The request on link l gets this reply, and changes nothing but its own link's record. -/
def repliesOnly (l : Connector) (r : Request) (s : State) (code : ResultCode) (data : List Byte) : Prop :=
  grants l r s code (fun _ => data) [] [] fun _ => True

/-- R4: the plan with the entry a channel is linked to in a state. -/
def planWith (p : Projector) (x : EntryState) (s : State) : Plan :=
  match (s.chanOf p).entry with
  | some i => { s.plan with entries := s.plan.entries.modify i fun e => { e with state := x } }
  | none => s.plan

/-- R17, R18: the first index at or after `start` whose entry passes the test. -/
abbrev firstFrom (test : Entry → Bool) (start : Nat) (s : State) (i : Nat) : Prop :=
  start ≤ i ∧ (s.entryAt i).any test = true ∧ ∀ j, start ≤ j → j < i → (s.entryAt j).any test = false

/-- R155: the show and the lights once the picture is lost: a RUNNING show goes to STALLED, with the break lighting. -/
def lostPicture (s t : State) : Prop :=
  t.prog = (if s.prog.state = .running then { s.prog with state := .stalled } else s.prog) ∧
    t.lights = if s.prog.state = .running then
        s.lights.breakAction s.prog.clock (BitVec.ofNat 4 (s.heldDev .brkMask)) (s.heldDev .brkLevel)
          (s.heldDev .brkFade)
      else s.lights

end Machine

end Sys2Proof
end

