-- ==== Sys2Proof/Certificates/Slice0/Obligations.lean ====
section
/-! DEFINITION. The statements for the provers. Each docstring names the rules of spec/ it formalises. `runs`, `answers`,
`grants` and `repliesOnly` (Safety.lean) all conclude that a command answers a next state, and say what that state
is. -/

open Sys2Proof Sys2Proof.Machine

/-! ### The step and the links (chapter 9) -/

/-- 95_what_each_step_holds.md: each row of the table is one step, whole. That the commands wait in a queue, and that
a step takes the one at its front, is the model's (log 21).

R22: with no command waiting the motion count runs on, and nothing else changes. That one step is one count is the
model's choice (log 1). -/
def Obligations.StepRunsFront : Prop :=
  (∀ (c : Instr) (rest : List Instr) (s : State),
      step { s with pending := c :: rest } = exec c { s with pending := rest }) ∧
  (∀ s : State, s.pending = [] → step s = .next { s with motionCount := s.motionCount + 1 })

/-- R174, R176, R181: the close of a step. The step's LIGHTS_DONE notices are routed; then each link's transmitter, if
idle, takes the oldest reply and clears DISCARD and OVERRUN, or else takes the oldest notice and, where it leaves the
queue empty, clears NOTICES_LOST. Nothing else changes. The place of the LIGHTS_DONE notices and of the choice in the
step is the model's (logs 7, 8).

R192, R175, R193: the frame of a reply and of a notice: 7Eh, LEN, the body, and a CHECK that makes LEN, the body
and CHECK sum to 0; the body is KIND, the booth summary, and the code and data of the reply, or the subject, clock and
data of the notice. The summary is the position and the waiting count, then the token, the show state and the three
flags. -/
def Obligations.CloseOfStep : Prop :=
  (∀ s : State,
      (∀ l : Connector,
        let k := afterNotices s l s.lights.out (s.linkOf l)
        s.finish.linkOf l =
          match k.tx, k.replies, k.notices with
          | .idle, r :: rest, _ =>
            { k with replies := rest, tx := .reply (s.replyFrame k r), discard := false, overrun := false }
          | .idle, [], n :: rest =>
            { k with
              notices := rest
              tx := .notice (s.noticeFrame k n rest.length)
              lost := if rest = [] then false else k.lost }
          | _, _, _ => k) ∧
        s.finish.lights = { s.lights with out := [] } ∧ changesOnly (everyLink ++ [.lights]) s s.finish) ∧
  (∀ (s : State) (k : Link) (r : Reply) (n : Notice) (waiting : Nat) (body : List Byte),
      let summary (w : Nat) : List Byte :=
        [byte (s.prog.position.getD 0 * 16 + min w 15),
          byte ((match s.token with | none => 0 | some .a => 1 | some .b => 2) * 64 + s.prog.state.number * 8 +
            k.discard.toNat * 4 + k.overrun.toNat * 2 + k.lost.toNat)]
      (∃ check : Byte, frameOf body = [0x7E, byte body.length] ++ body ++ [check] ∧
        byteSum ([byte body.length] ++ body ++ [check]) = 0) ∧
      s.replyFrame k r = frameOf ([r.kind] ++ summary k.notices.length ++ [r.code.code] ++ r.data) ∧
      s.noticeFrame k n waiting =
        frameOf ([n.kind.code] ++ summary waiting ++ [n.subject, byte (n.clock / 256), byte n.clock] ++ n.data))

/-- R194, R169: a frame whose body is that of a request, KIND and parameters, does what the request's own command
does, in every state and with every value of its parameters. -/
def Obligations.RequestFramesDecode : Prop :=
  ∀ (l : Connector) (r : Request) (s : State),
    ∃ t : State, exec (.frameReceived l (requestBody r)) s = .next t ∧ exec (r.instr l) s = .next t

/-- R168: the bytes of a frame with a body of 1 to 48 bytes, received without an error by a receiver in HUNT, are
assembled: the last of them brings what FRAME_RECEIVED of that body brings, and those before it change the receiver
alone. -/
def Obligations.ReceiverAssemblesFrames : Prop :=
  ∀ (l : Connector) (body : List Byte) (s : State), 1 ≤ body.length → body.length ≤ 48 →
    (s.linkOf l).stage = .hunt → (s.linkOf l).assembly = [] →
    ∃ u : State, (frameOf body).dropLast.foldl (fun t b => t.receiveByte l b false) s = u ∧
      changesOnly [.link l] s u ∧
      u.linkOf l = { s.linkOf l with stage := .body, assembly := byte body.length :: body } ∧
      ∃ t : State, exec (.frameReceived l body) s = .next t ∧
        exec (.byteReceived l ((frameOf body).getLastD 0) false) u = .next t

/-- R169, R171, R174: a frame whose KIND names no request (UNKNOWN_REQUEST_KIND, and FRAME_RECEIVED of the same body),
and a frame whose LEN is not that of its KIND (FRAME_RECEIVED), is answered NOT_BOUND on an unbound link, but for a
KIND of IDENT, and BAD_REQUEST otherwise; the reply has KIND + 80h, or 80h where KIND is 00h or 80h and above. -/
def Obligations.MalformedFramesAnswered : Prop :=
  ∀ (l : Connector) (kind : Byte) (rest : List Byte) (s : State), listens l s → rest.length ≤ 47 →
    let code : ResultCode := if (s.linkOf l).binding = none ∧ kind ≠ 1 then .notBound else .badRequest
    let answered (c : Instr) := answers c l (kind :: rest) s code (fun _ => []) [] [] fun _ => True
    ((kind.toNat = 0 ∨ 0x21 < kind.toNat) →
        answered (.unknownRequestKind l kind rest) ∧ answered (.frameReceived l (kind :: rest))) ∧
      ((∀ r : Request, requestCode r = kind → (requestParams r).length ≠ rest.length) →
        answered (.frameReceived l (kind :: rest))) ∧
      replyKind kind = if kind.toNat = 0 ∨ 0x80 ≤ kind.toNat then 0x80 else kind + 0x80

/-- R171, R173: of every request: NOT_BOUND on an unbound link, BAD_REQUEST where its subject is none, NOT_PERMITTED
outside the rights of the role; nothing else changes. IDENT's own checks are `LinkRolesAndBreaks`'s.

R169, R170: every request that completes while both slots are held is dropped and sets OVERRUN; in BREAK nothing is
received. -/
def Obligations.RequestChecks : Prop :=
  (∀ (l : Connector) (r : Request) (s : State), listens l s →
      ((s.linkOf l).binding = none → requestCode r ≠ 1 → repliesOnly l r s .notBound []) ∧
        (r.named = false → ((s.linkOf l).binding.isSome = true ∨ requestCode r = 1) →
          repliesOnly l r s .badRequest []) ∧
        ∀ role : Role, (s.linkOf l).binding = some role → r.named = true → r.permits role = false →
          repliesOnly l r s .notPermitted []) ∧
  (∀ (l : Connector) (r : Request) (s : State),
      ((s.linkOf l).stage = .brk → idles (r.instr l) s) ∧
        ((s.linkOf l).stage ≠ .brk → 2 ≤ (s.linkOf l).slots.length →
          ∃ u : State, exec (r.instr l) s = .next u.finish ∧
            u.linkOf l = { s.linkOf l with stage := .hunt, assembly := [], overrun := true } ∧
            changesOnly [.link l] s u))

/-- R168: BYTE_RECEIVED in every receiver stage, but for the CHECK byte that completes a frame, and
INTERBYTE_GAP_TIMEOUT. -/
def Obligations.ReceiverStages : Prop :=
  ∀ (l : Connector) (b : Byte) (error : Bool) (s : State),
    let k := s.linkOf l
    let becomes (c : Instr) (k' : Link) : Prop :=
      ∃ u : State, exec c s = .next u.finish ∧ u.linkOf l = k' ∧ changesOnly [.link l] s u
    let discarded : Link := { k with stage := .hunt, assembly := [], discard := true }
    (k.stage = .brk → idles (.byteReceived l b error) s) ∧
      (k.stage = .hunt → (b ≠ 0x7E ∨ error = true) → idles (.byteReceived l b error) s) ∧
      (k.stage = .hunt → b = 0x7E → error = false →
        becomes (.byteReceived l b error) { k with stage := .length, assembly := [] }) ∧
      (k.stage = .length → error = false → 1 ≤ b.toNat → b.toNat ≤ 48 →
        becomes (.byteReceived l b error) { k with stage := .body, assembly := [b] }) ∧
      (k.stage = .length → (error = true ∨ b.toNat = 0 ∨ 48 < b.toNat) → becomes (.byteReceived l b error) discarded) ∧
      (k.stage = .body → error = true → becomes (.byteReceived l b error) discarded) ∧
      (∀ len rest, k.stage = .body → error = false → k.assembly = len :: rest → rest.length < len.toNat →
        becomes (.byteReceived l b error) { k with assembly := k.assembly ++ [b] }) ∧
      (∀ len rest, k.stage = .body → error = false → k.assembly = len :: rest → rest.length = len.toNat →
        byteSum (k.assembly ++ [b]) ≠ 0 → becomes (.byteReceived l b error) discarded) ∧
      ((k.stage = .length ∨ k.stage = .body) → becomes (.interbyteGapTimeout l) discarded) ∧
      ((k.stage = .hunt ∨ k.stage = .brk) → idles (.interbyteGapTimeout l) s)

/-- R170, R169, R176: LINK_BREAK empties the link's record and frees its role, of which ROLE_CHANGE tells the other
links; LINK_MARK_RETURN ends the BREAK stage; TRANSMIT_FRAME_END frees the slot of the reply sent. That
LINK_MARK_RETURN outside BREAK and TRANSMIT_FRAME_END of an idle transmitter change nothing is the model's choice (log
3).

R171, R172: IDENT of a free role on an unbound link binds it, and ROLE_CHANGE goes to the other links; a role that
another link has is ROLE_TAKEN, a bound link ALREADY_BOUND. -/
def Obligations.LinkRolesAndBreaks : Prop :=
  (∀ (l : Connector) (s : State),
      let becomes (c : Instr) (k' : Link) : Prop :=
        ∃ u : State, exec c s = .next u.finish ∧ u.linkOf l = k' ∧ changesOnly [.link l] s u
      (∃ u : State, exec (.linkBreak l) s = .next u.finish ∧
        (∀ m : Connector, u.linkOf m =
          if m = l then ⟨none, .brk, [], [], [], .idle, [], false, false, false⟩
          else match (s.linkOf l).binding with
            | some r => afterNotices s m [s.noticeNow .roleChange l.code [r.code, 0]] (s.linkOf m)
            | none => s.linkOf m) ∧
        changesOnly everyLink s u) ∧
      ((s.linkOf l).stage = .brk → becomes (.linkMarkReturn l) { s.linkOf l with stage := .hunt }) ∧
      ((s.linkOf l).stage ≠ .brk → idles (.linkMarkReturn l) s) ∧
      ((s.linkOf l).tx = .idle → idles (.transmitFrameEnd l) s) ∧
      (∀ frame, (s.linkOf l).tx = .notice frame → becomes (.transmitFrameEnd l) { s.linkOf l with tx := .idle }) ∧
      ∀ frame, (s.linkOf l).tx = .reply frame →
        becomes (.transmitFrameEnd l) { s.linkOf l with tx := .idle, slots := (s.linkOf l).slots.tail }) ∧
  (∀ (l : Connector) (role : Role) (s : State), listens l s →
      let held := ∃ m : Connector, (s.linkOf m).binding = some role
      ((s.linkOf l).binding.isSome = true → repliesOnly l (.ident role.code) s .alreadyBound []) ∧
        ((s.linkOf l).binding = none → held → repliesOnly l (.ident role.code) s .roleTaken []) ∧
        ((s.linkOf l).binding = none → ¬held →
          ∃ u : State,
            exec (.ident l role.code) s = .next (u.queueReply l ⟨0x81, .ok, [role.code]⟩).finish ∧
            (∀ m : Connector, u.linkOf m =
              if m = l then
                { s.linkOf l with
                  binding := some role
                  stage := .hunt
                  assembly := []
                  slots := (s.linkOf l).slots ++ [[1, role.code]] }
              else afterNotices s m [s.noticeNow .roleChange l.code [role.code, 1]] (s.linkOf m)) ∧
            changesOnly everyLink s u))

/-- R178, R180, R181: the copy of a notice at a link. It reaches a link bound to a role that the mask admits, for a
projector kind only that projector's station or the house. A queued notice of a coalescing kind and the same subject
is replaced in its place; otherwise the copy joins a queue that is not full; on a full queue a fire kind displaces the
oldest notice of another kind, and any other copy is lost. The projector kinds are those of R178, the coalescing kinds
those of R180, and the fire kinds those of R181. -/
def Obligations.NoticesQueued : Prop :=
  (∀ x : NoticeKind,
    (x.ofProjector = true ↔ x ∈ ([.cueMotor, .cueChange, .noIncoming, .atSpeed, .slowRunup, .runupFail, .reelDone,
      .filmBreak, .motorStall, .strayFoil, .foilMissing, .arcState, .strikeFail, .carbonLow, .carbonExhausted,
      .heatStage1] : List NoticeKind)) ∧
    (x.coalesces = true ↔ x = .arcState ∨ x = .shutterState ∨ x = .lightsDone) ∧
    (x.isFire = true ↔ x = .fire ∨ x = .fireCleared)) ∧
  ∀ (mask : BitVec 3) (n : Notice) (l : Connector) (k : Link),
    let same (m : Notice) : Bool := decide (m.kind = n.kind ∧ m.subject = n.subject)
    let reaches (r : Role) : Prop :=
      mask.getLsbD r.bit = true ∧ (n.kind.ofProjector = true → ∀ p, r.own = some p → n.subject = p.code) ∧
        ¬(n.kind = .roleChange ∧ n.subject = l.code)
    (k.binding = none → deliver mask n l k = k) ∧
      (∀ r, k.binding = some r → ¬reaches r → deliver mask n l k = k) ∧
      ∀ r, k.binding = some r → reaches r →
        (n.kind.coalesces = true → k.notices.any same = true →
          deliver mask n l k =
            { k with notices := k.notices.map fun m => if same m then { m with clock := n.clock, data := n.data } else m }) ∧
        ((n.kind.coalesces = false ∨ k.notices.any same = false) → k.notices.length < 16 →
          deliver mask n l k = { k with notices := k.notices ++ [n] }) ∧
        ((n.kind.coalesces = false ∨ k.notices.any same = false) → 16 ≤ k.notices.length →
          (n.kind.isFire = false ∨ k.notices.all (fun m => m.kind.isFire) = true) →
          deliver mask n l k = { k with lost := true }) ∧
        ∀ front m rest, k.notices = front ++ m :: rest → 16 ≤ k.notices.length → n.kind.isFire = true →
          m.kind.isFire = false → front.all (fun x => x.kind.isFire) = true →
          deliver mask n l k = { k with notices := front ++ rest ++ [n], lost := true }

/-- R182: STATUS of each of the nine sections answers the items of the section as they stand and changes nothing but
the model's free-value counter (log 10); a section that does not exist is NO_ENTRY. The items of R196 are written out
for all nine: SHOW, the PROJECTORs, the ARCs, FIRE, LIGHTS, BUS, and LINKS, which finds the request in its slot and
its reply not yet built. The bytes of an item marked absent are free: Rf and Rt of a channel with no entry, the
elapsed tenths of a stopped stage timer, an absent break save (log 10). That an absent entry time is FFFFh is the
model's reading (log 45). -/
def Obligations.StatusReads : Prop :=
  ∀ (l : Connector) (r : Role) (sect : Byte) (s : State), heard l r s →
    let data := sectionData (s.takeSlot l [2, sect])
    (8 < sect.toNat → repliesOnly l (.status sect) s .noEntry []) ∧
      (sect.toNat ≤ 8 → ∃ x : StatusSection, StatusSection.ofCode sect = some x ∧
        grants l (.status sect) s .ok (fun _ => data x) [] [.freeCount] fun _ => True) ∧
      (sect = 0 → data .booth =
        [byte s.prog.state.number, indexByte s.prog.position, indexByte s.nextEntry, byte s.plan.passNumber,
          byte s.plan.repeatCount] ++ halfOrAbsent s.prog.timer ++ [indexByte s.prog.timerEntry] ++
          half s.prog.clock ++ [marker s.prog.clockStarted, byte (s.heldDev .autoResume),
            (match s.token with | none => 0 | some .a => 1 | some .b => 2),
            (match s.sound with | some .a => 0 | some .b => 1 | none => 2)]) ∧
      (∀ (p : Projector) (rf rt : Nat), sect = 1 + p.code → s.remaining p = some rf → s.remainingTime p = some rt →
        data (.projector p) =
          [(s.chanOf p).state.code, indexByte (s.chanOf p).entry,
            flagByte [(s.chanOf p).motorCueTaken, (s.chanOf p).changeTaken, (s.chanOf p).deferred,
              (s.chanOf p).openOnReady, (s.chanOf p).pastPicture, (s.chanOf p).douser, (s.chanOf p).motor,
              (s.motionOf p).atSpeed],
            byte (s.chanOf p).foilCount, (s.chanOf p).runup.code] ++ half (s.motionOf p).speed10 ++
            half ((s.motionOf p).frames / 16) ++ [byte ((s.motionOf p).frames % 16)] ++ half rf ++ half rt ++
            [flagByte [true, (s.motionOf p).filmClosed]]) ∧
      (∀ p : Projector, sect = 1 + p.code → s.entryOf p = none →
        data (.projector p) =
          [(s.chanOf p).state.code, indexByte (s.chanOf p).entry,
            flagByte [(s.chanOf p).motorCueTaken, (s.chanOf p).changeTaken, (s.chanOf p).deferred,
              (s.chanOf p).openOnReady, (s.chanOf p).pastPicture, (s.chanOf p).douser, (s.chanOf p).motor,
              (s.motionOf p).atSpeed],
            byte (s.chanOf p).foilCount, (s.chanOf p).runup.code] ++ half (s.motionOf p).speed10 ++
            half ((s.motionOf p).frames / 16) ++ [byte ((s.motionOf p).frames % 16)] ++
            [s.freeAt 0, s.freeAt 1, s.freeAt 2, s.freeAt 3] ++ [flagByte [false, (s.motionOf p).filmClosed]]) ∧
      (sect = 5 → data .fire =
        ([Shutter.portA, .portB, .obs1, .obs2].flatMap fun sh => [(s.shutterOf sh).state.code,
          flagByte [(s.shutterOf sh).lift, (s.shutterOf sh).hold, s.inputs.openSense.atShutter sh,
            s.inputs.closedSense.atShutter sh]]) ++
          ([Projector.a, .b].flatMap fun p => [(s.heatOf p).state.code, byte (s.inputs.heat.get p),
            byte (s.heatOf p).peak, (match (s.heatOf p).elapsed with
              | some n => byte n
              | none => s.freeAt (if p = .a then 0 else 1))]) ++
          [(if s.fire.lockout = true then 1 else 0), (match s.fire.first with | some x => x.code | none => 0xFF),
            flagByte ([Source.heatA, .heatB, .pull1, .pull2, .loop].map fun x => s.fire.recorded.contains x)] ++
          (match s.fire.entryTime with | some n => half n | none => [0xFF, 0xFF]) ++
          [flagByte [decide (s.held .a .heatThreshold < s.inputs.heat.a + 4),
              decide (s.held .b .heatThreshold < s.inputs.heat.b + 4), s.inputs.pull1, s.inputs.pull2, s.inputs.loop],
            flagByte [s.fire.alarm, s.inputs.key]]) ∧
      (sect = 6 → data .lights =
        ((if s.lights.emergency = true then 1 else 0) : Byte) :: [Group.house, .stage, .aisle, .work].flatMap fun g =>
          let z := s.lights.groupAt g
          [byte z.level, flagByte [z.active, z.save.isSome], byte z.start, byte z.target] ++ half z.n ++ half z.k ++
            [((match z.source with
              | .none => 0 | .request => 1 | .start => 2 | .intermission => 3 | .ending => 4 | .brk => 5
              | .restore => 6) : Byte),
              (match z.save with | some n => byte n | none => s.freeAt g.index)]) ∧
      (∀ p : Projector, sect = 3 + p.code → data (.arc p) =
        [(s.arcOf p).state.code, (s.arcOf p).phase.code] ++ half (s.arcOf p).carbon ++ half (s.carbonTime p) ++
          half (s.burnRate p) ++ [byte (s.arcOf p).completed, byte (s.arcOf p).sampleV, byte (s.arcOf p).sampleI] ++
          signedHalf (s.arcOf p).err ++ [byte (s.arcOf p).asked, byte (s.arcOf p).issued, byte (s.arcOf p).highRun,
            flagByte [(s.arcOf p).lowWarned, (s.arcOf p).contactor], (s.arcOf p).strikeOut.code]) ∧
      (sect = 7 → data .bus =
        [s.bus.state.code, byte s.bus.cycle, byte s.bus.packs.length,
          byte (s.bus.packs.countP fun y => y.isPresent), byte (s.bus.packs.countP fun y => !y.isPresent),
          byte s.bus.parked, byte (s.bus.packs.countP fun y => y.loadFail)]) ∧
      (sect = 8 → data .links = Connector.every.flatMap fun m =>
        [(match (s.linkOf m).binding with | some q => q.code | none => 0xFF),
          byte ((s.linkOf m).slots.length + if m = l then 1 else 0), byte (s.linkOf m).replies.length,
          byte (s.linkOf m).notices.length,
          flagByte [(s.linkOf m).discard, (s.linkOf m).overrun, (s.linkOf m).lost]]) ∧
      (List.map (fun c : Byte => StatusSection.ofCode c) [0, 1, 2, 3, 4, 5, 6, 7, 8] =
        [some .booth, some (.projector .a), some (.projector .b), some (.arc .a), some (.arc .b), some .fire,
          some .lights, some .bus, some .links])

/-- R179: ROUTE_READ and ROUTE_WRITE, from the house role alone: NO_ENTRY for a kind that is none; a write removes
bits outside A, B and H, keeps FIRE and FIRE_CLEARED at all three, and leaves the copies queued where they are; the
mask held governs every notice routed from then on. -/
def Obligations.RoutingMasks : Prop :=
  ∀ (l : Connector) (r : Role) (kind mask : Byte) (s : State), heard l r s →
    (r ≠ .h → repliesOnly l (.routeRead kind) s .notPermitted [] ∧
        repliesOnly l (.routeWrite kind mask) s .notPermitted []) ∧
      (r = .h → NoticeKind.ofCode kind = none →
        repliesOnly l (.routeRead kind) s .noEntry [] ∧ repliesOnly l (.routeWrite kind mask) s .noEntry []) ∧
      ∀ k : NoticeKind, r = .h → k.code = kind →
        repliesOnly l (.routeRead kind) s .ok [kind, (s.maskOf k).setWidth 8] ∧
        let kept : BitVec 3 := if k = .fire ∨ k = .fireCleared then 7 else mask.setWidth 3
        grants l (.routeWrite kind mask) s (if kept.setWidth 8 = mask then .ok else .adjusted)
          (fun _ => [kind, kept.setWidth 8]) [] [.routing] fun t =>
            (∀ j : NoticeKind, t.maskOf j = if j = k then kept else s.maskOf j) ∧
              ∀ (u : State) (n : Notice) (m : Connector), u.routing = t.routing →
                (u.route n).linkOf m = deliver (t.maskOf n.kind) n m (u.linkOf m)

/-! ### The reel plan (chapter 1) -/

/-- R6, R7: what is held of a written entry: every numeric field in its range, M at least E + 48, the kept projector,
cue method and break form where the code is not listed, an action only where its marker is 01h; the defaults for M and
E of 0; and ADJUSTED exactly where a field as held is not the one written. That the duration and the action beside an
unlisted break form code are read as the kept form reads them is the model's reading (log 12). -/
def Obligations.WrittenEntryHeld : Prop :=
  ∀ (proj : Projector) (cue : CueMethod) (kept : BreakForm) (state : EntryState) (run : Option Nat) (x : EntryForm),
    let w := takeEntry proj cue kept state run x
    let lead := if x.lead = 0 then 176 else max 48 (min x.lead.toNat 480)
    let allowance := if x.allowance = 0 then 24 else max 8 (min x.allowance.toNat 96)
    let action (a : ActionForm) : LightAction := ⟨a.mask.setWidth 4, a.level.toNat, min a.fade.toNat 600⟩
    let brkAction := if x.brkMarker = 1 then some (action x.brkAction) else none
    let same (m : Byte) (a : ActionForm) : Prop := m = 0 ∨ (m = 1 ∧ a.mask.toNat ≤ 15 ∧ a.fade.toNat ≤ 600)
    w.val.label = max 1 (min x.label.toNat 99) ∧ w.val.feet = max 100 (min x.feet.toNat 2200) ∧
      w.val.projector = (Projector.ofCode x.projector).getD proj ∧ w.val.cue = (CueMethod.ofCode x.cue).getD cue ∧
      w.val.allowance = allowance ∧ w.val.lead = max lead (allowance + 48) ∧
      w.val.startAction = (if x.startMarker = 1 then some (action x.startAction) else none) ∧
      w.val.brk =
        (match (BreakForm.ofCode x.brkForm).getD kept with
          | .absent => .absent
          | .intermission => .intermission (min x.duration.toNat 1800) brkAction
          | .ending => .ending brkAction) ∧
      w.val.state = state ∧ w.val.framesRun = run ∧
      (w.adjusted = false ↔
        (1 ≤ x.label.toNat ∧ x.label.toNat ≤ 99) ∧ x.projector.toNat ≤ 1 ∧
          (100 ≤ x.feet.toNat ∧ x.feet.toNat ≤ 2200) ∧ x.cue.toNat ≤ 2 ∧
          (x.lead = 0 ∨ (48 ≤ x.lead.toNat ∧ x.lead.toNat ≤ 480)) ∧
          (x.allowance = 0 ∨ (8 ≤ x.allowance.toNat ∧ x.allowance.toNat ≤ 96)) ∧ allowance + 48 ≤ lead ∧
          same x.startMarker x.startAction ∧ x.brkForm.toNat ≤ 2 ∧
          (x.brkForm = 1 → x.duration.toNat ≤ 1800) ∧ (x.brkForm ≠ 0 → same x.brkMarker x.brkAction))

/-- R195, R19, R6: the entry record as PLAN_READ sends it, its first 21 bytes written back as they are, is held as it
was: an entry in range is read and written without loss. -/
def Obligations.EntryRecordRoundTrip : Prop :=
  ∀ (e : Entry) (proj : Projector) (cue : CueMethod) (kept : BreakForm), e.inRange = true →
    (sentEntry e).length = 27 ∧
      ∃ x : EntryForm, entryOfBytes ((sentEntry e).take 21) = some x ∧ entryBytes x = (sentEntry e).take 21 ∧
        takeEntry proj cue kept e.state e.framesRun x = ⟨e, false⟩

/-- R8: the alternation check passes exactly when no two entries that are not SKIPPED, with only SKIPPED entries
between them and no break after the first, name one projector. -/
def Obligations.AlternationCheck : Prop :=
  ∀ entries : List Entry,
    alternates entries = true ↔
      ∀ i j : Nat, i < j → ∀ x y : Entry, entries[i]? = some x → entries[j]? = some y →
        x.state ≠ .skipped → y.state ≠ .skipped →
        (∀ k z, i < k → k < j → entries[k]? = some z → z.state = .skipped) →
        x.brk = .absent → x.projector ≠ y.projector

/-- R17, R18: the next entry, and a projector's next entry.

R19: PLAN_READ of an entry, of an index at or beyond the entry count, and of the header. -/
def Obligations.NextEntriesAndPlanReads : Prop :=
  (∀ (s : State) (i : Nat),
      let ahead (e : Entry) : Bool :=
        decide (e.state = .pending ∨ e.state = .threaded ∨ e.state = .armed ∨ e.state = .running)
      let waiting (e : Entry) : Bool := decide (e.state = .pending ∨ e.state = .threaded ∨ e.state = .armed)
      (s.prog.position = none → (s.nextEntry = some i ↔ firstFrom ahead 0 s i)) ∧
        (∀ p, s.prog.position = some p →
          (s.nextEntry = some i ↔
            if (s.entryAt p).any waiting = true then i = p else firstFrom ahead (p + 1) s i)) ∧
        ∀ q : Projector, s.nextFor q = some i ↔
          firstFrom (fun e => decide (e.projector = q ∧ e.state = .pending)) (s.prog.position.getD 0) s i) ∧
  (∀ (l : Connector) (r : Role) (i : Byte) (s : State), heard l r s →
      (∀ e, s.entryAt i.toNat = some e → i ≠ 0xFF → repliesOnly l (.planRead i) s .ok (i :: sentEntry e)) ∧
        (s.entryAt i.toNat = none → i ≠ 0xFF → repliesOnly l (.planRead i) s .noEntry []) ∧
        repliesOnly l (.planRead 0xFF) s .ok
          [byte s.plan.entries.length, byte s.plan.repeatCount, byte s.plan.passNumber,
            (match s.prog.position with | some p => byte p | none => 0xFF),
            (match s.nextEntry with | some n => byte n | none => 0xFF),
            (match s.nextFor .a with | some n => byte n | none => 0xFF),
            (match s.nextFor .b with | some n => byte n | none => 0xFF)])

/-- R9, R10, R14: PLAN_WRITE. Its checks in order; what it writes, with a THREADED or SKIPPED entry back at PENDING
and a THREADED entry's channel released. The exhaustion test of R161 follows. -/
def Obligations.PlanWrites : Prop :=
  ∀ (l : Connector) (i : Byte) (x : EntryForm) (s : State), heard l .h s →
    (s.entryAt i.toNat = none → repliesOnly l (.planWrite i x) s .noEntry []) ∧
      ∀ e, s.entryAt i.toNat = some e →
        let blocked := e.state = .armed ∨ e.state = .running ∨
          (e.state = .done ∧ s.prog.state ≠ .idle ∧ s.prog.state ≠ .ended)
        let w := takeEntry e.projector e.cue e.brk.form (if e.state = .done then .done else .pending)
          (if e.state = .done then e.framesRun else none) x
        let entries := s.plan.entries.set i.toNat w.val
        (blocked → repliesOnly l (.planWrite i x) s .locked []) ∧
          (¬blocked → alternates entries = false → repliesOnly l (.planWrite i x) s .planConflict []) ∧
          (¬blocked → alternates entries = true →
            grants l (.planWrite i x) s (if w.adjusted then .adjusted else .ok) (fun t => entryData t i.toNat) []
              [.plan, .chan .a, .chan .b]
              (fun t => t.plan = { s.plan with entries := entries } ∧
                ∀ p, t.chanOf p = if s.linkedTo i.toNat = some p ∧ (s.chanOf p).state = .threaded then
                  { s.chanOf p with state := .idle, entry := none } else s.chanOf p)
              (fun t => t.testExhausted false))

/-- R9, R11, R15, R5: PLAN_INSERT. Its checks in order; the new entry stands at its index, every later entry one index
higher, and the position, the channels' links, the intermission entry and last done still name the entries they
named. -/
def Obligations.PlanInserts : Prop :=
  ∀ (l : Connector) (i : Byte) (x : EntryForm) (s : State), heard l .h s →
    let blocked := ∃ j e, i.toNat ≤ j ∧ s.entryAt j = some e ∧
      (e.state = .armed ∨ e.state = .running ∨ e.state = .done)
    let w := takeEntry .a .footage .absent .pending none x
    let entries := s.plan.entries.take i.toNat ++ w.val :: s.plan.entries.drop i.toNat
    let moved (j : Nat) : Nat := if i.toNat ≤ j then j + 1 else j
    (s.plan.entries.length < i.toNat → repliesOnly l (.planInsert i x) s .noEntry []) ∧
      (i.toNat ≤ s.plan.entries.length → 16 ≤ s.plan.entries.length →
        repliesOnly l (.planInsert i x) s .tableFull []) ∧
      (i.toNat ≤ s.plan.entries.length → s.plan.entries.length < 16 →
        (blocked → repliesOnly l (.planInsert i x) s .locked []) ∧
          (¬blocked → alternates entries = false → repliesOnly l (.planInsert i x) s .planConflict []) ∧
          (¬blocked → alternates entries = true →
            grants l (.planInsert i x) s (if w.adjusted then .adjusted else .ok) (fun _ => i :: sentEntry w.val) []
              [.plan, .prog, .chan .a, .chan .b] fun t =>
                t.plan = { s.plan with entries := entries } ∧
                  t.prog = { s.prog with
                    position := s.prog.position.map moved
                    timerEntry := s.prog.timerEntry.map moved
                    lastDone := s.prog.lastDone.map moved } ∧
                  ∀ p, t.chanOf p = { s.chanOf p with entry := (s.chanOf p).entry.map moved }))

/-- R9, R12, R14, R15, R5: PLAN_DELETE. Its checks in order; every later entry stands one index lower, a THREADED
entry's channel is released, and the other links still name the entries they named. The exhaustion test of R161
follows. -/
def Obligations.PlanDeletes : Prop :=
  ∀ (l : Connector) (i : Byte) (s : State), heard l .h s →
    (s.entryAt i.toNat = none → repliesOnly l (.planDelete i) s .noEntry []) ∧
      ∀ e, s.entryAt i.toNat = some e →
        let blocked := ¬(e.state = .pending ∨ e.state = .threaded) ∨ s.prog.position = some i.toNat
        let entries := s.plan.entries.take i.toNat ++ s.plan.entries.drop (i.toNat + 1)
        let moved (link : Option Nat) : Option Nat :=
          match link with
          | none => none
          | some j => if j < i.toNat then some j else if j = i.toNat then none else some (j - 1)
        (blocked → repliesOnly l (.planDelete i) s .locked []) ∧
          (¬blocked → alternates entries = false → repliesOnly l (.planDelete i) s .planConflict []) ∧
          (¬blocked → alternates entries = true →
            grants l (.planDelete i) s .ok (fun t => [i, byte t.plan.entries.length]) []
              [.plan, .prog, .chan .a, .chan .b]
              (fun t => t.plan = { s.plan with entries := entries } ∧
                t.prog = { s.prog with
                  position := moved s.prog.position
                  timerEntry := moved s.prog.timerEntry
                  lastDone := moved s.prog.lastDone } ∧
                ∀ p, t.chanOf p =
                  if s.linkedTo i.toNat = some p ∧ (s.chanOf p).state = .threaded then
                    { s.chanOf p with state := .idle, entry := none }
                  else { s.chanOf p with entry := moved (s.chanOf p).entry })
              (fun t => t.testExhausted false))

/-- R9, R13, R14: PLAN_SKIP. Its checks in order; the entry becomes SKIPPED and a THREADED entry's channel is
released; an entry already SKIPPED is answered OK. The exhaustion test of R161 follows a skip that is made; that none
follows the PLAN_SKIP of a SKIPPED entry is the model's reading (log 38).

R16, R14: PLAN_HEADER writes the repeat count; in ENDED with no entry RUNNING it restarts the plan. Which channels an
edit and a restart release is read from R14 (log 25). -/
def Obligations.PlanSkipsAndHeaders : Prop :=
  (∀ (l : Connector) (i : Byte) (s : State), heard l .h s →
      (s.entryAt i.toNat = none → repliesOnly l (.planSkip i) s .noEntry []) ∧
        ∀ e, s.entryAt i.toNat = some e →
          let entries := s.plan.entries.set i.toNat { e with state := .skipped }
          ((e.state = .armed ∨ e.state = .running ∨ e.state = .done) → repliesOnly l (.planSkip i) s .locked []) ∧
            (e.state = .skipped → repliesOnly l (.planSkip i) s .ok [i, 5]) ∧
            ((e.state = .pending ∨ e.state = .threaded) → alternates entries = false →
              repliesOnly l (.planSkip i) s .planConflict []) ∧
            ((e.state = .pending ∨ e.state = .threaded) → alternates entries = true →
              grants l (.planSkip i) s .ok (fun _ => [i, 5]) [] [.plan, .chan .a, .chan .b]
                (fun t => t.plan = { s.plan with entries := entries } ∧
                  ∀ p, t.chanOf p = if s.linkedTo i.toNat = some p ∧ (s.chanOf p).state = .threaded then
                    { s.chanOf p with state := .idle, entry := none } else s.chanOf p)
                (fun t => t.testExhausted false))) ∧
  (∀ (l : Connector) (n : Byte) (s : State), heard l .h s →
      let restarts := s.prog.state = .ended ∧ ∀ e ∈ s.plan.entries, e.state ≠ .running
      (¬restarts →
          grants l (.planHeader n) s .ok headerData [] [.plan] fun t =>
            t.plan = { s.plan with repeatCount := n.toNat }) ∧
        (restarts →
          grants l (.planHeader n) s .ok headerData [] [.plan, .prog, .chan .a, .chan .b] fun t =>
            t.plan = ⟨s.plan.entries.map fun e =>
                if e.state = .skipped then e else { e with state := .pending, framesRun := none }, n.toNat, 1⟩ ∧
              t.prog = { s.prog with
                state := .idle
                position := none
                clock := 0
                tenths := 0
                clockStarted := false
                lastDone := none } ∧
              ∀ p, t.chanOf p =
                if (s.chanOf p).state = .threaded ∨ (s.chanOf p).state = .armed then
                  { s.chanOf p with state := .idle, entry := none }
                else s.chanOf p))

/-- R161, R162: the exhaustion test, made at a reel done or elsewhere. An IDLE, STALLED or INTERMISSION show ends,
with SHOW_END; it then, or an ENDED show at a reel done, rolls over where the repeat count is 0 or above the pass
number: DONE entries return to PENDING, the pass number rises, and PASS_START is sent. The subject FFh of SHOW_END
where no last done entry is recorded is the model's reading (log 30). -/
def Obligations.ExhaustionTest : Prop :=
  ∀ (s : State) (atReelDone : Bool),
    let exhausted := (∃ e ∈ s.plan.entries, e.state = .done) ∧
      (∀ e ∈ s.plan.entries, e.state ≠ .armed ∧ e.state ≠ .running) ∧ s.nextEntry = none
    let ends := s.prog.state = .idle ∨ s.prog.state = .stalled ∨ s.prog.state = .intermission
    let rolls := s.plan.repeatCount = 0 ∨ s.plan.passNumber < s.plan.repeatCount
    let pass := min (s.plan.passNumber + 1) 255
    let t := s.testExhausted atReelDone
    let shown : List Notice := if ends then
      [s.noticeNow .showEnd (match s.prog.lastDone with | some i => byte i | none => 0xFF)
        [1, byte s.plan.passNumber, byte s.plan.repeatCount]] else []
    changesOnly (everyLink ++ [.plan, .prog]) s t ∧
      (¬exhausted → t = s) ∧
      (exhausted → ¬ends → ¬(s.prog.state = .ended ∧ atReelDone = true) → t = s) ∧
      (exhausted → (ends ∨ (s.prog.state = .ended ∧ atReelDone = true)) → ¬rolls →
        notified shown s t ∧ t.plan = s.plan ∧
          t.prog = if ends then { s.prog with state := .ended, timer := none, timerEntry := none } else s.prog) ∧
      (exhausted → (ends ∨ (s.prog.state = .ended ∧ atReelDone = true)) → rolls →
        notified (shown ++ [⟨.passStart, 0xFF, 0, [byte pass, byte s.plan.repeatCount]⟩]) s t ∧
          t.plan = { s.plan with
            passNumber := pass
            entries := s.plan.entries.map fun e =>
              if e.state = .done then { e with state := .pending, framesRun := none } else e } ∧
          t.prog =
            { state := .idle
              position := none
              timer := if ends then none else s.prog.timer
              timerEntry := if ends then none else s.prog.timerEntry
              clock := 0
              tenths := 0
              clockStarted := false
              lastDone := none })

/-! ### Changeover (chapter 3) -/

/-- R45, R46: THREADED and UNTHREAD of a station's own projector, in every channel state. -/
def Obligations.ReelsThreaded : Prop :=
  ∀ (l : Connector) (r : Role) (p : Projector) (label : Byte) (s : State), heard l r s → r.own = some p →
    let c := s.chanOf p
    let held := [c.state.code, indexByte c.entry]
    let answered (x : ResultCode) := repliesOnly l (.threaded p.code label) s x held
    let carries (i : Option Nat) : Prop := ∃ e, i.bind s.entryAt = some e ∧ e.label = label.toNat
    (c.state = .threaded → carries c.entry → answered .ok) ∧
      (c.state = .threaded → ¬carries c.entry → answered .notReady) ∧
      (c.state ≠ .idle → c.state ≠ .threaded → answered .notReady) ∧
      (c.state = .idle → ¬carries (s.nextFor p) → answered .wrongReel) ∧
      (c.state = .idle → carries (s.nextFor p) → (s.motionOf p).filmClosed = false → answered .notReady) ∧
      (∀ i, c.state = .idle → s.nextFor p = some i → carries (some i) → (s.motionOf p).filmClosed = true →
        grants l (.threaded p.code label) s .ok (fun _ => [1, byte i]) [] [.plan, .chan p, .motion p, .arc p] fun t =>
          t.plan = { s.plan with entries := s.plan.entries.modify i fun e => { e with state := .threaded } } ∧
            t.chanOf p = { c with
              state := .threaded
              entry := some i
              motorCueTaken := false
              changeTaken := false
              foilCount := 0
              deferred := false
              openOnReady := false
              pastPicture := false } ∧
            t.motionOf p = { s.motionOf p with frames := 0, raised := [], foilMerge := none } ∧
            t.arcOf p = { s.arcOf p with lowWarned := false }) ∧
      (c.state = .threaded →
        grants l (.unthread p.code) s .ok (fun _ => [0, 0xFF]) [] [.plan, .chan p] fun t =>
          t.plan = planWith p .pending s ∧ t.chanOf p = { c with state := .idle, entry := none }) ∧
      (c.state = .idle → repliesOnly l (.unthread p.code) s .ok held) ∧
      (c.state ≠ .threaded → c.state ≠ .idle → repliesOnly l (.unthread p.code) s .notReady held)

/-- R47, R48, R50: ARM, with its checks in order, and DISARM, from the house or the projector's own station. The late
start test follows an ARM. -/
def Obligations.ReelsArmed : Prop :=
  ∀ (l : Connector) (r : Role) (p : Projector) (s : State), heard l r s → (r = .h ∨ r.own = some p) →
    let c := s.chanOf p
    let held := [c.state.code, indexByte c.entry]
    let short := s.carbonTime p < ceilDiv (s.rf p * 100) (s.held p .snom) + s.held p .mc
    let refusal : Option ResultCode :=
      if ¬(s.nextEntry.isSome = true ∧ c.entry = s.nextEntry) then some .notNext
      else if s.fire.lockout = true then some .fireLockout
      else if (s.arcOf p).state ≠ .lit then some .lampNotLit
      else if (s.shutterOf p.port).state ≠ .held then some .shutterDown
      else if short then some .carbonShort
      else none
    (c.state = .armed → repliesOnly l (.arm p.code) s .ok held) ∧
      (c.state ≠ .armed → c.state ≠ .threaded → repliesOnly l (.arm p.code) s .notReady held) ∧
      (∀ code, c.state = .threaded → refusal = some code → repliesOnly l (.arm p.code) s code held) ∧
      (c.state = .threaded → refusal = none →
        grants l (.arm p.code) s .ok (fun t => [(t.chanOf p).state.code, indexByte (t.chanOf p).entry]) []
          [.plan, .chan p]
          (fun t => t.plan = planWith p .armed s ∧ t.chanOf p = { c with state := .armed })
          (fun t => t.lateStart p)) ∧
      (c.state = .armed →
        grants l (.disarm p.code) s .ok (fun _ => [1, indexByte c.entry]) [] [.plan, .chan p] fun t =>
          t.plan = planWith p .threaded s ∧ t.chanOf p = { c with state := .threaded }) ∧
      (c.state = .threaded → repliesOnly l (.disarm p.code) s .ok held) ∧
      (c.state ≠ .armed → c.state ≠ .threaded → repliesOnly l (.disarm p.code) s .notReady held)

/-- R51, R188, R35, R49: what a motor start does, the film test that follows it, and the late start test. -/
def Obligations.MotorStarts : Prop :=
  ∀ (q : Projector) (s : State),
    let t := s.motorRuns q
    let o := q.other
    t.plan = planWith q .running s ∧
      t.chanOf q = { s.chanOf q with
        state := .starting
        motor := true
        runup := .one
        runupDue := some (s.motionCount + ((s.par.proj.get q).get .tR1).effective * 1000) } ∧
      t.motionOf q = { s.motionOf q with
        ring := []
        atSpeed := false
        pulseRef := s.motionCount
        speedReached := false
        stallWatch := none
        motorStart := s.motionCount } ∧
      (∀ x : ProjParam, (t.par.proj.get q).get x =
        if x.row.point = .nextStart then ⟨((s.par.proj.get q).get x).effective, none⟩
        else (s.par.proj.get q).get x) ∧
      t.par.proj.get o = s.par.proj.get o ∧ t.par.dev = s.par.dev ∧
      changesOnly [.plan, .chan q, .motion q, .par] s t ∧
      s.startMotor q = (if (t.motionOf q).filmClosed = true then t else t.halt q .filmBreak) ∧
      s.lateStart q =
        if (s.chanOf q).state = .armed ∧ (s.nextEntry.isSome = true ∧ (s.chanOf q).entry = s.nextEntry) ∧
          ((s.token = some o ∧ ¬(∃ e, s.entryOf o = some e ∧ e.brk ≠ .absent) ∧
              ((s.chanOf o).motorCueTaken = true ∨ (s.chanOf o).deferred = true)) ∨
            ((s.chanOf o).state = .tail ∧ (s.chanOf o).deferred = true))
        then s.startMotor q else s

/-- R69, R70, R155: a halt, for each cause, and what fire entry and heat stage 1 make of a channel.

R71, R72, R73: STOP halts a running channel; CLEAR releases a HALTED one in the three ways of R72. That RUNUP_FAIL
carries the speed found before the ring is emptied is the model's reading (log 32). -/
def Obligations.ReelsHaltedAndCleared : Prop :=
  (∀ (p : Projector) (cause : HaltCause) (s : State),
      let t := s.halt p cause
      let c := s.chanOf p
      let tells := (s.token = some p ∨ c.openOnReady = true) ∧ cause ≠ .fire
      (c.state.running = false → t = s) ∧
        (c.state.running = true →
          t.chanOf p = { c with
            state := .halted
            motor := false
            douser := false
            runup := .none
            runupDue := none
            deferred := false
            openOnReady := false } ∧
          t.motionOf p = { s.motionOf p with ring := [], atSpeed := false, stallWatch := none } ∧
          t.token = (if s.token = some p then none else s.token) ∧
          t.sound = (if s.token = some p then none else s.sound) ∧
          (tells → lostPicture s t) ∧ (¬tells → t.prog = s.prog ∧ t.lights = s.lights) ∧
          notified
            (match cause with
              | .filmBreak => [s.noticeNow .filmBreak p.code (half (s.motionOf p).frames ++ [c.state.code])]
              | .stall => [s.noticeNow .motorStall p.code (half (s.motionOf p).frames)]
              | .runupFail => [s.noticeNow .runupFail p.code (half (s.motionOf p).speed10)]
              | .heat | .request | .fire => []) s t ∧
          changesOnly (everyLink ++ [.chan p, .motion p, .token, .prog, .lights]) s t) ∧
        (c.state = .armed →
          (s.makeSafe p cause).plan = planWith p .threaded s ∧
            (s.makeSafe p cause).chanOf p = { c with state := .threaded } ∧
            changesOnly [.plan, .chan p] s (s.makeSafe p cause)) ∧
        (c.state ≠ .armed → s.makeSafe p cause = t)) ∧
  (∀ (l : Connector) (r : Role) (p : Projector) (s : State), heard l r s → (r = .h ∨ r.own = some p) →
      let c := s.chanOf p
      let held := [c.state.code, indexByte c.entry]
      let now (t : State) := [(t.chanOf p).state.code, indexByte (t.chanOf p).entry]
      (c.state.running = true →
          grants l (.stop p.code) s .ok now [] [] (fun _ => True) (fun t => t.halt p .request)) ∧
        (c.state = .halted → repliesOnly l (.stop p.code) s .ok held) ∧
        ((c.state = .idle ∨ c.state = .threaded ∨ c.state = .armed) → repliesOnly l (.stop p.code) s .notReady held) ∧
        (c.state ≠ .halted → repliesOnly l (.clear p.code) s .notReady held) ∧
        (∀ i, c.state = .halted → c.pastPicture = true → c.entry = some i →
          grants l (.clear p.code) s .ok (fun _ => [0, 0xFF])
            [s.noticeNow .reelDone p.code (byte i :: half (s.motionOf p).frames)] [.plan, .prog, .chan p]
            (fun t =>
              t.plan = { s.plan with entries := s.plan.entries.modify i fun e =>
                { e with state := .done, framesRun := some (s.motionOf p).frames } } ∧
              t.prog = { s.prog with lastDone := some i } ∧
              t.chanOf p = { c with state := .idle, entry := none, deferred := false, pastPicture := false })
            (fun t => t.testExhausted true)) ∧
        (c.state = .halted → c.pastPicture = false → (s.motionOf p).filmClosed = true →
          grants l (.clear p.code) s .ok (fun _ => [1, indexByte c.entry]) [] [.plan, .chan p]
            (fun t => t.plan = planWith p .threaded s ∧ t.chanOf p = { c with state := .threaded })
            (fun t => t.testExhausted false)) ∧
        (c.state = .halted → c.pastPicture = false → (s.motionOf p).filmClosed = false →
          grants l (.clear p.code) s .ok (fun _ => [0, 0xFF]) [] [.plan, .chan p]
            (fun t => t.plan = planWith p .pending s ∧ t.chanOf p = { c with state := .idle, entry := none })
            (fun t => t.testExhausted false)))

/-- R67, R154, R153, R124: START_SHOW: its checks in order; the show RUNNING, with the timer stopped and
INTERMISSION_END out of an intermission and the restore out of a stall; open on ready and the start action; then the
motor start of an ARMED channel, or the screen for a READY one. Two bytes of INTERMISSION_END are free where no timer
runs (log 10). That the restore comes before the start action is the model's choice (log 44). -/
def Obligations.ShowStarts : Prop :=
  ∀ (l : Connector) (r : Role) (s : State), heard l r s →
    let startable := (s.prog.state = .idle ∨ s.prog.state = .stalled ∨ s.prog.state = .intermission) ∧ s.token = none
    let found (q : Projector) := s.nextChannel = some q ∧ ((s.chanOf q).state = .armed ∨ (s.chanOf q).state = .ready)
    (s.fire.lockout = true → repliesOnly l .startShow s .fireLockout []) ∧
      (s.fire.lockout = false → (¬startable ∨ ∀ q, ¬found q) → repliesOnly l .startShow s .notReady []) ∧
      ∀ q, s.fire.lockout = false → startable → found q →
        let rest (t : State) : State :=
          if (s.chanOf q).state = .armed then ((t.motorRuns q).positionTo q).filmAtStart q
          else if (t.positionTo q).readyForPicture q = true then (t.positionTo q).openScreen q
          else t.positionTo q
        let restored := if s.prog.state = .stalled then
          s.lights.restoreAction s.prog.clock (s.heldDev .restoreFade) else s.lights
        let effect (t : State) : Prop :=
          t.prog = { s.prog with
            state := .running
            clockStarted := true
            timer := if s.prog.state = .intermission then none else s.prog.timer
            timerEntry := if s.prog.state = .intermission then none else s.prog.timerEntry } ∧
          t.chanOf q = { s.chanOf q with openOnReady := true } ∧
          t.lights =
            match (s.entryOf q).bind (·.startAction) with
            | some x => restored.act s.prog.clock x.mask x.level x.fade .start
            | none => restored
        (s.prog.state ≠ .intermission →
            grants l .startShow s .ok (fun _ => []) [] [.prog, .chan q, .lights] effect rest) ∧
          (s.prog.state = .intermission → ∃ x y : Byte,
            (∀ n, s.prog.timer = some n → [x, y] = half n) ∧
            grants l .startShow s .ok (fun _ => [])
              [s.noticeNow .intermissionEnd (indexByte s.prog.timerEntry) [0, 0, x, y]]
              [.prog, .chan q, .lights, .freeCount] effect rest)

/-- R60, R61, R63, R124, R153, R156: the swap, with its notice by cue, late or by CHANGE_NOW; and CHANGE_NOW itself.
The frames late of LATE_CHANGEOVER as a signed value are the model's reading (log 17), and the start action before the
restore is its choice (log 44). -/
def Obligations.PictureSwaps : Prop :=
  ∀ (out : Projector) (kind : SwapKind) (s : State),
    let inc := out.other
    let t := s.swap out inc kind
    let position := (s.chanOf inc).entry
    let regains := (s.chanOf out).state = .dark ∧ s.prog.state = .stalled
    let acted := match (s.entryOf inc).bind (·.startAction) with
      | some x => s.lights.act s.prog.clock x.mask x.level x.fade .start
      | none => s.lights
    t.chanOf out = { s.chanOf out with state := .tail, douser := false, pastPicture := true, deferred := false } ∧
      t.chanOf inc = { s.chanOf inc with state := .onScreen, douser := true } ∧
      t.token = some inc ∧ t.sound = some inc ∧
      t.prog = { s.prog with
        position := position
        state := if regains then .running else s.prog.state } ∧
      t.lights = (if regains then acted.restoreAction s.prog.clock (s.heldDev .restoreFade) else acted) ∧
      notified
        [match kind with
          | .cue => s.noticeNow .changeover inc.code (half (s.rf out) ++ [indexByte position, 0])
          | .request => s.noticeNow .changeover inc.code (half (s.rf out) ++ [indexByte position, 1])
          | .late => s.noticeNow .lateChangeover inc.code
              (signedHalf ((((s.entryOf out).map (·.allowance)).getD 0 : Int) - s.rf out) ++ [indexByte position])] s t ∧
      changesOnly (everyLink ++ [.chan .a, .chan .b, .token, .prog, .lights]) s t ∧
      ∀ (l : Connector) (r : Role), heard l r s →
        let ready := s.token = some out ∧ (s.chanOf inc).state = .ready ∧ s.pictureConditions inc = true ∧
          s.nextEntry.isSome = true ∧ (s.chanOf inc).entry = s.nextEntry
        (ready → grants l .changeNow s .ok (fun _ => []) [] [] (fun _ => True) (fun u => u.swap out inc .request)) ∧
          (s.token = some out → ¬ready → repliesOnly l .changeNow s .notReady []) ∧
          (s.token = none → repliesOnly l .changeNow s .notReady [])

/-- R43, R64, R65, R66, R68, R155, R156: what a report of a picture condition does in each channel state. That a reel
past its changeover point is deferred before the late start test of the other channel is the model's reading (log 24).
-/
def Obligations.PictureReports : Prop :=
  ∀ (p : Projector) (s : State),
    let met := (s.shutterOf p.port).state = .held ∧ (s.arcOf p).state = .lit ∧ s.fire.lockout = false
    let t := s.conditionsReported p
    let c := s.chanOf p
    let isNext := s.nextEntry.isSome = true ∧ c.entry = s.nextEntry
    let regained (t : State) : Prop :=
      t.prog.state = (if s.prog.state = .stalled then .running else s.prog.state) ∧
        t.lights = if s.prog.state = .stalled then
          s.lights.restoreAction s.prog.clock (s.heldDev .restoreFade) else s.lights
    (c.state = .onScreen → ¬met →
        t.chanOf p = { c with state := .dark, douser := false } ∧ lostPicture s t ∧
          changesOnly [.chan p, .prog, .lights] s t) ∧
      (c.state = .dark → met →
        t.chanOf p = { c with state := .onScreen, douser := true } ∧ regained t ∧
          t.prog = { s.prog with state := t.prog.state } ∧
          notified [s.noticeNow .recovery p.code [0]] s t ∧
          changesOnly (everyLink ++ [.chan p, .prog, .lights]) s t) ∧
      ((c.state = .onScreen ∧ met ∨ (c.state = .dark ∨ c.state = .ready) ∧ ¬met ∨
          (c.state ≠ .onScreen ∧ c.state ≠ .dark ∧ c.state ≠ .ready)) → t = s) ∧
      (c.state = .ready → met →
        (s.token = some p.other → (s.chanOf p.other).deferred = true → isNext → t = s.swap p.other p .late) ∧
        (s.token = some p.other → ¬((s.chanOf p.other).deferred = true ∧ isNext) → t = s) ∧
        (s.token = none → c.openOnReady = true → t = s.openScreen p) ∧
        (s.token = none → c.openOnReady = false → ¬(s.prog.state = .stalled ∧ isNext) → t = s) ∧
        (s.token = none → c.openOnReady = false → s.prog.state = .stalled → isNext →
          ∃ u, t = u.lateStart p.other ∧
            u.chanOf p = { c with state := .onScreen, douser := true } ∧ u.token = some p ∧ u.sound = some p ∧
            regained u ∧ u.prog = { s.prog with state := .running, position := c.entry } ∧
            notified [s.noticeNow .recovery p.code [1]] s u ∧
            changesOnly (everyLink ++ [.chan p, .token, .prog, .lights]) s u)) ∧
      ∃ u, s.openScreen p = u.lateStart p.other ∧
        u.chanOf p = { c with
          state := .onScreen
          douser := true
          openOnReady := false
          deferred := c.deferred || c.changeTaken } ∧
        u.token = some p ∧ u.sound = some p ∧ changesOnly [.chan p, .token] s u

/-- R53 to R58: what a foil event and the footage points other than the reel end do to a holder under each cue method,
and what taking the motor cue and the changeover point of a reel without a break does. -/
def Obligations.CuesTaken : Prop :=
  ∀ (p : Projector) (e : Entry) (cause : CueCause) (s : State), s.entryOf p = some e →
    let f := half (s.motionOf p).frames ++ half (s.rf p)
    let g := s.held p .guard
    let near (distance : Nat) : Prop := ((s.rf p : Int) - distance).natAbs ≤ g
    -- a foil event
    (∃ u : State, u.chanOf p = { s.chanOf p with foilCount := min ((s.chanOf p).foilCount + 1) 255 } ∧
      changesOnly [.chan p] s u ∧
      let stray := u.notify .strayFoil p.code (f ++ [byte (u.chanOf p).foilCount])
      s.foilEvent p =
        match e.cue with
        | .footage => u
        | .foil =>
          if (s.chanOf p).foilCount = 0 then u.takeMotorCue p .foil
          else if (s.chanOf p).foilCount = 1 then u.takeChange p .foil
          else stray
        | .guarded =>
          if (s.chanOf p).motorCueTaken = false ∧ near e.lead then u.takeMotorCue p .foil
          else if (s.chanOf p).changeTaken = false ∧ near e.allowance then u.takeChange p .foil
          else stray) ∧
    -- the footage points
    s.footagePoint p .motor =
      (if e.cue = .footage ∧ (s.chanOf p).motorCueTaken = false then s.takeMotorCue p .footage else s) ∧
    s.footagePoint p .change =
      (if e.cue = .footage ∧ (s.chanOf p).changeTaken = false then s.takeChange p .footage else s) ∧
    s.footagePoint p .motorGuard =
      (if e.cue = .guarded ∧ (s.chanOf p).motorCueTaken = false then
        (s.notify .foilMissing p.code ([0] ++ f)).takeMotorCue p .guardEnd else s) ∧
    s.footagePoint p .changeGuard =
      (if e.cue = .guarded ∧ (s.chanOf p).changeTaken = false then
        (s.notify .foilMissing p.code ([1] ++ f)).takeChange p .guardEnd else s) ∧
    -- the motor cue
    (∃ u : State, u.chanOf p = { s.chanOf p with motorCueTaken := true } ∧
      notified [s.noticeNow .cueMotor p.code (f ++ [cause.code])] s u ∧ changesOnly (everyLink ++ [.chan p]) s u ∧
      let missing := u.notify .noIncoming p.code [(s.chanOf p.other).state.code, indexByte s.nextEntry]
      s.takeMotorCue p cause =
        if e.brk ≠ .absent then u
        else match s.nextChannel with
          | none => missing
          | some q =>
            if (s.chanOf q).state = .armed then u.startMotor q
            else if (s.chanOf q).state = .starting ∨ (s.chanOf q).state = .ready then u
            else missing) ∧
    -- the changeover point
    ∃ u : State, u.chanOf p = { s.chanOf p with changeTaken := true } ∧
      notified [s.noticeNow .cueChange p.code (f ++ [cause.code])] s u ∧ changesOnly (everyLink ++ [.chan p]) s u ∧
      let deferred := u.setChan p { u.chanOf p with deferred := true }
      s.takeChange p cause =
        if e.brk ≠ .absent then u.pictureEnd p
        else match s.nextChannel with
          | none => deferred
          | some q =>
            if s.readyForPicture q = true then u.swap p q .cue
            else if (s.chanOf q).state = .armed then deferred.startMotor q
            else deferred

/-- R59, R62, R73, R157, R158, R155: the reel end, as a picture end where the entry has a break and a run-out where it
has none; and the end of TAIL, at the tail end or the film end. -/
def Obligations.ReelsEnd : Prop :=
  ∀ (p : Projector) (i : Nat) (e : Entry) (s : State), (s.chanOf p).entry = some i → s.entryAt i = some e →
    let c := s.chanOf p
    let shows := s.prog.state = .running ∨ s.prog.state = .stalled
    let out (t : State) (deferred : Bool) : Prop :=
      t.chanOf p = { c with state := .tail, douser := false, pastPicture := true, deferred := deferred } ∧
        t.token = none ∧ t.sound = none
    let acted (x : Option LightAction) (source : FadeSource) : Lighting :=
      match x with
      | some y => s.lights.act s.prog.clock y.mask y.level y.fade source
      | none => s.lights
    let t := s.footagePoint p .reelEnd
    let u := s.pictureEnd p
    (e.brk ≠ .absent → t = s.pictureEnd p) ∧
      (e.brk = .absent →
        out t true ∧ lostPicture s t ∧ notified [s.noticeNow .runOut p.code (half (s.motionOf p).frames)] s t ∧
          changesOnly (everyLink ++ [.chan p, .token, .prog, .lights]) s t) ∧
      (out u c.deferred ∧ changesOnly (everyLink ++ [.chan p, .token, .prog, .lights]) s u ∧
          (¬shows → u.prog = s.prog ∧ u.lights = s.lights ∧ notified [] s u) ∧
          (∀ duration action, shows → e.brk = .intermission duration action →
            u.prog = { s.prog with
              state := .intermission
              timerEntry := some i
              timer := if duration = 0 then none else some duration } ∧
            u.lights = acted action .intermission ∧
            notified [s.noticeNow .intermissionStart (byte i) (half duration ++ [byte s.plan.passNumber])] s u) ∧
          ∀ action, shows → e.brk = .ending action →
            u.prog = { s.prog with state := .ended } ∧ u.lights = acted action .ending ∧
              notified [s.noticeNow .showEnd (byte i) [0, byte s.plan.passNumber, byte s.plan.repeatCount]] s u) ∧
      (c.state ≠ .tail → s.reelDone p = s) ∧
      (c.state = .tail → ∃ u, s.reelDone p = u.testExhausted true ∧
        u.chanOf p = { c with
          state := .idle
          entry := none
          motor := false
          deferred := false
          pastPicture := false } ∧
        u.motionOf p = { s.motionOf p with ring := [], atSpeed := false, stallWatch := none } ∧
        u.plan = { s.plan with entries := s.plan.entries.modify i fun e =>
          { e with state := .done, framesRun := some (s.motionOf p).frames } } ∧
        u.prog = { s.prog with lastDone := some i } ∧
        notified [s.noticeNow .reelDone p.code (byte i :: half (s.motionOf p).frames)] s u ∧
        changesOnly (everyLink ++ [.chan p, .motion p, .plan, .prog]) s u)

/-- R76, R165: BOOTH_RESET: refused under lockout; otherwise both channels, the token, the arcs, the prepared entries
and the show clock come to a standstill, the arcs that were not OFF are reported, and the plan is tested for
exhaustion. That ARC_STATE carries the clock from before the clearing and that A's goes before B's are the model's
choices (log 39), and the rings emptied in every channel state its reading (log 23). -/
def Obligations.BoothResets : Prop :=
  ∀ (l : Connector) (s : State), heard l .h s →
    (s.fire.lockout = true → repliesOnly l .boothReset s .fireLockout []) ∧
      (s.fire.lockout = false →
        grants l .boothReset s .ok (fun _ => [])
          (([Projector.a, .b].filter fun p => decide ((s.arcOf p).state ≠ .off)).map fun p =>
            s.noticeNow .arcState p.code ([0, (s.arcOf p).state.code, 8] ++ half (s.arcOf p).carbon))
          [.plan, .prog, .token, .chan .a, .chan .b, .motion .a, .motion .b, .arc .a, .arc .b]
          (fun t =>
            (∀ p : Projector,
              t.chanOf p = { s.chanOf p with
                state := .idle
                entry := none
                runup := .none
                runupDue := none
                deferred := false
                openOnReady := false
                pastPicture := false
                douser := false
                motor := false } ∧
              t.motionOf p = { s.motionOf p with ring := [], atSpeed := false, stallWatch := none } ∧
              t.arcOf p = if (s.arcOf p).state = .off then s.arcOf p else
                { s.arcOf p with
                  state := .off, phase := .none, strikeDue := none, strikeOut := .idle, contactor := false }) ∧
            t.token = none ∧ t.sound = none ∧
            t.plan = { s.plan with entries := s.plan.entries.map fun e =>
              if e.state = .threaded ∨ e.state = .armed ∨ e.state = .running then
                { e with state := .pending, framesRun := none } else e } ∧
            t.prog = { s.prog with
              state := .idle
              timer := none
              timerEntry := none
              clock := 0
              tenths := 0
              clockStarted := false })
          (fun t => t.testExhausted false))

/-! ### Film motion (chapter 2) -/

/-- R25: the measured speed of a ring of at most eight periods, each of 100 to 65535 counts. -/
def Obligations.MeasuredSpeed : Prop :=
  ∀ m : Motion, m.ring.length ≤ 8 →
    (m.ring.length = 8 → m.speed10 = 800000 / m.ring.sum) ∧ (m.ring.length < 8 → m.speed10 = 0) ∧
      ((∀ x ∈ m.ring, 100 ≤ x ∧ x ≤ 65535) →
        (m.ring.length = 8 → 800 ≤ m.ring.sum) ∧ m.speed10 ≤ 1000 ∧ (m.speed10 = 0 ↔ m.ring.length < 8)) ∧
      (m.ring = List.replicate 8 65535 → m.ring.sum = 524280 ∧ m.speed10 = 1)

/-- R23, R24, R26, R27, R36: TACH_PULSE. A pulse within 100 counts of the reference is ignored; an accepted one is
captured, tests the speed, and in the running states counts a frame, after which the footage points are tested. -/
def Obligations.PulsesCaptured : Prop :=
  ∀ (p : Projector) (instant : Nat) (s : State), (s.motionOf p).ring.length ≤ 8 →
    let c := Instr.tachPulse p instant
    let m := s.motionOf p
    let now := max s.motionCount instant
    let all := m.ring ++ [min (now - m.pulseRef) 65535]
    let ring := all.drop (all.length - 8)
    let speed := if ring.length = 8 then 800000 / ring.sum else 0
    let pass := ring.length = 8 ∧ ((speed : Int) - s.held p .snom).natAbs ≤ s.held p .tol
    let m' : Motion := { m with
      ring := ring
      pulseRef := now
      stallWatch := m.stallWatch.map fun _ => now
      atSpeed := decide pass }
    let reaches := (s.chanOf p).state = .starting ∧ pass ∧ m.speedReached = false
    let counted (x : Motion) : Motion := { x with frames := if x.frames < 65535 then x.frames + 1 else x.frames }
    (now - m.pulseRef < 100 → runs c s [] [.motionCount] fun t => t.motionCount = now) ∧
      (100 ≤ now - m.pulseRef → (s.chanOf p).state.running = false →
        runs c s [] [.motion p, .motionCount] fun t => t.motionOf p = m' ∧ t.motionCount = now) ∧
      (100 ≤ now - m.pulseRef → (s.chanOf p).state.running = true → ¬reaches →
        runs c s [] [.motion p, .motionCount] (fun t => t.motionOf p = counted m' ∧ t.motionCount = now)
          (fun t => if m.frames < 65535 then t.testPoints p else t)) ∧
      (100 ≤ now - m.pulseRef → reaches →
        runs c s [] [.motion p, .motionCount]
          (fun t => t.motionOf p = { m' with speedReached := true, stallWatch := some now } ∧ t.motionCount = now)
          (fun t =>
            let u := t.speedReached p
            if (u.chanOf p).state.running = true ∧ (u.motionOf p).frames < 65535 then
              (u.setMotion p (counted (u.motionOf p))).testPoints p
            else u))

/-- R30, R31: the footage points: each is handed once, where its condition holds and the channel is still in a state
that raises it, nearest the reel head first. -/
def Obligations.FootagePointsRaised : Prop :=
  ∀ (p : Projector) (e : Entry) (s : State), s.entryOf p = some e →
    let m := s.motionOf p
    let r := e.feet * 16 - m.frames
    let g := s.held p .guard
    let holds : FootagePoint → Bool
      | .motor => decide (r ≤ e.lead)
      | .motorGuard => decide (r + g ≤ e.lead)
      | .change => decide (r ≤ e.allowance)
      | .changeGuard => if g < e.allowance then decide (r + g ≤ e.allowance) else decide (r = 0)
      | .reelEnd => decide (r = 0)
      | .tailEnd => decide (e.feet * 16 + s.held p .tailAllowance ≤ m.frames)
    let raised (x : FootagePoint) : State := s.setMotion p { m with raised := m.raised ++ [x] }
    (∀ x : FootagePoint, State.tryPoint p s x =
        if (s.chanOf p).state.holding = true ∧ x ∉ m.raised ∧ holds x = true then (raised x).footagePoint p x else s) ∧
      ((s.chanOf p).state.holding = true → s.testPoints p =
        State.tryPoint p (State.tryPoint p (State.tryPoint p (State.tryPoint p (State.tryPoint p s .motor) .motorGuard)
          .change) .changeGuard) .reelEnd) ∧
      ((s.chanOf p).state = .tail → s.testPoints p =
        if .tailEnd ∉ m.raised ∧ holds .tailEnd = true then (raised .tailEnd).reelDone p else s) ∧
      ((s.chanOf p).state.holding = false → (s.chanOf p).state ≠ .tail → s.testPoints p = s)

/-- R24, R36: RING_TIMEOUT and STALL_TIMEOUT. The ring is emptied only where 65535 counts have passed since the pulse
reference, and the stall happens only where the held stall time has passed since the last accepted pulse; a pulse taken
first moves both.

R34, R35: the film switch and its filter, which follows only a level held for 500 counts.

That a timeout without its timer, or one that the motion count has not reached, changes nothing (logs 3, 4), is the
model's choice. -/
def Obligations.FilmAndPulsesMissing : Prop :=
  (∀ (p : Projector) (s : State),
      let m := s.motionOf p
      (s.motionCount < m.pulseRef + 65535 → idles (.ringTimeout p) s) ∧
        (m.pulseRef + 65535 ≤ s.motionCount →
          runs (.ringTimeout p) s [] [.motion p] fun t => t.motionOf p = { m with ring := [], atSpeed := false }) ∧
        (m.stallWatch = none → idles (.stallTimeout p) s) ∧
        ∀ last, m.stallWatch = some last →
          (s.motionCount < last + s.held p .stallTime → idles (.stallTimeout p) s) ∧
            (last + s.held p .stallTime ≤ s.motionCount →
              runs (.stallTimeout p) s [] [.motion p] (fun t => t.motionOf p = { m with stallWatch := none })
                (fun t => t.halt p .stall))) ∧
  (∀ (p : Projector) (closed : Bool) (s : State),
      let m := s.motionOf p
      let level := s.inputs.filmClosed.get p
      let state := (s.chanOf p).state
      (level = closed → idles (.filmSwitchChange p closed) s) ∧
        (level ≠ closed →
          runs (.filmSwitchChange p closed) s [] [.motion p, .inputs] fun t =>
            t.inputs = { s.inputs with filmClosed := s.inputs.filmClosed.set p closed } ∧
              t.motionOf p = { m with filmDue := some (s.motionCount + 500) }) ∧
        (m.filmDue = none → idles (.filmFilterExpiry p) s) ∧
        ∀ due, m.filmDue = some due →
          (s.motionCount < due → idles (.filmFilterExpiry p) s) ∧
            (due ≤ s.motionCount →
              runs (.filmFilterExpiry p) s [] [.motion p]
                (fun t => t.motionOf p = { m with filmClosed := level, filmDue := none })
                (fun t =>
                  if m.filmClosed = true ∧ level = false then
                    if state = .starting ∨ state = .ready ∨ state = .onScreen ∨ state = .dark then t.halt p .filmBreak
                    else if state = .tail then t.reelDone p
                    else t
                  else t)))

/-- R32, R33: the foil input's three commands, in every stage. That an expiry outside its stage, or a level already
held, changes nothing is the model's choice (log 3). -/
def Obligations.FoilsQualified : Prop :=
  ∀ (p : Projector) (active : Bool) (s : State),
    let m := s.motionOf p
    let now := match m.foilDue with | some due => max s.motionCount due | none => s.motionCount
    let due := some (s.motionCount + 20)
    (s.inputs.foil.get p = active → idles (.foilInputChange p active) s) ∧
      (s.inputs.foil.get p ≠ active →
        runs (.foilInputChange p active) s [] [.motion p, .inputs] fun t =>
          t.inputs = { s.inputs with foil := s.inputs.foil.set p active } ∧
            t.motionOf p =
              match m.foilStage, active with
              | .inactive, true => { m with foilStage := .qualifying, foilDue := due }
              | .qualifying, false => { m with foilStage := .inactive, foilDue := none }
              | .active, false => { m with foilStage := .releasing, foilDue := due }
              | .releasing, true => { m with foilStage := .active, foilDue := none }
              | _, _ => m) ∧
      (m.foilStage ≠ .qualifying → idles (.foilQualifyExpiry p) s) ∧
      (m.foilStage = .qualifying →
        runs (.foilQualifyExpiry p) s [] [.motion p, .motionCount]
          (fun t => t.motionOf p = { m with foilStage := .active, foilDue := none } ∧ t.motionCount = now)
          (fun t =>
            if (s.chanOf p).state.holding = true ∧ ¬(∃ first, m.foilMerge = some first ∧ m.frames - first ≤ 8) then
              (t.setMotion p { t.motionOf p with foilMerge := some m.frames }).foilEvent p
            else t)) ∧
      (m.foilStage ≠ .releasing → idles (.foilReleaseExpiry p) s) ∧
      (m.foilStage = .releasing →
        runs (.foilReleaseExpiry p) s [] [.motion p, .motionCount] fun t =>
          t.motionOf p = { m with foilStage := .inactive, foilDue := none } ∧ t.motionCount = now)

/-- R52, R74: the two run-up timers, and the speed-reached event, which makes a STARTING channel READY and then has it
look for its picture. The tenths of AT_SPEED rounded down (log 11), and expiries outside their stage that change
nothing (log 3), are the model's choices. -/
def Obligations.RunupTimed : Prop :=
  ∀ (p : Projector) (s : State),
    let c := s.chanOf p
    let now := match c.runupDue with | some due => max s.motionCount due | none => s.motionCount
    let speed := half (s.motionOf p).speed10
    (c.runup ≠ .one → idles (.runupStage1Expiry p) s) ∧
      (c.runup = .one →
        runs (.runupStage1Expiry p) s [s.noticeNow .slowRunup p.code speed] [.chan p, .motionCount] fun t =>
          t.motionCount = now ∧
            t.chanOf p = { c with
              runup := .two
              runupDue := some (now + (s.held p .tR2 - s.held p .tR1) * 1000) }) ∧
      (c.runup ≠ .two → idles (.runupStage2Expiry p) s) ∧
      (c.runup = .two →
        runs (.runupStage2Expiry p) s [] [.motionCount] (fun t => t.motionCount = now)
          (fun t => t.halt p .runupFail)) ∧
      (c.state ≠ .starting → s.speedReached p = s) ∧
      (c.state = .starting → ∃ u : State, s.speedReached p = u.conditionsReported p ∧
        u.chanOf p = { c with state := .ready, runup := .none, runupDue := none } ∧
        notified [s.noticeNow .atSpeed p.code
          (speed ++ [byte (min ((s.motionCount - (s.motionOf p).motorStart) / 1000) 255)])] s u ∧
        changesOnly (everyLink ++ [.chan p]) s u)

/-! ### Arcs (chapter 4) -/

/-- R80, R93, R94, R78: STRIKE, ARC_OFF and CARBON_LOAD of a station's own projector, in every arc state. A change of
arc state is reported to the channel. -/
def Obligations.ArcRequests : Prop :=
  ∀ (l : Connector) (r : Role) (p : Projector) (length : Half) (s : State), heard l r s → r.own = some p →
    let x := s.arcOf p
    let data (t : State) := [(t.arcOf p).state.code] ++ half (t.arcOf p).carbon ++ half (t.carbonTime p)
    let report (new cause : Byte) (carbon : Nat) := s.noticeNow .arcState p.code ([new, x.state.code, cause] ++ half carbon)
    let out : Arc :=
      { x with state := .off, phase := .none, strikeDue := none, strikeOut := .idle, contactor := false }
    let told (t : State) := t.conditionsReported p
    let short := x.state = .exhausted ∨ x.carbon ≤ s.held p .stub + 50
    let lit := x.state = .lit ∨ x.state = .striking
    let held := max 100 (min length.toNat 6000)
    let code : ResultCode := if held = length.toNat then .ok else .adjusted
    (lit → repliesOnly l (.strike p.code) s .ok (data s)) ∧
      (¬lit → s.fire.lockout = true → repliesOnly l (.strike p.code) s .fireLockout (data s)) ∧
      (¬lit → s.fire.lockout = false → short → repliesOnly l (.strike p.code) s .carbonShort (data s)) ∧
      (¬lit → s.fire.lockout = false → ¬short →
        grants l (.strike p.code) s .ok data [report 1 9 x.carbon] [.arc p]
          (fun t => t.arcOf p = { x with
            state := .striking
            phase := .touch
            strikeDue := some (s.motionCount + 30000)
            elapsed := 0
            contactor := true
            strikeOut := .touching }) told) ∧
      (x.state = .off → repliesOnly l (.arcOff p.code) s .ok (data s)) ∧
      (x.state ≠ .off →
        grants l (.arcOff p.code) s .ok data [report 0 6 x.carbon] [.arc p] (fun t => t.arcOf p = out) told) ∧
      (lit → repliesOnly l (.carbonLoad p.code length) s .notReady (data s)) ∧
      (x.state = .off →
        grants l (.carbonLoad p.code length) s code data [] [.arc p] fun t => t.arcOf p = { x with carbon := held }) ∧
      (¬lit → x.state ≠ .off →
        grants l (.carbonLoad p.code length) s code data [report 0 5 held] [.arc p]
          (fun t => t.arcOf p = { out with carbon := held }) told)

/-- R77, R81, R82, R83, R86: the events of a strike: the current, the TOUCH and DRAW timers, and the elapsed tenths. V
and I of a STRIKE_FAIL are those last sensed (log 13). Expiries outside their phase that change nothing (log 3), the
voltage as an operand (log 14) and the comparison of a current already held (log 40) are the model's choices. -/
def Obligations.StrikeEvents : Prop :=
  ∀ (p : Projector) (reading : Byte) (s : State),
    let x := s.arcOf p
    let now := match x.strikeDue with | some due => max s.motionCount due | none => s.motionCount
    let i := s.inputs.current.get p
    let draws : Arc := { x with phase := .draw, strikeDue := some (s.motionCount + 5000), strikeOut := .drawing }
    let become (y : Arc) (new : ArcState) : Arc :=
      { y with state := new, phase := .none, strikeDue := none, strikeOut := .idle, contactor := decide (new = .lit) }
    let report (new cause : Byte) := s.noticeNow .arcState p.code ([new, x.state.code, cause] ++ half x.carbon)
    let told (t : State) := t.conditionsReported p
    let good := s.held p .vt ≤ reading.toNat + 16 ∧ s.held p .holdThreshold ≤ i
    let sensed (t : State) : Prop :=
      t.motionCount = now ∧ t.inputs = { s.inputs with voltage := s.inputs.voltage.set p reading.toNat }
    (runs (.arcCurrentChange p reading) s [] [.arc p, .inputs] fun t =>
        t.inputs = { s.inputs with current := s.inputs.current.set p reading.toNat } ∧
          t.arcOf p = if x.phase = .touch ∧ s.held p .strikeThreshold ≤ reading.toNat then draws else x) ∧
      (x.phase ≠ .touch → idles (.touchTimerExpiry p) s) ∧
      (x.phase = .touch →
        runs (.touchTimerExpiry p) s
          [s.noticeNow .strikeFail p.code [1, byte (s.inputs.voltage.get p), byte i, byte x.elapsed], report 0 1]
          [.arc p, .motionCount] (fun t => t.arcOf p = become x .off ∧ t.motionCount = now) told) ∧
      (x.phase ≠ .draw → idles (.drawTimerExpiry p reading) s) ∧
      (x.phase = .draw → ¬good →
        runs (.drawTimerExpiry p reading) s
          [s.noticeNow .strikeFail p.code [2, reading, byte i, byte x.elapsed], report 0 1]
          [.arc p, .inputs, .motionCount] (fun t => t.arcOf p = become x .off ∧ sensed t) told) ∧
      (x.phase = .draw → good → s.held p .stub < x.carbon →
        runs (.drawTimerExpiry p reading) s [report 2 0] [.arc p, .inputs, .motionCount]
          (fun t => t.arcOf p =
            { become x .lit with ring := [], completed := 0, bucket := 0, intervals := 0, highRun := 0 } ∧ sensed t)
          told) ∧
      (x.phase = .draw → good → x.carbon ≤ s.held p .stub →
        runs (.drawTimerExpiry p reading) s
          [s.noticeNow .carbonExhausted p.code (half x.carbon ++ half (s.burnRate p)), report 4 4]
          [.arc p, .inputs, .motionCount] (fun t => t.arcOf p = become x .exhausted ∧ sensed t) told) ∧
      (x.state ≠ .striking → idles (.strikeElapsedTick p) s) ∧
      (x.state = .striking →
        runs (.strikeElapsedTick p) s [] [.arc p] fun t =>
          t.arcOf p = { x with elapsed := min (x.elapsed + 1) 35 })

/-- R84 to R90, R92, R188: REGULATION_INTERVAL. The NEXT_INTERVAL values become held; a LIT arc is sampled, and is
lost, fed, exhausted, put at fault or counted; the interval that completes a bucket is followed by the running check.
That an interval which finds the arc lost leaves e, n, the steps issued and the run as they were is the model's
reading (log 37), and the voltage as an operand its choice (log 14). -/
def Obligations.ArcRegulated : Prop :=
  ∀ (p : Projector) (reading : Byte) (s : State),
    let c := Instr.regulationInterval p reading
    let x := s.arcOf p
    let v (q : ProjParam) : Nat := ((s.par.proj.get p).get q).effective
    let i := s.inputs.current.get p
    let e : Int := (reading.toNat : Int) - v .vt
    let asked := if e ≤ v .deadband then 0 else min ((e - v .deadband).toNat * v .gain / 8) (v .smax)
    let steps := min asked (x.carbon - s.held p .stub)
    let due : Arc := { x with regulationDue := x.regulationDue + 1000 }
    let sampled : Arc := { due with sampleV := reading.toNat, sampleI := i }
    let fed : Arc := { sampled with
      err := e, asked := asked, issued := steps, carbon := x.carbon - steps, bucket := x.bucket + steps }
    let run := if (v .highAlarm : Int) < e then x.highRun + 1 else 0
    let become (y : Arc) (new : ArcState) : Arc :=
      { y with state := new, phase := .none, strikeDue := none, strikeOut := .idle, contactor := false }
    let report (new cause : Byte) (carbon : Nat) := s.noticeNow .arcState p.code ([new, x.state.code, cause] ++ half carbon)
    let told (t : State) := t.conditionsReported p
    let answer (notices : List Notice) (y : Arc) (after : State → State) : Prop :=
      runs c s notices [.arc p, .inputs, .par, .motionCount]
        (fun t =>
          t.arcOf p = y ∧ t.inputs = { s.inputs with voltage := s.inputs.voltage.set p reading.toNat } ∧
            t.motionCount = max s.motionCount x.regulationDue ∧ t.par.dev = s.par.dev ∧
            t.par.proj.get p.other = s.par.proj.get p.other ∧
            ∀ q : ProjParam, (t.par.proj.get p).get q =
              if q.row.point = .nextInterval then ⟨v q, none⟩ else (s.par.proj.get p).get q)
        after
    (x.state ≠ .lit → answer [] due id) ∧
      (x.state = .lit → i < v .holdThreshold → answer [report 0 2 x.carbon] (become sampled .off) told) ∧
      (x.state = .lit → v .holdThreshold ≤ i → fed.carbon ≤ s.held p .stub →
        answer [s.noticeNow .carbonExhausted p.code (half fed.carbon ++ half (s.burnRate p)), report 4 4 fed.carbon]
          (become fed .exhausted) told) ∧
      (x.state = .lit → v .holdThreshold ≤ i → s.held p .stub < fed.carbon → run = 20 →
        answer [report 3 3 fed.carbon] (become { fed with highRun := 20 } .fault) told) ∧
      (x.state = .lit → v .holdThreshold ≤ i → s.held p .stub < fed.carbon → run ≠ 20 → x.intervals + 1 ≠ 100 →
        answer [] { fed with highRun := run, intervals := x.intervals + 1 } id) ∧
      (x.state = .lit → v .holdThreshold ≤ i → s.held p .stub < fed.carbon → run ≠ 20 → x.intervals + 1 = 100 →
        x.ring.length ≤ 6 →
        answer []
          { fed with
            highRun := run
            ring := (x.ring ++ [fed.bucket]).drop (x.ring.length - 5)
            bucket := 0
            intervals := 0
            completed := min (x.completed + 1) 255 }
          (fun t => t.runningCheck p)) ∧
      (let ct := s.carbonTime p
        let rt := (s.remainingTime p).getD 0
        s.runningCheck p =
          if s.token = some p ∧ x.lowWarned = false ∧ ct < rt then
            (s.notify .carbonLow p.code (half ct ++ half rt ++ half x.carbon)).setArc p { x with lowWarned := true }
          else s)

/-- R90, R91, R48, R28, R29: the burn rate, the carbon time, and the remaining frames and time of a linked channel. -/
def Obligations.CarbonAndReelTimes : Prop :=
  ∀ (p : Projector) (s : State),
    let x := s.arcOf p
    let b := if 6 ≤ x.completed then x.ring.sum else s.held p .bn
    let stub := s.held p .stub
    let speed := (s.motionOf p).speed10
    let per := if speed = 0 then s.held p .snom else speed
    s.burnRate p = b ∧
      (x.carbon ≤ stub → s.carbonTime p = 0) ∧
      (stub < x.carbon → b = 0 → s.carbonTime p = 65535) ∧
      (stub < x.carbon → 0 < b → s.carbonTime p = min ((x.carbon - stub) * 600 / b) 65535) ∧
      (s.entryOf p = none → s.remaining p = none ∧ s.remainingTime p = none) ∧
      ∀ e, s.entryOf p = some e →
        ∃ rf rt : Nat, s.remaining p = some rf ∧ s.remainingTime p = some rt ∧
          (rf : Int) = max ((e.feet * 16 : Int) - (s.motionOf p).frames) 0 ∧ rt ≤ 65535 ∧
          (0 < per → rt < 65535 → rf * 100 ≤ rt * per ∧ (0 < rt → (rt - 1) * per < rf * 100)) ∧
          (0 < per → rt = 65535 → 65534 * per < rf * 100)

/-! ### Shutters, heat and fire (chapter 5) -/

/-- R100, R102, R106, R99: SHUTTER_RAISE and SHUTTER_DROP in every shutter state. A change of a port shutter is
reported to its channel. That a raise begun with the open sense made is RAISING is the model's choice (log 43). -/
def Obligations.ShutterRequests : Prop :=
  ∀ (l : Connector) (r : Role) (sh : Shutter) (s : State), heard l r s →
    let x := s.shutterOf sh
    let senses (t : State) : Byte := flagByte [t.inputs.openSense.atShutter sh, t.inputs.closedSense.atShutter sh]
    let data (t : State) := [(t.shutterOf sh).state.code, senses t]
    let report (new : Byte) := s.noticeNow .shutterState sh.code [new, x.state.code, 1, senses s]
    let told (t : State) : State := match sh.projector with | some p => t.conditionsReported p | none => t
    let mayRaise := r = .h ∨ ∃ p, r.own = some p ∧ p.port = sh
    let raise (code : ResultCode) := repliesOnly l (.shutterRaise sh.code) s code (data s)
    (mayRaise → (x.state = .held ∨ x.state = .raising) → raise .ok) ∧
      (mayRaise → x.state = .dropping → raise (if s.fire.lockout = true then .fireLockout else .busy)) ∧
      (mayRaise → (x.state = .down ∨ x.state = .jammed) → s.fire.lockout = true → raise .fireLockout) ∧
      (mayRaise → (x.state = .down ∨ x.state = .jammed) → s.fire.lockout = false →
        grants l (.shutterRaise sh.code) s .ok data [report 1] [.shutter sh]
          (fun t => t.shutterOf sh = ⟨.raising, some (s.motionCount + 30000), true, true, .request⟩) told) ∧
      ((x.state = .held ∨ x.state = .raising) →
        grants l (.shutterDrop sh.code) s .ok data [report 3] [.shutter sh]
          (fun t => t.shutterOf sh = ⟨.dropping, some (s.motionCount + 10000), false, false, .request⟩) told) ∧
      (x.state ≠ .held → x.state ≠ .raising → repliesOnly l (.shutterDrop sh.code) s .ok (data s))

/-- R101, R103, R104, R105, R106, R99: the senses and the move timers, in every shutter state. That a timeout outside
RAISING or DROPPING changes nothing (log 3), that a sense command acts by the level it gives (log 26), and that
RAISE_TIMEOUT does not read the open sense (log 43), are the model's. -/
def Obligations.ShuttersMove : Prop :=
  ∀ (sh : Shutter) (made : Bool) (s : State),
    let x := s.shutterOf sh
    let now := match x.moveDue with | some due => max s.motionCount due | none => s.motionCount
    let told (t : State) : State := match sh.projector with | some p => t.conditionsReported p | none => t
    -- the change to a state whose drives are off or held, from inputs that have just become `i`
    let moves (c : Instr) (i : Inputs) (count : Nat) (new : ShutterState) (hold : Bool) (cause : ShutterCause) : Prop :=
      runs c s
        [s.noticeNow .shutterState sh.code [new.code, x.state.code, cause.code,
          flagByte [i.openSense.atShutter sh, i.closedSense.atShutter sh]]]
        [.shutter sh, .inputs, .motionCount]
        (fun t => t.shutterOf sh = ⟨new, none, false, hold, cause⟩ ∧ t.inputs = i ∧ t.motionCount = count) told
    let opened : Inputs := { s.inputs with openSense := s.inputs.openSense.setShutter sh made }
    let closed : Inputs := { s.inputs with closedSense := s.inputs.closedSense.setShutter sh made }
    let lost : ShutterState := if s.inputs.closedSense.atShutter sh then .down else .jammed
    (x.state = .raising → made = true →
        moves (.openSenseChange sh made) opened s.motionCount .held true .opened) ∧
      (x.state = .held → made = false →
        moves (.openSenseChange sh made) opened s.motionCount lost false .lost) ∧
      (¬(x.state = .raising ∧ made = true) → ¬(x.state = .held ∧ made = false) →
        runs (.openSenseChange sh made) s [] [.inputs] fun t => t.inputs = opened) ∧
      ((x.state = .dropping ∨ x.state = .jammed) → made = true →
        moves (.closedSenseChange sh made) closed s.motionCount .down false .closed) ∧
      (x.state = .down → made = false →
        moves (.closedSenseChange sh made) closed s.motionCount .jammed false .lost) ∧
      (¬((x.state = .dropping ∨ x.state = .jammed) ∧ made = true) → ¬(x.state = .down ∧ made = false) →
        runs (.closedSenseChange sh made) s [] [.inputs] fun t => t.inputs = closed) ∧
      (x.state = .raising → moves (.raiseTimeout sh) s.inputs now lost false .timeout) ∧
      (x.state ≠ .raising → idles (.raiseTimeout sh) s) ∧
      (x.state = .dropping → moves (.dropTimeout sh) s.inputs now lost false .timeout) ∧
      (x.state ≠ .dropping → idles (.dropTimeout sh) s)

/-- R107, R108, R109, R110, R70: the heat monitors. Peak heat follows the reading in TRIPPED too (log 16). That an
expiry outside its state changes nothing (log 3), and that the tenths and the expiry they bring are commands of their
own, so that one whose timer has not reached the held T_h1 or T_h2 changes nothing (log 47), are the model's choices.

R111, R113, R114, R117: the fire inputs and the key switch. An input that opens is a source; it makes fire entry, or
under lockout is added to the record, once. -/
def Obligations.HeatAndFireInputs : Prop :=
  (∀ (p : Projector) (reading : Byte) (s : State),
      let m := s.heatOf p
      let h := s.held p .heatThreshold
      let n := reading.toNat
      let reached (limit : DevParam) : Prop := ∃ k, m.elapsed = some k ∧ s.heldDev limit ≤ k
      (runs (.heatReadingChange p reading) s [] [.heat p, .inputs] fun t =>
          t.inputs = { s.inputs with heat := s.inputs.heat.set p n } ∧
            t.heatOf p =
              match m.state with
              | .normal => if h < n then ⟨.stage1Wait, some 0, n⟩ else m
              | .stage1Wait | .dousedWait =>
                if n + 4 ≤ h then ⟨.normal, none, max m.peak n⟩ else { m with peak := max m.peak n }
              | .tripped => { m with peak := max m.peak n }) ∧
        (¬(m.state = .stage1Wait ∧ reached .tH1) → idles (.heatStage1Expiry p) s) ∧
        (m.state = .stage1Wait → reached .tH1 →
          runs (.heatStage1Expiry p) s
            [s.noticeNow .heatStage1 p.code [byte (s.inputs.heat.get p), byte m.peak, byte h]] [.heat p]
            (fun t => t.heatOf p = { m with state := .dousedWait, elapsed := some 0 })
            (fun t => t.makeSafe p .heat)) ∧
        (¬(m.state = .dousedWait ∧ reached .tH2) → idles (.dousedWaitExpiry p) s) ∧
        (m.state = .dousedWait → reached .tH2 →
          runs (.dousedWaitExpiry p) s [] [.heat p]
            (fun t => t.heatOf p = { m with state := .tripped, elapsed := none })
            (fun t => t.fireSource (match p with | .a => .heatA | .b => .heatB))) ∧
        runs (.heatStageTimerTick p) s [] [.heat p] fun t => t.heatOf p = { m with elapsed := m.elapsed.map (· + 1) }) ∧
  (∀ (x : FireInput) (on : Bool) (s : State),
      let set (isOpen : Bool) : Inputs :=
        match x with
        | .pull1 => { s.inputs with pull1 := isOpen }
        | .pull2 => { s.inputs with pull2 := isOpen }
        | .loop => { s.inputs with loop := isOpen }
      let source : Source := match x with | .pull1 => .pull1 | .pull2 => .pull2 | .loop => .loop
      (runs (.fireSourceOpen x) s [] [.inputs] (fun t => t.inputs = set true) fun t => t.fireSource source) ∧
        (runs (.fireSourceClose x) s [] [.inputs] fun t => t.inputs = set false) ∧
        (runs (.keySwitchChange on) s [] [.inputs] fun t => t.inputs = { s.inputs with key := on }) ∧
        ∀ y : Source,
          (s.fire.lockout = false → s.fireSource y = s.fireEntry y) ∧
            (s.fire.lockout = true → y ∈ s.fire.recorded → s.fireSource y = s) ∧
            (s.fire.lockout = true → y ∉ s.fire.recorded →
              let t := s.fireSource y
              let all := s.fire.recorded ++ [y]
              t.fire = { s.fire with recorded := all } ∧
                notified [s.noticeNow .fire y.code ([1, Source.setByte all] ++ s.fireHeat y)] s t ∧
                changesOnly (everyLink ++ [.fire]) s t))

/-- R112, R70, R95, R129, R117, R106, R78: fire entry: the lockout and its record; the channels made safe; the lights
full; the show in FIRE_STOP; every raised shutter dropping and every arc OFF; and FIRE, then each SHUTTER_STATE, then
each ARC_STATE. -/
def Obligations.FireEntry : Prop :=
  ∀ (x : Source) (s : State),
    let t := s.fireEntry x
    let moved (sh : Shutter) : Bool := decide ((s.shutterOf sh).state = .held ∨ (s.shutterOf sh).state = .raising)
    let disarmed (p : Projector) (plan : Plan) : Plan :=
      match (s.chanOf p).state, (s.chanOf p).entry with
      | .armed, some i => { plan with entries := plan.entries.modify i fun e => { e with state := .threaded } }
      | _, _ => plan
    let full : GroupRec := ⟨255, false, 255, 255, 0, 0, .none, none⟩
    t.fire = ⟨true, some x, [x], some s.prog.clock, true⟩ ∧
      (∀ p : Projector,
        t.chanOf p =
          (if (s.chanOf p).state = .armed then { s.chanOf p with state := .threaded }
          else if (s.chanOf p).state.running = true then
            { s.chanOf p with
              state := .halted
              motor := false
              douser := false
              runup := .none
              runupDue := none
              deferred := false
              openOnReady := false }
          else s.chanOf p) ∧
        t.motionOf p =
          (if (s.chanOf p).state.running = true then
            { s.motionOf p with ring := [], atSpeed := false, stallWatch := none }
          else s.motionOf p) ∧
        t.arcOf p =
          if (s.arcOf p).state = .off then s.arcOf p else
            { s.arcOf p with
              state := .off, phase := .none, strikeDue := none, strikeOut := .idle, contactor := false }) ∧
      (s.tokenLaw → t.token = none ∧ (s.sound = s.token → t.sound = none)) ∧
      t.plan = disarmed .b (disarmed .a s.plan) ∧
      t.lights = { s.lights with groups := ⟨full, full, full, full⟩, emergency := true } ∧
      t.prog = { s.prog with state := .fireStop, timer := none, timerEntry := none } ∧
      (∀ sh : Shutter, t.shutterOf sh =
        if moved sh = true then ⟨.dropping, some (s.motionCount + 10000), false, false, .fire⟩ else s.shutterOf sh) ∧
      notified
        ([s.noticeNow .fire x.code ([0, Source.setByte [x]] ++ s.fireHeat x)] ++
          (([Shutter.portA, .portB, .obs1, .obs2].filter moved).map fun sh =>
            s.noticeNow .shutterState sh.code [3, (s.shutterOf sh).state.code, 6,
              flagByte [s.inputs.openSense.atShutter sh, s.inputs.closedSense.atShutter sh]]) ++
          (([Projector.a, .b].filter fun p => decide ((s.arcOf p).state ≠ .off)).map fun p =>
            s.noticeNow .arcState p.code ([0, (s.arcOf p).state.code, 7] ++ half (s.arcOf p).carbon))) s t ∧
      ∀ b : Block, b ∈ [Block.heat .a, .heat .b, .bus, .routing, .par, .inputs, .motionCount, .freeCount, .queue] →
        b.same s t

/-- R115, R116, R131, R164: FIRE_RESET: its checks in order, and what it clears. A reset under R41 and R112's law
finds every channel's conditions unmet, so that no picture follows. KEY_OFF carries no data (log 15). -/
def Obligations.FireResets : Prop :=
  ∀ (l : Connector) (s : State), heard l .h s →
    let active : List Source := [Source.heatA, .heatB, .pull1, .pull2, .loop].filter fun x =>
      match x with
      | .heatA => decide (s.held .a .heatThreshold < s.inputs.heat.a + 4)
      | .heatB => decide (s.held .b .heatThreshold < s.inputs.heat.b + 4)
      | .pull1 => s.inputs.pull1
      | .pull2 => s.inputs.pull2
      | .loop => s.inputs.loop
    let first : Byte := match s.fire.first with | some x => x.code | none => 0xFF
    let data := [marker s.fire.lockout, first, Source.setByte s.fire.recorded, Source.setByte active]
    (s.fire.lockout = false → repliesOnly l .fireReset s .ok data) ∧
      (s.fire.lockout = true → s.inputs.key = false → repliesOnly l .fireReset s .keyOff []) ∧
      (s.fire.lockout = true → s.inputs.key = true → active ≠ [] →
        repliesOnly l .fireReset s .sourceActive data) ∧
      (s.fire.lockout = true → s.inputs.key = true → active = [] → s.boothLaw →
        grants l .fireReset s .ok (fun _ => [0, 0xFF, 0, 0])
          [s.noticeNow .fireCleared first [Source.setByte s.fire.recorded]]
          [.fire, .heat .a, .heat .b, .lights, .prog] fun t =>
            t.fire = ⟨false, none, [], none, false⟩ ∧
              (∀ p : Projector, t.heatOf p = { s.heatOf p with state := .normal, elapsed := none }) ∧
              t.lights = { s.lights with emergency := false } ∧
              t.prog = { s.prog with
                state := if s.plan.entries = [] ∨ s.exhausted = true then .ended else .stalled })

/-- R118, R21, R39, R40, R77, R120, R135, R152, R167, R178, R185, R191: POWER_ON: every block at its power-on values,
written out; each shutter from its closed sense, a heat monitor in its first stage where the reading is above the
default threshold, and fire entry for each open input. The inputs and the queue are kept, and the motion count is 0
(log 22). The film filter that runs from power-on (log 27), the foil stage that an input already active leaves INACTIVE
(log 48), the instant of the last motor start and the messages kept (log 35), and the order of the fire inputs (log 42),
are the model's. -/
def Obligations.PowersOn : Prop :=
  ∀ s : State,
    let sources : List Source := (if s.inputs.pull1 then [.pull1] else []) ++
      (if s.inputs.pull2 then [.pull2] else []) ++ if s.inputs.loop then [.loop] else []
    ∃ u : State, exec .powerOn s = .next (sources.foldl (fun t x => t.fireSource x) u).finish ∧
      u.plan = { entries := [], repeatCount := 1, passNumber := 1 } ∧
      u.prog =
        { state := .idle, position := none, timer := none, timerEntry := none, clock := 0, tenths := 0,
          clockStarted := false, lastDone := none } ∧
      u.token = none ∧ u.sound = none ∧
      (∀ p : Projector,
        u.motionOf p =
          { pulseRef := 0, ring := [], speedReached := false, atSpeed := false, frames := 0, raised := [],
            foilMerge := none, foilStage := .inactive, foilDue := none, filmClosed := false, filmDue := some 500,
            stallWatch := none, motorStart := 0 } ∧
        u.chanOf p =
          { state := .idle, entry := none, motorCueTaken := false, changeTaken := false, foilCount := 0,
            runup := .none, runupDue := none, deferred := false, openOnReady := false, pastPicture := false,
            douser := false, motor := false } ∧
        u.arcOf p =
          { state := .off, phase := .none, strikeDue := none, elapsed := 0, carbon := 0, sampleV := 0, sampleI := 0,
            err := 0, asked := 0, issued := 0, highRun := 0, intervals := 0, bucket := 0, ring := [], completed := 0,
            lowWarned := false, contactor := false, strikeOut := .idle, regulationDue := 1000 } ∧
        u.heatOf p =
          (if 150 < s.inputs.heat.get p then ⟨.stage1Wait, some 0, s.inputs.heat.get p⟩ else ⟨.normal, none, 0⟩) ∧
        ([.snom, .tol, .stallTime, .tR1, .tR2, .tailAllowance, .guard, .vt, .deadband, .gain, .smax, .highAlarm, .bn,
            .stub, .mc, .strikeThreshold, .holdThreshold, .heatThreshold].map fun q => (u.par.proj.get p).get q) =
          ([240, 5, 2500, 40, 100, 96, 16, 120, 4, 8, 6, 20, 70, 400, 1200, 60, 40, 150].map fun v => ⟨v, none⟩)) ∧
      ([.tH1, .tH2, .brkMask, .brkLevel, .brkFade, .restoreFade, .autoResume].map fun q => u.par.dev.get q) =
        ([10, 50, 1, 96, 20, 30, 1].map fun v => ⟨v, none⟩) ∧
      (∀ sh : Shutter, u.shutterOf sh =
        { state := if s.inputs.closedSense.atShutter sh = true then .down else .jammed, moveDue := none, lift := false,
          hold := false, lastCause := .none }) ∧
      u.fire = { lockout := false, first := none, recorded := [], entryTime := none, alarm := false } ∧
      (∀ g : Group, u.lights.groupAt g =
        { level := 0, active := false, start := 0, target := 0, n := 0, k := 0, source := .none, save := none }) ∧
      u.lights.emergency = false ∧ u.lights.out = [] ∧
      u.bus =
        { state := .brk, breakEnded := false, breakDue := 500, cycleDue := 200, cycle := 0, identify := 0,
          pointer := 0, rounds := 0, parked := 0, withheld := [], snapshot := ⟨0, 0, 0, 0⟩, plan := [],
          roundDue := false, window := none, packs := [], out := [] } ∧
      (∀ l : Connector, u.linkOf l =
        { binding := none, stage := .hunt, assembly := [], slots := [], replies := [], tx := .idle, notices := [],
          discard := false, overrun := false, lost := false }) ∧
      (∀ k : NoticeKind, u.maskOf k = if k = .lightsDone ∨ k = .packEvent ∨ k = .busResetDone then 4 else 7) ∧
      u.inputs = s.inputs ∧ u.motionCount = 0 ∧ u.pending = s.pending

/-! ### Lights (chapter 6) -/

/-- R121, R130, R123: a lighting action on each group, and LIGHTS: refused in emergency, without effect where what it
asks for is held, and an action otherwise.

R126, R127: the break saves the target in force of each group it changes that holds no save, and takes it to the break
level; the restore takes each group with a save back to it. The byte of an absent break save in the LIGHTS reply is
free, and the counter it moves is the model's (log 10). -/
def Obligations.LightsActedAndRestored : Prop :=
  (∀ (mask : BitVec 4) (level fade : Nat) (source : FadeSource) (s : State),
      let x := s.lights
      let y := x.act s.prog.clock mask level fade source
      let acted (g : Group) : GroupRec :=
        let r := x.groupAt g
        { level := if fade = 0 then level else r.level
          active := decide (fade ≠ 0)
          start := r.level
          target := level
          n := fade * 5
          k := 0
          source := source
          save := if source = .brk ∨ source = .restore then r.save else none }
      (x.emergency = true → y = x) ∧
        (x.emergency = false →
          (∀ g : Group, y.groupAt g = if mask.getLsbD g.index = true then acted g else x.groupAt g) ∧
            y.emergency = false ∧
            y.out = x.out ++ ([Group.house, .stage, .aisle, .work].filter fun g =>
              mask.getLsbD g.index && decide (fade = 0)).map fun g =>
                s.noticeNow .lightsDone g.code [byte level, source.code]) ∧
        ∀ (l : Connector) (r : Role) (m v : Byte) (f : Half), heard l r s →
          let bits : BitVec 4 := m.setWidth 4
          let tenths := min f.toNat 600
          let code : ResultCode := if m.toNat ≤ 15 ∧ f.toNat ≤ 600 then .ok else .adjusted
          let done := ∀ g : Group, bits.getLsbD g.index = true →
            (x.groupAt g).level = v.toNat ∧ (x.groupAt g).active = false ∧ (x.groupAt g).save = none
          let data (t : State) : List Byte := [Group.house, .stage, .aisle, .work].flatMap fun g =>
            let z := t.lights.groupAt g
            [byte z.level, byte z.target, flagByte [z.active, z.save.isSome],
              match z.save with | some n => byte n | none => s.freeAt g.index]
          (x.emergency = true → repliesOnly l (.lights m v f) s .fireLockout []) ∧
            (x.emergency = false → done →
              grants l (.lights m v f) s code data [] [.freeCount] fun _ => True) ∧
            (x.emergency = false → ¬done →
              grants l (.lights m v f) s code data [] [.lights, .freeCount] fun t =>
                t.lights = x.act s.prog.clock bits v.toNat tenths .request)) ∧
  (∀ (mask : BitVec 4) (level fade clock : Nat) (x : Lighting),
      let b := x.breakAction clock mask level fade
      let r := x.restoreAction clock fade
      let moved (g : Group) (goal : Nat) (source : FadeSource) (save : Option Nat) : GroupRec :=
        let z := x.groupAt g
        { level := if fade = 0 then goal else z.level
          active := decide (fade ≠ 0)
          start := z.level
          target := goal
          n := fade * 5
          k := 0
          source := source
          save := save }
      let inForce (g : Group) : Nat := if (x.groupAt g).active = true then (x.groupAt g).target else (x.groupAt g).level
      (x.emergency = true → b = x ∧ r = x) ∧
        (x.emergency = false →
          (∀ g : Group, b.groupAt g =
            if mask.getLsbD g.index = true then moved g level .brk (some ((x.groupAt g).save.getD (inForce g)))
            else x.groupAt g) ∧
          (∀ g : Group, r.groupAt g =
            match (x.groupAt g).save with
            | some n => moved g n .restore none
            | none => x.groupAt g) ∧
          b.emergency = false ∧ r.emergency = false ∧
          b.out = x.out ++ ([Group.house, .stage, .aisle, .work].filter fun g =>
            mask.getLsbD g.index && decide (fade = 0)).map (fun g =>
              ⟨.lightsDone, g.code, clock, [byte level, 5]⟩) ∧
          r.out = x.out ++ ([Group.house, .stage, .aisle, .work].filter fun g =>
            (x.groupAt g).save.isSome && decide (fade = 0)).map fun g =>
              ⟨.lightsDone, g.code, clock, [byte ((x.groupAt g).save.getD 0), 6]⟩))

/-! ### The dimmer bus (chapter 7) -/

/-- R136, R122, R133, R145, R188: DIMMER_CYCLE_START: the NEXT_CYCLE values become held, each fading group makes a
step, with LIGHTS_DONE where the fade ends, and the bus begins its cycle: the cycle counter, the snapshot, a pending
reset's break, the refresh counts, the end of a break, and what the cycle sends. That a cycle start drops an open
window and what is left of the plan is the model's reading (log 19); bus.out, the messages sent, is its own field (log
31).

R138, R139: the packets a cycle plans in NORMAL: of the packs that are PRESENT and whose level sent is absent, is not
P, or has stood for 50 cycles, the first six (four in a cycle with an identify round) in round-robin order from the
address after the pointer, which moves to the last of them. -/
def Obligations.CyclesAndPacketsPlanned : Prop :=
  (∀ s : State,
      let b := s.bus
      let now := max s.motionCount b.cycleDue
      let stepped (g : Group) : GroupRec :=
        let z := s.lights.groupAt g
        if z.active = false then z
        else if z.k + 1 < z.n then
          { z with
            k := z.k + 1
            level := ((z.start : Int) + (((z.target : Int) - z.start) * ((z.k + 1 : Nat) : Int)).tdiv z.n).toNat }
        else { z with k := z.k + 1, level := z.target, active := false }
      let ends (g : Group) : Bool := (s.lights.groupAt g).active && !(stepped g).active
      let cycle := (b.cycle + 1) % 256
      let state : BusState :=
        match b.state with
        | .normal => .normal
        | .resetPending => .brk
        | .brk => if b.breakEnded = true then .enumerating else .brk
        | .enumerating => .enumerating
      let breaks := b.state = .resetPending
      let marker := [0xA0, byte cycle, -(0xA0 + byte cycle)]
      let call : List Byte := [0xD0, 0x30]
      let round := state = .enumerating ∨ (state = .normal ∧ (b.identify + 1) % 250 = 0)
      runs .dimmerCycleStart s
        (([Group.house, .stage, .aisle, .work].filter ends).map fun g =>
          s.noticeNow .lightsDone g.code [byte (s.lights.groupAt g).target, (s.lights.groupAt g).source.code])
        [.lights, .bus, .par, .motionCount] fun t =>
          t.motionCount = now ∧ t.par.proj = s.par.proj ∧
            (∀ q : DevParam, t.par.dev.get q =
              if q.row.point = .nextCycle then ⟨(s.par.dev.get q).effective, none⟩ else s.par.dev.get q) ∧
            (∀ g : Group, t.lights.groupAt g = stepped g) ∧ t.lights.emergency = s.lights.emergency ∧
            t.lights.out = s.lights.out ∧
            t.bus.state = state ∧ t.bus.cycle = cycle ∧ t.bus.window = none ∧ t.bus.cycleDue = b.cycleDue + 200 ∧
            t.bus.snapshot = ⟨(stepped .house).level, (stepped .stage).level, (stepped .aisle).level,
              (stepped .work).level⟩ ∧
            t.bus.packs = (b.packs.map fun x =>
              let y : Pack := if breaks then { x with isPresent := false, misses := 0, sent := none } else x
              { y with since := min (x.since + 1) 255 }) ∧
            t.bus.breakEnded = (if breaks then false else b.breakEnded) ∧
            t.bus.breakDue = (if breaks then now + 500 else b.breakDue) ∧
            t.bus.parked = (if breaks then 0 else b.parked) ∧
            t.bus.withheld = (if breaks then [] else b.withheld) ∧
            t.bus.rounds = (if b.state = .brk ∧ b.breakEnded = true then 0 else b.rounds) ∧
            t.bus.identify = (if state = .normal then (b.identify + 1) % 250 else b.identify) ∧
            t.bus.roundDue = decide round ∧
            t.bus.out = (if state = .brk then [] else if round then [marker, call] else [marker]) ∧
            (state ≠ .normal → t.bus.plan = [] ∧ t.bus.pointer = b.pointer)) ∧
  (∀ s : State, s.bus.state = .normal → s.bus.pointer ≤ 15 → ∃ t : State, exec .dimmerCycleStart s = .next t ∧
      let b := t.bus
      let budget := if (s.bus.identify + 1) % 250 = 0 then 4 else 6
      let needs (a : Nat) : Prop := ∃ x, b.packAt a = some x ∧ x.isPresent = true ∧
        (x.sent ≠ some (match x.group with | none => 0 | some g => groupOf b.snapshot g * x.top / 255) ∨ 50 ≤ x.since)
      let turn (a : Nat) : Nat := (a + 14 - s.bus.pointer) % 15
      (∀ a ∈ b.plan, 1 ≤ a ∧ a ≤ 15 ∧ needs a) ∧ b.plan.length ≤ budget ∧
        b.plan.Pairwise (fun a c => turn a < turn c) ∧
        (∀ a, 1 ≤ a → a ≤ 15 → needs a → a ∉ b.plan →
          b.plan.length = budget ∧ ∀ c ∈ b.plan, turn c < turn a) ∧
        b.pointer = b.plan.getLastD s.bus.pointer)

/-- R140, R141, R150: LEVEL_PACKET_SENT and LEVEL_REPLY_WINDOW_END. The first planned packet goes out with P of its
pack, unless a round is still to be made or a window is open (log 19); OK and LOAD_FAIL clear the misses and set the
flag, whose change is reported; anything else is a miss, and the third makes the pack ABSENT. A reply is the bytes
read in the window (log 18); bus.out is the model's own field (log 31). That LEVEL_PACKET_SENT with nothing planned, and
LEVEL_REPLY_WINDOW_END with no window open, change nothing, and that a planned packet or a window whose address has no
entry is dropped, are the model's choices (log 3); so is that a pack planned before the cycle's round bound it again is
still sent its packet (log 49). -/
def Obligations.LevelPackets : Prop :=
  ∀ (reply : List Byte) (s : State), (s.bus.packs.map (·.address)).Nodup →
    let b := s.bus
    let becomes (x y : Pack) (t : State) : Prop := t.bus.packs = b.packs.map fun z => if z = x then y else z
    let rest (t : State) : Prop :=
      t.bus = { b with packs := t.bus.packs, plan := t.bus.plan, window := t.bus.window, out := t.bus.out }
    let report (event : Byte) (x : Pack) := s.noticeNow .packEvent (byte x.address)
      ([event] ++ serialBytes x.serial ++ [(match x.group with | some g => g.code | none => 4), marker x.loadFail])
    ((b.roundDue = true ∨ b.window.isSome = true ∨ b.plan = []) → idles .levelPacketSent s) ∧
      (∀ a more x, b.roundDue = false → b.window = none → b.plan = a :: more → b.packAt a = some x →
        let p := match x.group with | none => 0 | some g => groupOf b.snapshot g * x.top / 255
        runs .levelPacketSent s [] [.bus] fun t =>
          becomes x { x with sent := some p, since := 0 } t ∧ t.bus.plan = more ∧ t.bus.window = some a ∧ rest t ∧
            t.bus.out = [[byte (0xB0 + a), byte p, -(byte (0xB0 + a) + byte p)]]) ∧
      (∀ a more, b.roundDue = false → b.window = none → b.plan = a :: more → b.packAt a = none →
        runs .levelPacketSent s [] [.bus] fun t => t.bus = { b with plan := more, out := [] }) ∧
      (b.window = none → idles (.levelReplyWindowEnd reply) s) ∧
      (∀ a, b.window = some a → b.packAt a = none →
        runs (.levelReplyWindowEnd reply) s [] [.bus] fun t => t.bus = { b with window := none, out := [] }) ∧
      ∀ a x, b.window = some a → b.packAt a = some x →
        let good := reply = [0xC0, byte a, -(0xC0 + byte a)]
        let bad := reply = [0xC1, byte a, -(0xC1 + byte a)]
        let answered : Pack := { x with misses := 0, loadFail := decide bad }
        let misses := min (x.misses + 1) 3
        let missed : Pack :=
          { x with sent := none, misses := misses, isPresent := x.isPresent && decide (misses ≠ 3) }
        let closed (y : Pack) (t : State) : Prop :=
          becomes x y t ∧ t.bus.window = none ∧ t.bus.out = [] ∧ t.bus.plan = b.plan ∧ rest t
        ((good ∨ bad) →
          runs (.levelReplyWindowEnd reply) s (if x.loadFail = decide bad then [] else [report 3 answered]) [.bus]
            (closed answered)) ∧
          (¬good → ¬bad →
            runs (.levelReplyWindowEnd reply) s
              (if misses = 3 ∧ x.isPresent = true then [report 1 missed] else []) [.bus] (closed missed))

/-- R143: the serial read in a round with at least one contender is the lowest of those that contend.

R143, R144, R146, R150: IDENTIFY_ROUND_END. A round with no contender ends an enumeration; an acknowledged round
brings a pack back, takes it into the table at the lowest free address, or parks it; an unacknowledged one withholds
the address it gave to a new serial (log 18); a round of an enumeration is counted, and the 64th cuts it short. The
byte LOAD_FAIL 00h of table-full is the model's reading (log 29); bus.out is its own field (log 31). The contenders as
an operand (log 20), that IDENTIFY_ROUND_END with no round due changes nothing (log 3), that the plan of the cycle stays
as it was (log 49), and that the address is chosen from the table as it stands at IDENTIFY_ROUND_END (log 50), are the
model's choices. -/
def Obligations.IdentifyRounds : Prop :=
  (∀ contenders : List Serial, contenders ≠ [] →
      readSerial contenders ∈ contenders ∧ ∀ x ∈ contenders, (readSerial contenders).toNat ≤ x.toNat) ∧
  (∀ (contenders : List Serial) (ack : List Byte) (s : State), (s.bus.packs.map (·.address)).Nodup →
      let c := Instr.identifyRoundEnd contenders ack
      let b := s.bus
      let x := readSerial contenders
      let isFree (a : Nat) : Prop := 1 ≤ a ∧ a ≤ 15 ∧ (∀ y ∈ b.packs, y.address ≠ a) ∧ a ∉ b.withheld
      let lowest (a : Nat) : Prop := isFree a ∧ ∀ d, isFree d → a ≤ d
      let assign (a : Nat) : List Byte :=
        let bytes := [0xE0] ++ serialBytes x ++ [byte a]
        bytes ++ [-(byteSum bytes)]
      let acked (a : Nat) : Prop := ack = [0xF0, byte a, -(0xF0 + byte a)]
      let report (subject event : Byte) (data : List Byte) :=
        s.noticeNow .packEvent subject ([event] ++ serialBytes x ++ data)
      let groupByte (g : Option Group) : Byte := match g with | some g => g.code | none => 4
      let done (present : Nat) (absent : Nat) (parked : Nat) (rounds : Nat) (complete : Byte) :=
        s.noticeNow .busResetDone 0xFF [byte present, byte absent, byte parked, byte rounds, complete]
      let base : Bus := { b with roundDue := false, out := [] }
      -- what the round itself leaves of the bus is counted where an enumeration is made
      let closes (notices : List Notice) (after : Bus) : Prop :=
        let rounds := b.rounds + 1
        let counted : Bus := { after with rounds := rounds }
        if b.state ≠ .enumerating then runs c s notices [.bus] fun t => t.bus = after
        else if contenders = [] ∨ rounds = 64 then
          runs c s
            (notices ++ [done (after.packs.countP fun y => y.isPresent) (after.packs.countP fun y => !y.isPresent)
              after.parked rounds (if contenders = [] then 1 else 0)]) [.bus]
            fun t => t.bus = { counted with state := .normal, identify := 0 }
        else runs c s notices [.bus] fun t => t.bus = counted
      (b.roundDue = false → idles c s) ∧
        (b.roundDue = true → contenders = [] → closes [] base) ∧
        (∀ y ∈ b.packs, b.roundDue = true → contenders ≠ [] → b.packOf x = some y →
          let won : Pack := { y with isPresent := true, misses := 0, sent := none }
          let told : Bus := { base with out := [assign y.address] }
          (acked y.address → closes [report (byte y.address) 2 [groupByte y.group, marker y.loadFail]]
            { told with packs := b.packs.map fun z => if z.address = y.address then won else z }) ∧
            (¬acked y.address → closes [] told)) ∧
        (∀ a, b.roundDue = true → contenders ≠ [] → b.packOf x = none → lowest a →
          let told : Bus := { base with out := [assign a] }
          (acked a → ∃ before after : List Pack, b.packs = before ++ after ∧ (∀ z ∈ before, z.address ≤ a) ∧
              (∀ z ∈ after.head?, a < z.address) ∧
              closes [report (byte a) 0 [4, 0]]
                { told with packs := before ++ ⟨x, a, none, 255, none, 0, true, false, 0⟩ :: after }) ∧
            (¬acked a → closes [] { told with withheld := b.withheld ++ [a] })) ∧
        (b.roundDue = true → contenders ≠ [] → b.packOf x = none → (∀ a, ¬isFree a) →
          let told : Bus := { base with out := [assign 0] }
          (acked 0 → closes [report 0 4 [0xFF, 0]] { told with parked := min (b.parked + 1) 255 }) ∧
            (¬acked 0 → closes [] told)))

/-- R145, R147, R148, R149: BUS_RESET, PACK_READ, PACK_WRITE and PACK_FORGET, and BUS_BREAK_END. That BUS_BREAK_END
outside BREAK changes nothing is the model's choice (log 3). -/
def Obligations.BusRequests : Prop :=
  ∀ (l : Connector) (r : Role) (a group top : Byte) (s : State), heard l r s →
    let b := s.bus
    let level (x : Pack) : Nat := match x.group with | none => 0 | some g => groupOf b.snapshot g * x.top / 255
    let record (x : Pack) : List Byte := [byte x.address] ++ serialBytes x.serial ++
      [(match x.group with | some g => g.code | none => 4), byte x.top, byte (x.sent.getD 0), byte x.since,
        flagByte [x.isPresent, x.loadFail, x.sent.isSome], byte x.misses, byte (level x)]
    let bits (packs : List Pack) : List Byte := half ((packs.map fun x => 2 ^ x.address).sum)
    let newGroup (x : Pack) : Option Group :=
      if group = 0 then some .house else if group = 1 then some .stage else if group = 2 then some .aisle
      else if group = 3 then some .work else if group = 4 then none else x.group
    (b.state = .brk → runs .busBreakEnd s [] [.bus, .motionCount] fun t =>
        t.bus = { b with breakEnded := true } ∧ t.motionCount = max s.motionCount b.breakDue) ∧
      (b.state ≠ .brk → idles .busBreakEnd s) ∧
      (a ≠ 0xFF → b.packAt a.toNat = none → repliesOnly l (.packRead a) s .noEntry []) ∧
      (∀ x, a ≠ 0xFF → b.packAt a.toNat = some x → repliesOnly l (.packRead a) s .ok (record x)) ∧
      repliesOnly l (.packRead 0xFF) s .ok
        ([b.state.code, byte b.cycle, byte b.identify, byte b.pointer, byte b.packs.length] ++ bits b.packs ++
          bits (b.packs.filter fun x => x.isPresent) ++ [byte b.parked, byte b.rounds]) ∧
      (r = .h →
        (b.state = .normal →
          grants l .busReset s .ok (fun _ => []) [] [.bus] fun t => t.bus = { b with state := .resetPending }) ∧
        (b.state ≠ .normal → repliesOnly l .busReset s .busy []) ∧
        (b.packAt a.toNat = none →
          repliesOnly l (.packWrite a group top) s .noEntry [] ∧ repliesOnly l (.packForget a) s .noEntry []) ∧
        ∀ x, b.packAt a.toNat = some x →
          let y : Pack := { x with group := newGroup x, top := top.toNat }
          (grants l (.packWrite a group top) s (if group.toNat ≤ 4 then .ok else .adjusted) (fun _ => record y) []
            [.bus] fun t => t.bus.packAt a.toNat = some y ∧
              t.bus = { b with packs := t.bus.packs } ∧
              (∀ d, d ≠ a.toNat → t.bus.packAt d = b.packAt d)) ∧
          (x.isPresent = true → repliesOnly l (.packForget a) s .notReady []) ∧
          (x.isPresent = false → grants l (.packForget a) s .ok (fun _ => [a]) [] [.bus] fun t =>
            t.bus = { b with packs := b.packs.filter fun z => decide (z.address ≠ a.toNat) }))

/-! ### Parameters (chapter 10) -/

/-- R185, R194: the table of the parameters: identifier by identifier the range, the default and the take-effect
point.

R190, R186, R187, R189: PARAM_READ and PARAM_WRITE of every parameter: NO_ENTRY for an identifier that is none; the
value taken in range, T_r2 not below the effective T_r1 + 10; an IMMEDIATE value held, any other placed; and T_r2
raised with T_r1. ADJUSTED answers a value that the range changed, one that the constraint raised, and a T_r1 that raised
T_r2: the steps are named apart, so this holds in every state, its records in range or not. What the owning block then
does is the last part's.

R186, R81, R96, R107, R108: what a held value of the strike threshold, the stub, H, T_h1 and T_h2 brings at once when
it is written; no other parameter acts. That a value held already is compared too (log 40), and that T_h1 and T_h2 act
on A before B (log 41), are the model's choices; the peak that a new H raises in TRIPPED is its reading (log 16). -/
def Obligations.ParametersWritten : Prop :=
  ((ProjParam.all.map fun q => (q, q.row)) =
      ([(.snom, ⟨160, 300, 240, .nextStart⟩), (.tol, ⟨1, 30, 5, .nextStart⟩), (.stallTime, ⟨1000, 10000, 2500, .nextStart⟩),
        (.tR1, ⟨10, 100, 40, .nextStart⟩), (.tR2, ⟨20, 300, 100, .nextStart⟩), (.tailAllowance, ⟨0, 480, 96, .immediate⟩),
        (.guard, ⟨4, 48, 16, .nextStart⟩), (.vt, ⟨80, 180, 120, .nextInterval⟩), (.deadband, ⟨0, 20, 4, .nextInterval⟩),
        (.gain, ⟨1, 32, 8, .nextInterval⟩), (.smax, ⟨1, 20, 6, .nextInterval⟩), (.highAlarm, ⟨8, 60, 20, .nextInterval⟩),
        (.bn, ⟨10, 200, 70, .immediate⟩), (.stub, ⟨200, 1000, 400, .immediate⟩), (.mc, ⟨0, 6000, 1200, .immediate⟩),
        (.strikeThreshold, ⟨20, 150, 60, .immediate⟩), (.holdThreshold, ⟨10, 100, 40, .nextInterval⟩),
        (.heatThreshold, ⟨60, 240, 150, .immediate⟩)] : List (ProjParam × ParamSpec)) ∧
    (DevParam.all.map fun q => (q, q.row)) =
      ([(.tH1, ⟨5, 50, 10, .immediate⟩), (.tH2, ⟨10, 200, 50, .immediate⟩), (.brkMask, ⟨0, 15, 1, .nextCycle⟩),
        (.brkLevel, ⟨0, 255, 96, .nextCycle⟩), (.brkFade, ⟨0, 600, 20, .nextCycle⟩),
        (.restoreFade, ⟨0, 600, 30, .nextCycle⟩), (.autoResume, ⟨0, 1, 1, .immediate⟩)] : List (DevParam × ParamSpec)) ∧
    (∀ p : Projector, ((List.range 18).map fun i => ParamRef.ofCodes (byte (i + 1)) p.code) =
      ProjParam.all.map fun q => some (some (.proj p q))) ∧
    ∀ x : Byte, ((List.range 7).map fun i => ParamRef.ofCodes (byte (i + 19)) x) =
      DevParam.all.map fun q => some (some (.dev q))) ∧
  (∀ (l : Connector) (r : Role) (id proj : Byte) (value : Half) (s : State), heard l r s →
      let rec' (t : State) (q : ParamRef) : List Byte :=
        let x := t.par.recOf q
        (match q with
          | .proj p y => [byte (ProjParam.all.idxOf y + 1), p.code]
          | .dev y => [byte (DevParam.all.idxOf y + 19), 0xFF]) ++ half x.held ++
          [if x.pending = none then 0 else 1] ++ half (x.pending.getD 0) ++ [q.row.point.code] ++ half q.row.low ++
          half q.row.high ++ half q.row.default
      let placed (x : ParamRec) (v : Nat) : ParamRec :=
        if x.pending = some v then x else if v = x.held then { x with pending := none } else { x with pending := some v }
      let effective (x : ParamRec) : Nat := x.pending.getD x.held
      (ParamRef.ofCodes id proj = some none →
          repliesOnly l (.paramRead id proj) s .noEntry [] ∧
            (r = .h → repliesOnly l (.paramWrite id proj value) s .noEntry [])) ∧
        ∀ q : ParamRef, ParamRef.ofCodes id proj = some (some q) →
          let n := value.toNat
          let x := s.par.recOf q
          let inRange := if q = .dev .brkMask then n % 16 else max q.row.low (min n q.row.high)
          let v := match q with
            | .proj p .tR2 => max inRange (effective (s.par.recOf (.proj p .tR1)) + 10)
            | _ => inRange
          let limit := match q with
            | .proj p .tR1 => if effective (s.par.recOf (.proj p .tR2)) < effective (placed x v) + 10 then some p else none
            | _ => none
          repliesOnly l (.paramRead id proj) s .ok (rec' s q) ∧
            (r = .h →
              grants l (.paramWrite id proj value) s (if inRange = n ∧ v = inRange ∧ limit = none then .ok else .adjusted)
                (fun t => rec' t q ++ match limit with | some p => rec' t (.proj p .tR2) | none => []) [] [.par]
                (fun t => ∀ y : ParamRef, t.par.recOf y =
                  if y = q then (if q.row.point = .immediate then { x with held := v } else placed x v)
                  else if ∃ p, limit = some p ∧ y = .proj p .tR2 then
                    placed (s.par.recOf y) (effective (placed x v) + 10)
                  else s.par.recOf y)
                (fun t => t.paramActs q))) ∧
  (∀ (p : Projector) (s : State),
      let x := s.arcOf p
      let m := s.heatOf p
      let n := s.inputs.heat.get p
      let h := s.held p .heatThreshold
      let overdue (q : Projector) (state : HeatState) (limit : Nat) (t : State) : Bool :=
        decide ((t.heatOf q).state = state) && (t.heatOf q).elapsed.any fun k => decide (limit ≤ k)
      let stage1 (q : Projector) (t : State) : State :=
        if overdue q .stage1Wait (t.heldDev .tH1) t then t.heatStage1 q else t
      let douse (q : Projector) (t : State) : State :=
        if overdue q .dousedWait (t.heldDev .tH2) t then t.heatTrips q else t
      s.paramActs (.proj p .strikeThreshold) =
          (if x.phase = .touch ∧ s.held p .strikeThreshold ≤ s.inputs.current.get p then
            s.setArc p { x with phase := .draw, strikeDue := some (s.motionCount + 5000), strikeOut := .drawing }
          else s) ∧
        s.paramActs (.proj p .stub) =
          (if x.state = .lit ∧ x.carbon ≤ s.held p .stub then
            (s.notify .carbonExhausted p.code (half x.carbon ++ half (s.burnRate p))).arcTo p .exhausted .exhausted
          else s) ∧
        s.paramActs (.proj p .heatThreshold) = s.setHeat p
          (match m.state with
            | .normal => if h < n then ⟨.stage1Wait, some 0, n⟩ else m
            | .stage1Wait | .dousedWait =>
              if n + 4 ≤ h then ⟨.normal, none, max m.peak n⟩ else { m with peak := max m.peak n }
            | .tripped => { m with peak := max m.peak n }) ∧
        s.paramActs (.dev .tH1) = stage1 .b (stage1 .a s) ∧ s.paramActs (.dev .tH2) = douse .b (douse .a s) ∧
        (∀ y : ProjParam, y ≠ .strikeThreshold → y ≠ .stub → y ≠ .heatThreshold → s.paramActs (.proj p y) = s) ∧
        ∀ y : DevParam, y ≠ .tH1 → y ≠ .tH2 → s.paramActs (.dev y) = s)

/-! ### The show (chapter 8) -/

/-- R160: INTERMISSION_EXTEND adds to a running timer, held at 3600; it is NOT_READY in any other state and without a
running timer. -/
def Obligations.IntermissionExtended : Prop :=
  ∀ (l : Connector) (n : Half) (s : State), heard l .h s →
    (¬(s.prog.state = .intermission ∧ s.prog.timer.isSome = true) →
        repliesOnly l (.intermissionExtend n) s .notReady []) ∧
      ∀ left, s.prog.state = .intermission → s.prog.timer = some left → left ≤ 3600 →
        (n = 0 → repliesOnly l (.intermissionExtend n) s .ok (half left)) ∧
          grants l (.intermissionExtend n) s (if 3600 < left + n.toNat then .adjusted else .ok)
            (fun _ => half (min (left + n.toNat) 3600)) [] [.prog] fun t =>
              t.prog = { s.prog with timer := some (min (left + n.toNat) 3600) }

/-- R159, R67, R154: INTERMISSION_TIMER_TICK and INTERMISSION_EXPIRY: the timer falls; at the expiry it is gone, and
INTERMISSION_END says that the show resumes, or waits. The resume is START_SHOW taken internally, where its own checks
let it; that "resumed" is sent also where they do not is the model's choice (log 46). R160: a timer with more than its
last second left, as an extend taken before the expiry leaves it, runs on through INTERMISSION_EXPIRY. That the fall
to 0 is INTERMISSION_EXPIRY's and not the tick's (log 34), and that an expiry without a timer changes nothing (log 3),
are the model's choices.

R154, R67, R153: the START_SHOW of an intermission resume: the show RUNNING with no intermission entry, open on ready
and the start action, then the motor start or the screen, as for a panel's, and no second INTERMISSION_END.

R163: SHOW_CLOCK_TICK: the clock counts tenths while it has been started and the show is RUNNING, INTERMISSION or
STALLED; seconds stay at 65535. -/
def Obligations.ShowTimersCount : Prop :=
  (∀ s : State,
      let stopped : Progress := { s.prog with timer := none }
      let found (q : Projector) := s.nextChannel = some q ∧ ((s.chanOf q).state = .armed ∨ (s.chanOf q).state = .ready)
      let ended (outcome : Byte) := s.noticeNow .intermissionEnd (indexByte s.prog.timerEntry) [1, outcome, 0, 0]
      let resumes := s.heldDev .autoResume = 1
      let startable := s.fire.lockout = false ∧ s.token = none ∧
        (s.prog.state = .idle ∨ s.prog.state = .stalled ∨ s.prog.state = .intermission)
      let lastSecond := ∃ n, s.prog.timer = some n ∧ n ≤ 1
      (runs .intermissionTimerTick s [] [.prog] fun t =>
          t.prog = { s.prog with timer := s.prog.timer.map fun n => if n ≤ 1 then n else n - 1 }) ∧
        (s.prog.timer = none → idles .intermissionExpiry s) ∧
        (∀ n, s.prog.timer = some n → 1 < n →
          runs .intermissionExpiry s [] [.prog] fun t => t.prog = { s.prog with timer := some (n - 1) }) ∧
        (lastSecond → (¬resumes ∨ ∀ q, ¬found q) →
          runs .intermissionExpiry s [ended 2] [.prog] fun t => t.prog = stopped) ∧
        (∀ q, lastSecond → resumes → found q → startable →
          runs .intermissionExpiry s [ended 1] [.prog] (fun t => t.prog = stopped) (fun t => t.startOn false q)) ∧
        (∀ q, lastSecond → resumes → found q → ¬startable →
          runs .intermissionExpiry s [ended 1] [.prog] fun t => t.prog = stopped)) ∧
  (∀ (q : Projector) (s : State), s.prog.state = .intermission → ∃ u : State,
      u.prog = { s.prog with state := .running, timer := none, timerEntry := none, clockStarted := true } ∧
        u.chanOf q = { s.chanOf q with openOnReady := true } ∧
        u.lights = (match (s.entryOf q).bind (·.startAction) with
          | some x => s.lights.act s.prog.clock x.mask x.level x.fade .start
          | none => s.lights) ∧
        changesOnly [.prog, .chan q, .lights] s u ∧
        s.startOn false q =
          if (s.chanOf q).state = .armed then ((u.motorRuns q).positionTo q).filmAtStart q
          else if (u.positionTo q).readyForPicture q = true then (u.positionTo q).openScreen q
          else u.positionTo q) ∧
  (∀ s : State, s.prog.clock ≤ 65535 → s.prog.tenths ≤ 9 →
      let runsOn := s.prog.clockStarted = true ∧
        (s.prog.state = .running ∨ s.prog.state = .intermission ∨ s.prog.state = .stalled)
      (¬runsOn → idles .showClockTick s) ∧
        (runsOn → runs .showClockTick s [] [.prog] fun t =>
          t.prog = { s.prog with clock := t.prog.clock, tenths := t.prog.tenths } ∧
            t.prog.clock * 10 + t.prog.tenths =
              (if s.prog.clock = 65535 ∧ s.prog.tenths = 9 then 655350 else s.prog.clock * 10 + s.prog.tenths + 1) ∧
            t.prog.tenths ≤ 9 ∧ t.prog.clock ≤ 65535))

/-! ### Laws of every step -/

/-- R41, R42, R43, R78, R99, R112, R129: the token names the channel on screen or dark; the sound follows it; a douser
is open only in ON_SCREEN, and then with the picture conditions met, so never two at once; motors, contactors and
shutter drives follow their states; and the lockout holds everything off. Every step of every command keeps it. -/
def Obligations.BoothLawKept : Prop :=
  ∀ s t : State, s.boothLaw → step s = .next t → t.boothLaw

/-- R79: while an arc is LIT its carbon is above the stub. Every step keeps it, where the drives follow their states.
In every state the carbon of an arc rises at no step but one that takes a CARBON_LOAD of it with the arc neither LIT
nor STRIKING (R93), which comes as the request itself, as its frame, or as the last byte of its frame, and then it is
the length loaded. -/
def Obligations.CarbonLawKept : Prop :=
  (∀ s t : State, s.boothLaw → s.carbonLaw → step s = .next t → t.carbonLaw) ∧
  ∀ (s t : State) (p : Projector), step s = .next t → (s.arcOf p).carbon < (t.arcOf p).carbon →
    (s.arcOf p).state ≠ .lit ∧ (s.arcOf p).state ≠ .striking ∧
      ∃ (c : Instr) (rest : List Instr) (l : Connector) (length : Half),
        s.pending = c :: rest ∧ (t.arcOf p).carbon = max 100 (min length.toNat 6000) ∧
        let body := requestBody (.carbonLoad p.code length)
        c = .carbonLoad l p.code length ∨ c = .frameReceived l body ∨
          (∃ kind params, c = .unknownRequestKind l kind params ∧ kind :: params = body) ∨
          ∃ b, c = .byteReceived l b false ∧ (s.linkOf l).assembly.tail = body

/-- R4, R5, R6, R8, R40: a channel is linked to an entry exactly outside IDLE, to its own projector's entry, in the
state that goes with the channel's; the plan holds at most 16 entries, in range, and alternates. Every step keeps it.
-/
def Obligations.PlanLawKept : Prop :=
  ∀ s t : State, s.boothLaw → s.planLaw → step s = .next t → t.planLaw

/-- R122, R137, R184, R185, R189, R24, R90, R139, R159, R163: fades between their ends, packs with distinct addresses and
serials, every held and pending parameter value in its range and none pending for an IMMEDIATE one, T_r2 above T_r1, and
the rings, the intermission timer, the show clock and the bus pointer in their ranges. Every step keeps it, where the
plan's entries are in theirs. The parameter ranges need no other law. -/
def Obligations.TablesLawKept : Prop :=
  (∀ s t : State, s.paramLaw → step s = .next t → t.paramLaw) ∧
  ∀ s t : State, s.rangeLaw → s.fadeLaw ∧ s.packLaw ∧ s.limitLaw ∧ s.countLaw → step s = .next t →
    t.fadeLaw ∧ t.packLaw ∧ t.limitLaw ∧ t.countLaw

/-- R169, R172, R174, R176, R180: one link to a role; at most two requests held, each waiting for a reply that is
queued or going out; at most 16 notices, at most one of a coalescing kind for a subject; and no transmitter idle with
something to send. Every step keeps it. -/
def Obligations.LinksLawKept : Prop :=
  ∀ s t : State, s.roleLaw ∧ s.queueLaw → step s = .next t → t.roleLaw ∧ t.queueLaw

/-- The laws hold of the part right after power-on. -/
def Obligations.ResetMeetsLaws : Prop :=
  State.reset.boothLaw ∧ State.reset.carbonLaw ∧ State.reset.planLaw ∧ State.reset.fadeLaw ∧ State.reset.packLaw ∧
    State.reset.paramLaw ∧ State.reset.limitLaw ∧ State.reset.countLaw ∧ State.reset.roleLaw ∧ State.reset.queueLaw
end

