-- ==== Sys2Proof/Laws/State.lean ====
section
/-! SUPPORT. The small lemmas of the state: what each update leaves of each field and of each read. -/

namespace Sys2Proof

/-! ### Containers -/

section Containers

variable {α : Type}

@[simp] theorem Pair.get_set_self (x : Pair α) (p : Projector) (v : α) : (x.set p v).get p = v := by cases p <;> rfl

theorem Pair.get_set_ne (x : Pair α) {p q : Projector} (v : α) (h : q ≠ p) : (x.set p v).get q = x.get q := by
  cases p <;> cases q <;> first | rfl | exact absurd rfl h

@[simp] theorem Pair.get_set_other (x : Pair α) (p : Projector) (v : α) :
    (x.set p v).get p.other = x.get p.other := by cases p <;> rfl

@[simp] theorem Trio.get_set_self (x : Trio α) (l : Connector) (v : α) : (x.set l v).get l = v := by cases l <;> rfl

theorem Trio.get_set_ne (x : Trio α) {l m : Connector} (v : α) (h : m ≠ l) : (x.set l v).get m = x.get m := by
  cases l <;> cases m <;> first | rfl | exact absurd rfl h

@[simp] theorem Quad.atShutter_set_self (x : Quad α) (sh : Shutter) (v : α) :
    (x.setShutter sh v).atShutter sh = v := by cases sh <;> rfl

theorem Quad.atShutter_set_ne (x : Quad α) {sh sh' : Shutter} (v : α) (h : sh' ≠ sh) :
    (x.setShutter sh v).atShutter sh' = x.atShutter sh' := by
  cases sh <;> cases sh' <;> first | rfl | exact absurd rfl h

@[simp] theorem Machine.groupOf_set_self (x : Quad α) (g : Machine.Group) (v : α) :
    Machine.groupOf (Machine.setGroupOf x g v) g = v := by cases g <;> rfl

theorem Machine.groupOf_set_ne (x : Quad α) {g g' : Machine.Group} (v : α) (h : g' ≠ g) :
    Machine.groupOf (Machine.setGroupOf x g v) g' = Machine.groupOf x g' := by
  cases g <;> cases g' <;> first | rfl | exact absurd rfl h

end Containers

@[simp] theorem Projector.other_ne (p : Projector) : p.other ≠ p := by cases p <;> decide

@[simp] theorem Projector.ne_other (p : Projector) : p ≠ p.other := by cases p <;> decide

@[simp] theorem Projector.other_other (p : Projector) : p.other.other = p := by cases p <;> rfl

@[simp] theorem Projector.ofCode_code (p : Projector) : Projector.ofCode p.code = some p := by cases p <;> rfl

@[simp] theorem Shutter.ofCode_code (sh : Shutter) : Shutter.ofCode sh.code = some sh := by cases sh <;> rfl

@[simp] theorem Role.ofCode_code (r : Role) : Role.ofCode r.code = some r := by cases r <;> rfl

namespace Machine

namespace State

variable (s : State)

/-! ### An update read where it was made -/

@[simp] theorem chanOf_setChan_self (p : Projector) (c : Channel) : (s.setChan p c).chanOf p = c := by
  simp [setChan, chanOf]

theorem chanOf_setChan_ne {p q : Projector} (c : Channel) (h : q ≠ p) :
    (s.setChan p c).chanOf q = s.chanOf q := Pair.get_set_ne _ _ h

@[simp] theorem chanOf_setChan_other (p : Projector) (c : Channel) :
    (s.setChan p c).chanOf p.other = s.chanOf p.other := by simp [setChan, chanOf]

@[simp] theorem motionOf_setMotion_self (p : Projector) (m : Motion) : (s.setMotion p m).motionOf p = m := by
  simp [setMotion, motionOf]

theorem motionOf_setMotion_ne {p q : Projector} (m : Motion) (h : q ≠ p) :
    (s.setMotion p m).motionOf q = s.motionOf q := Pair.get_set_ne _ _ h

@[simp] theorem arcOf_setArc_self (p : Projector) (x : Arc) : (s.setArc p x).arcOf p = x := by
  simp [setArc, arcOf]

theorem arcOf_setArc_ne {p q : Projector} (x : Arc) (h : q ≠ p) :
    (s.setArc p x).arcOf q = s.arcOf q := Pair.get_set_ne _ _ h

@[simp] theorem shutterOf_setShutter_self (sh : Shutter) (x : ShutterRec) : (s.setShutter sh x).shutterOf sh = x := by
  simp [setShutter, shutterOf]

theorem shutterOf_setShutter_ne {sh sh' : Shutter} (x : ShutterRec) (h : sh' ≠ sh) :
    (s.setShutter sh x).shutterOf sh' = s.shutterOf sh' := Quad.atShutter_set_ne _ _ h

@[simp] theorem heatOf_setHeat_self (p : Projector) (m : HeatMonitor) : (s.setHeat p m).heatOf p = m := by
  simp [setHeat, heatOf]

theorem heatOf_setHeat_ne {p q : Projector} (m : HeatMonitor) (h : q ≠ p) :
    (s.setHeat p m).heatOf q = s.heatOf q := Pair.get_set_ne _ _ h

@[simp] theorem linkOf_setLink_self (l : Connector) (k : Link) : (s.setLink l k).linkOf l = k := by
  simp [setLink, linkOf]

theorem linkOf_setLink_ne {l m : Connector} (k : Link) (h : m ≠ l) :
    (s.setLink l k).linkOf m = s.linkOf m := Trio.get_set_ne _ _ h

@[simp] theorem plan_setPlan (x : Plan) : (s.setPlan x).plan = x := rfl
@[simp] theorem prog_setProg (x : Progress) : (s.setProg x).prog = x := rfl
@[simp] theorem fire_setFire (x : FireRec) : (s.setFire x).fire = x := rfl
@[simp] theorem lights_setLights (x : Lighting) : (s.setLights x).lights = x := rfl
@[simp] theorem bus_setBus (x : Bus) : (s.setBus x).bus = x := rfl
@[simp] theorem par_setPar (x : Params) : (s.setPar x).par = x := rfl
@[simp] theorem inputs_setInputs (x : Inputs) : (s.setInputs x).inputs = x := rfl
@[simp] theorem token_setToken (x : Option Projector) : (s.setToken x).token = x := rfl
@[simp] theorem sound_setToken (x : Option Projector) : (s.setToken x).sound = x := rfl
@[simp] theorem motionCount_passTo (n : Nat) : (s.passTo n).motionCount = max s.motionCount n := rfl

/-! ### An update read elsewhere -/

@[simp] theorem plan_setChan (p : Projector) (c : Channel) : (s.setChan p c).plan = s.plan := rfl
@[simp] theorem prog_setChan (p : Projector) (c : Channel) : (s.setChan p c).prog = s.prog := rfl
@[simp] theorem motion_setChan (p : Projector) (c : Channel) : (s.setChan p c).motion = s.motion := rfl
@[simp] theorem token_setChan (p : Projector) (c : Channel) : (s.setChan p c).token = s.token := rfl
@[simp] theorem sound_setChan (p : Projector) (c : Channel) : (s.setChan p c).sound = s.sound := rfl
@[simp] theorem arc_setChan (p : Projector) (c : Channel) : (s.setChan p c).arc = s.arc := rfl
@[simp] theorem shutters_setChan (p : Projector) (c : Channel) : (s.setChan p c).shutters = s.shutters := rfl
@[simp] theorem heat_setChan (p : Projector) (c : Channel) : (s.setChan p c).heat = s.heat := rfl
@[simp] theorem fire_setChan (p : Projector) (c : Channel) : (s.setChan p c).fire = s.fire := rfl
@[simp] theorem lights_setChan (p : Projector) (c : Channel) : (s.setChan p c).lights = s.lights := rfl
@[simp] theorem bus_setChan (p : Projector) (c : Channel) : (s.setChan p c).bus = s.bus := rfl
@[simp] theorem links_setChan (p : Projector) (c : Channel) : (s.setChan p c).links = s.links := rfl
@[simp] theorem routing_setChan (p : Projector) (c : Channel) : (s.setChan p c).routing = s.routing := rfl
@[simp] theorem par_setChan (p : Projector) (c : Channel) : (s.setChan p c).par = s.par := rfl
@[simp] theorem inputs_setChan (p : Projector) (c : Channel) : (s.setChan p c).inputs = s.inputs := rfl
@[simp] theorem motionCount_setChan (p : Projector) (c : Channel) : (s.setChan p c).motionCount = s.motionCount := rfl
@[simp] theorem freeCount_setChan (p : Projector) (c : Channel) : (s.setChan p c).freeCount = s.freeCount := rfl
@[simp] theorem pending_setChan (p : Projector) (c : Channel) : (s.setChan p c).pending = s.pending := rfl
@[simp] theorem motionOf_setChan (p : Projector) (c : Channel) (q : Projector) : (s.setChan p c).motionOf q = s.motionOf q :=
  rfl
@[simp] theorem arcOf_setChan (p : Projector) (c : Channel) (q : Projector) : (s.setChan p c).arcOf q = s.arcOf q :=
  rfl
@[simp] theorem shutterOf_setChan (p : Projector) (c : Channel) (sh' : Shutter) : (s.setChan p c).shutterOf sh' = s.shutterOf sh' :=
  rfl
@[simp] theorem heatOf_setChan (p : Projector) (c : Channel) (q : Projector) : (s.setChan p c).heatOf q = s.heatOf q :=
  rfl
@[simp] theorem linkOf_setChan (p : Projector) (c : Channel) (l' : Connector) : (s.setChan p c).linkOf l' = s.linkOf l' :=
  rfl
@[simp] theorem held_setChan (p : Projector) (c : Channel) (q : Projector) (y : ProjParam) : (s.setChan p c).held q y = s.held q y :=
  rfl
@[simp] theorem heldDev_setChan (p : Projector) (c : Channel) (y : DevParam) : (s.setChan p c).heldDev y = s.heldDev y :=
  rfl
@[simp] theorem maskOf_setChan (p : Projector) (c : Channel) (k' : NoticeKind) : (s.setChan p c).maskOf k' = s.maskOf k' :=
  rfl
@[simp] theorem entryAt_setChan (p : Projector) (c : Channel) (i : Nat) : (s.setChan p c).entryAt i = s.entryAt i :=
  rfl
@[simp] theorem nextEntry_setChan (p : Projector) (c : Channel) : (s.setChan p c).nextEntry = s.nextEntry := rfl
@[simp] theorem pictureConditions_setChan (p : Projector) (c : Channel) (q : Projector) : (s.setChan p c).pictureConditions q = s.pictureConditions q :=
  rfl

@[simp] theorem plan_setMotion (p : Projector) (m : Motion) : (s.setMotion p m).plan = s.plan := rfl
@[simp] theorem prog_setMotion (p : Projector) (m : Motion) : (s.setMotion p m).prog = s.prog := rfl
@[simp] theorem chan_setMotion (p : Projector) (m : Motion) : (s.setMotion p m).chan = s.chan := rfl
@[simp] theorem token_setMotion (p : Projector) (m : Motion) : (s.setMotion p m).token = s.token := rfl
@[simp] theorem sound_setMotion (p : Projector) (m : Motion) : (s.setMotion p m).sound = s.sound := rfl
@[simp] theorem arc_setMotion (p : Projector) (m : Motion) : (s.setMotion p m).arc = s.arc := rfl
@[simp] theorem shutters_setMotion (p : Projector) (m : Motion) : (s.setMotion p m).shutters = s.shutters := rfl
@[simp] theorem heat_setMotion (p : Projector) (m : Motion) : (s.setMotion p m).heat = s.heat := rfl
@[simp] theorem fire_setMotion (p : Projector) (m : Motion) : (s.setMotion p m).fire = s.fire := rfl
@[simp] theorem lights_setMotion (p : Projector) (m : Motion) : (s.setMotion p m).lights = s.lights := rfl
@[simp] theorem bus_setMotion (p : Projector) (m : Motion) : (s.setMotion p m).bus = s.bus := rfl
@[simp] theorem links_setMotion (p : Projector) (m : Motion) : (s.setMotion p m).links = s.links := rfl
@[simp] theorem routing_setMotion (p : Projector) (m : Motion) : (s.setMotion p m).routing = s.routing := rfl
@[simp] theorem par_setMotion (p : Projector) (m : Motion) : (s.setMotion p m).par = s.par := rfl
@[simp] theorem inputs_setMotion (p : Projector) (m : Motion) : (s.setMotion p m).inputs = s.inputs := rfl
@[simp] theorem motionCount_setMotion (p : Projector) (m : Motion) : (s.setMotion p m).motionCount = s.motionCount := rfl
@[simp] theorem freeCount_setMotion (p : Projector) (m : Motion) : (s.setMotion p m).freeCount = s.freeCount := rfl
@[simp] theorem pending_setMotion (p : Projector) (m : Motion) : (s.setMotion p m).pending = s.pending := rfl
@[simp] theorem chanOf_setMotion (p : Projector) (m : Motion) (q : Projector) : (s.setMotion p m).chanOf q = s.chanOf q :=
  rfl
@[simp] theorem arcOf_setMotion (p : Projector) (m : Motion) (q : Projector) : (s.setMotion p m).arcOf q = s.arcOf q :=
  rfl
@[simp] theorem shutterOf_setMotion (p : Projector) (m : Motion) (sh' : Shutter) : (s.setMotion p m).shutterOf sh' = s.shutterOf sh' :=
  rfl
@[simp] theorem heatOf_setMotion (p : Projector) (m : Motion) (q : Projector) : (s.setMotion p m).heatOf q = s.heatOf q :=
  rfl
@[simp] theorem linkOf_setMotion (p : Projector) (m : Motion) (l' : Connector) : (s.setMotion p m).linkOf l' = s.linkOf l' :=
  rfl
@[simp] theorem held_setMotion (p : Projector) (m : Motion) (q : Projector) (y : ProjParam) : (s.setMotion p m).held q y = s.held q y :=
  rfl
@[simp] theorem heldDev_setMotion (p : Projector) (m : Motion) (y : DevParam) : (s.setMotion p m).heldDev y = s.heldDev y :=
  rfl
@[simp] theorem maskOf_setMotion (p : Projector) (m : Motion) (k' : NoticeKind) : (s.setMotion p m).maskOf k' = s.maskOf k' :=
  rfl
@[simp] theorem entryAt_setMotion (p : Projector) (m : Motion) (i : Nat) : (s.setMotion p m).entryAt i = s.entryAt i :=
  rfl
@[simp] theorem entryOf_setMotion (p : Projector) (m : Motion) (q : Projector) : (s.setMotion p m).entryOf q = s.entryOf q :=
  rfl
@[simp] theorem nextEntry_setMotion (p : Projector) (m : Motion) : (s.setMotion p m).nextEntry = s.nextEntry := rfl
@[simp] theorem isNext_setMotion (p : Projector) (m : Motion) (q : Projector) : (s.setMotion p m).isNext q = s.isNext q :=
  rfl
@[simp] theorem pictureConditions_setMotion (p : Projector) (m : Motion) (q : Projector) : (s.setMotion p m).pictureConditions q = s.pictureConditions q :=
  rfl

@[simp] theorem plan_setArc (p : Projector) (x : Arc) : (s.setArc p x).plan = s.plan := rfl
@[simp] theorem prog_setArc (p : Projector) (x : Arc) : (s.setArc p x).prog = s.prog := rfl
@[simp] theorem motion_setArc (p : Projector) (x : Arc) : (s.setArc p x).motion = s.motion := rfl
@[simp] theorem chan_setArc (p : Projector) (x : Arc) : (s.setArc p x).chan = s.chan := rfl
@[simp] theorem token_setArc (p : Projector) (x : Arc) : (s.setArc p x).token = s.token := rfl
@[simp] theorem sound_setArc (p : Projector) (x : Arc) : (s.setArc p x).sound = s.sound := rfl
@[simp] theorem shutters_setArc (p : Projector) (x : Arc) : (s.setArc p x).shutters = s.shutters := rfl
@[simp] theorem heat_setArc (p : Projector) (x : Arc) : (s.setArc p x).heat = s.heat := rfl
@[simp] theorem fire_setArc (p : Projector) (x : Arc) : (s.setArc p x).fire = s.fire := rfl
@[simp] theorem lights_setArc (p : Projector) (x : Arc) : (s.setArc p x).lights = s.lights := rfl
@[simp] theorem bus_setArc (p : Projector) (x : Arc) : (s.setArc p x).bus = s.bus := rfl
@[simp] theorem links_setArc (p : Projector) (x : Arc) : (s.setArc p x).links = s.links := rfl
@[simp] theorem routing_setArc (p : Projector) (x : Arc) : (s.setArc p x).routing = s.routing := rfl
@[simp] theorem par_setArc (p : Projector) (x : Arc) : (s.setArc p x).par = s.par := rfl
@[simp] theorem inputs_setArc (p : Projector) (x : Arc) : (s.setArc p x).inputs = s.inputs := rfl
@[simp] theorem motionCount_setArc (p : Projector) (x : Arc) : (s.setArc p x).motionCount = s.motionCount := rfl
@[simp] theorem freeCount_setArc (p : Projector) (x : Arc) : (s.setArc p x).freeCount = s.freeCount := rfl
@[simp] theorem pending_setArc (p : Projector) (x : Arc) : (s.setArc p x).pending = s.pending := rfl
@[simp] theorem chanOf_setArc (p : Projector) (x : Arc) (q : Projector) : (s.setArc p x).chanOf q = s.chanOf q := rfl
@[simp] theorem motionOf_setArc (p : Projector) (x : Arc) (q : Projector) : (s.setArc p x).motionOf q = s.motionOf q :=
  rfl
@[simp] theorem shutterOf_setArc (p : Projector) (x : Arc) (sh' : Shutter) : (s.setArc p x).shutterOf sh' = s.shutterOf sh' :=
  rfl
@[simp] theorem heatOf_setArc (p : Projector) (x : Arc) (q : Projector) : (s.setArc p x).heatOf q = s.heatOf q := rfl
@[simp] theorem linkOf_setArc (p : Projector) (x : Arc) (l' : Connector) : (s.setArc p x).linkOf l' = s.linkOf l' :=
  rfl
@[simp] theorem held_setArc (p : Projector) (x : Arc) (q : Projector) (y : ProjParam) : (s.setArc p x).held q y = s.held q y :=
  rfl
@[simp] theorem heldDev_setArc (p : Projector) (x : Arc) (y : DevParam) : (s.setArc p x).heldDev y = s.heldDev y :=
  rfl
@[simp] theorem maskOf_setArc (p : Projector) (x : Arc) (k' : NoticeKind) : (s.setArc p x).maskOf k' = s.maskOf k' :=
  rfl
@[simp] theorem entryAt_setArc (p : Projector) (x : Arc) (i : Nat) : (s.setArc p x).entryAt i = s.entryAt i := rfl
@[simp] theorem entryOf_setArc (p : Projector) (x : Arc) (q : Projector) : (s.setArc p x).entryOf q = s.entryOf q :=
  rfl
@[simp] theorem nextEntry_setArc (p : Projector) (x : Arc) : (s.setArc p x).nextEntry = s.nextEntry := rfl
@[simp] theorem isNext_setArc (p : Projector) (x : Arc) (q : Projector) : (s.setArc p x).isNext q = s.isNext q := rfl

@[simp] theorem plan_setShutter (sh : Shutter) (x : ShutterRec) : (s.setShutter sh x).plan = s.plan := rfl
@[simp] theorem prog_setShutter (sh : Shutter) (x : ShutterRec) : (s.setShutter sh x).prog = s.prog := rfl
@[simp] theorem motion_setShutter (sh : Shutter) (x : ShutterRec) : (s.setShutter sh x).motion = s.motion := rfl
@[simp] theorem chan_setShutter (sh : Shutter) (x : ShutterRec) : (s.setShutter sh x).chan = s.chan := rfl
@[simp] theorem token_setShutter (sh : Shutter) (x : ShutterRec) : (s.setShutter sh x).token = s.token := rfl
@[simp] theorem sound_setShutter (sh : Shutter) (x : ShutterRec) : (s.setShutter sh x).sound = s.sound := rfl
@[simp] theorem arc_setShutter (sh : Shutter) (x : ShutterRec) : (s.setShutter sh x).arc = s.arc := rfl
@[simp] theorem heat_setShutter (sh : Shutter) (x : ShutterRec) : (s.setShutter sh x).heat = s.heat := rfl
@[simp] theorem fire_setShutter (sh : Shutter) (x : ShutterRec) : (s.setShutter sh x).fire = s.fire := rfl
@[simp] theorem lights_setShutter (sh : Shutter) (x : ShutterRec) : (s.setShutter sh x).lights = s.lights := rfl
@[simp] theorem bus_setShutter (sh : Shutter) (x : ShutterRec) : (s.setShutter sh x).bus = s.bus := rfl
@[simp] theorem links_setShutter (sh : Shutter) (x : ShutterRec) : (s.setShutter sh x).links = s.links := rfl
@[simp] theorem routing_setShutter (sh : Shutter) (x : ShutterRec) : (s.setShutter sh x).routing = s.routing := rfl
@[simp] theorem par_setShutter (sh : Shutter) (x : ShutterRec) : (s.setShutter sh x).par = s.par := rfl
@[simp] theorem inputs_setShutter (sh : Shutter) (x : ShutterRec) : (s.setShutter sh x).inputs = s.inputs := rfl
@[simp] theorem motionCount_setShutter (sh : Shutter) (x : ShutterRec) : (s.setShutter sh x).motionCount = s.motionCount := rfl
@[simp] theorem freeCount_setShutter (sh : Shutter) (x : ShutterRec) : (s.setShutter sh x).freeCount = s.freeCount := rfl
@[simp] theorem pending_setShutter (sh : Shutter) (x : ShutterRec) : (s.setShutter sh x).pending = s.pending := rfl
@[simp] theorem chanOf_setShutter (sh : Shutter) (x : ShutterRec) (q : Projector) : (s.setShutter sh x).chanOf q = s.chanOf q :=
  rfl
@[simp] theorem motionOf_setShutter (sh : Shutter) (x : ShutterRec) (q : Projector) : (s.setShutter sh x).motionOf q = s.motionOf q :=
  rfl
@[simp] theorem arcOf_setShutter (sh : Shutter) (x : ShutterRec) (q : Projector) : (s.setShutter sh x).arcOf q = s.arcOf q :=
  rfl
@[simp] theorem heatOf_setShutter (sh : Shutter) (x : ShutterRec) (q : Projector) : (s.setShutter sh x).heatOf q = s.heatOf q :=
  rfl
@[simp] theorem linkOf_setShutter (sh : Shutter) (x : ShutterRec) (l' : Connector) : (s.setShutter sh x).linkOf l' = s.linkOf l' :=
  rfl
@[simp] theorem held_setShutter (sh : Shutter) (x : ShutterRec) (q : Projector) (y : ProjParam) : (s.setShutter sh x).held q y = s.held q y :=
  rfl
@[simp] theorem heldDev_setShutter (sh : Shutter) (x : ShutterRec) (y : DevParam) : (s.setShutter sh x).heldDev y = s.heldDev y :=
  rfl
@[simp] theorem maskOf_setShutter (sh : Shutter) (x : ShutterRec) (k' : NoticeKind) : (s.setShutter sh x).maskOf k' = s.maskOf k' :=
  rfl
@[simp] theorem entryAt_setShutter (sh : Shutter) (x : ShutterRec) (i : Nat) : (s.setShutter sh x).entryAt i = s.entryAt i :=
  rfl
@[simp] theorem entryOf_setShutter (sh : Shutter) (x : ShutterRec) (q : Projector) : (s.setShutter sh x).entryOf q = s.entryOf q :=
  rfl
@[simp] theorem nextEntry_setShutter (sh : Shutter) (x : ShutterRec) : (s.setShutter sh x).nextEntry = s.nextEntry :=
  rfl
@[simp] theorem isNext_setShutter (sh : Shutter) (x : ShutterRec) (q : Projector) : (s.setShutter sh x).isNext q = s.isNext q :=
  rfl

@[simp] theorem plan_setHeat (p : Projector) (m : HeatMonitor) : (s.setHeat p m).plan = s.plan := rfl
@[simp] theorem prog_setHeat (p : Projector) (m : HeatMonitor) : (s.setHeat p m).prog = s.prog := rfl
@[simp] theorem motion_setHeat (p : Projector) (m : HeatMonitor) : (s.setHeat p m).motion = s.motion := rfl
@[simp] theorem chan_setHeat (p : Projector) (m : HeatMonitor) : (s.setHeat p m).chan = s.chan := rfl
@[simp] theorem token_setHeat (p : Projector) (m : HeatMonitor) : (s.setHeat p m).token = s.token := rfl
@[simp] theorem sound_setHeat (p : Projector) (m : HeatMonitor) : (s.setHeat p m).sound = s.sound := rfl
@[simp] theorem arc_setHeat (p : Projector) (m : HeatMonitor) : (s.setHeat p m).arc = s.arc := rfl
@[simp] theorem shutters_setHeat (p : Projector) (m : HeatMonitor) : (s.setHeat p m).shutters = s.shutters := rfl
@[simp] theorem fire_setHeat (p : Projector) (m : HeatMonitor) : (s.setHeat p m).fire = s.fire := rfl
@[simp] theorem lights_setHeat (p : Projector) (m : HeatMonitor) : (s.setHeat p m).lights = s.lights := rfl
@[simp] theorem bus_setHeat (p : Projector) (m : HeatMonitor) : (s.setHeat p m).bus = s.bus := rfl
@[simp] theorem links_setHeat (p : Projector) (m : HeatMonitor) : (s.setHeat p m).links = s.links := rfl
@[simp] theorem routing_setHeat (p : Projector) (m : HeatMonitor) : (s.setHeat p m).routing = s.routing := rfl
@[simp] theorem par_setHeat (p : Projector) (m : HeatMonitor) : (s.setHeat p m).par = s.par := rfl
@[simp] theorem inputs_setHeat (p : Projector) (m : HeatMonitor) : (s.setHeat p m).inputs = s.inputs := rfl
@[simp] theorem motionCount_setHeat (p : Projector) (m : HeatMonitor) : (s.setHeat p m).motionCount = s.motionCount := rfl
@[simp] theorem freeCount_setHeat (p : Projector) (m : HeatMonitor) : (s.setHeat p m).freeCount = s.freeCount := rfl
@[simp] theorem pending_setHeat (p : Projector) (m : HeatMonitor) : (s.setHeat p m).pending = s.pending := rfl
@[simp] theorem chanOf_setHeat (p : Projector) (m : HeatMonitor) (q : Projector) : (s.setHeat p m).chanOf q = s.chanOf q :=
  rfl
@[simp] theorem motionOf_setHeat (p : Projector) (m : HeatMonitor) (q : Projector) : (s.setHeat p m).motionOf q = s.motionOf q :=
  rfl
@[simp] theorem arcOf_setHeat (p : Projector) (m : HeatMonitor) (q : Projector) : (s.setHeat p m).arcOf q = s.arcOf q :=
  rfl
@[simp] theorem shutterOf_setHeat (p : Projector) (m : HeatMonitor) (sh' : Shutter) : (s.setHeat p m).shutterOf sh' = s.shutterOf sh' :=
  rfl
@[simp] theorem linkOf_setHeat (p : Projector) (m : HeatMonitor) (l' : Connector) : (s.setHeat p m).linkOf l' = s.linkOf l' :=
  rfl
@[simp] theorem held_setHeat (p : Projector) (m : HeatMonitor) (q : Projector) (y : ProjParam) : (s.setHeat p m).held q y = s.held q y :=
  rfl
@[simp] theorem heldDev_setHeat (p : Projector) (m : HeatMonitor) (y : DevParam) : (s.setHeat p m).heldDev y = s.heldDev y :=
  rfl
@[simp] theorem maskOf_setHeat (p : Projector) (m : HeatMonitor) (k' : NoticeKind) : (s.setHeat p m).maskOf k' = s.maskOf k' :=
  rfl
@[simp] theorem entryAt_setHeat (p : Projector) (m : HeatMonitor) (i : Nat) : (s.setHeat p m).entryAt i = s.entryAt i :=
  rfl
@[simp] theorem entryOf_setHeat (p : Projector) (m : HeatMonitor) (q : Projector) : (s.setHeat p m).entryOf q = s.entryOf q :=
  rfl
@[simp] theorem nextEntry_setHeat (p : Projector) (m : HeatMonitor) : (s.setHeat p m).nextEntry = s.nextEntry := rfl
@[simp] theorem isNext_setHeat (p : Projector) (m : HeatMonitor) (q : Projector) : (s.setHeat p m).isNext q = s.isNext q :=
  rfl
@[simp] theorem pictureConditions_setHeat (p : Projector) (m : HeatMonitor) (q : Projector) : (s.setHeat p m).pictureConditions q = s.pictureConditions q :=
  rfl

@[simp] theorem plan_setLink (l : Connector) (k : Link) : (s.setLink l k).plan = s.plan := rfl
@[simp] theorem prog_setLink (l : Connector) (k : Link) : (s.setLink l k).prog = s.prog := rfl
@[simp] theorem motion_setLink (l : Connector) (k : Link) : (s.setLink l k).motion = s.motion := rfl
@[simp] theorem chan_setLink (l : Connector) (k : Link) : (s.setLink l k).chan = s.chan := rfl
@[simp] theorem token_setLink (l : Connector) (k : Link) : (s.setLink l k).token = s.token := rfl
@[simp] theorem sound_setLink (l : Connector) (k : Link) : (s.setLink l k).sound = s.sound := rfl
@[simp] theorem arc_setLink (l : Connector) (k : Link) : (s.setLink l k).arc = s.arc := rfl
@[simp] theorem shutters_setLink (l : Connector) (k : Link) : (s.setLink l k).shutters = s.shutters := rfl
@[simp] theorem heat_setLink (l : Connector) (k : Link) : (s.setLink l k).heat = s.heat := rfl
@[simp] theorem fire_setLink (l : Connector) (k : Link) : (s.setLink l k).fire = s.fire := rfl
@[simp] theorem lights_setLink (l : Connector) (k : Link) : (s.setLink l k).lights = s.lights := rfl
@[simp] theorem bus_setLink (l : Connector) (k : Link) : (s.setLink l k).bus = s.bus := rfl
@[simp] theorem routing_setLink (l : Connector) (k : Link) : (s.setLink l k).routing = s.routing := rfl
@[simp] theorem par_setLink (l : Connector) (k : Link) : (s.setLink l k).par = s.par := rfl
@[simp] theorem inputs_setLink (l : Connector) (k : Link) : (s.setLink l k).inputs = s.inputs := rfl
@[simp] theorem motionCount_setLink (l : Connector) (k : Link) : (s.setLink l k).motionCount = s.motionCount := rfl
@[simp] theorem freeCount_setLink (l : Connector) (k : Link) : (s.setLink l k).freeCount = s.freeCount := rfl
@[simp] theorem pending_setLink (l : Connector) (k : Link) : (s.setLink l k).pending = s.pending := rfl
@[simp] theorem chanOf_setLink (l : Connector) (k : Link) (q : Projector) : (s.setLink l k).chanOf q = s.chanOf q :=
  rfl
@[simp] theorem motionOf_setLink (l : Connector) (k : Link) (q : Projector) : (s.setLink l k).motionOf q = s.motionOf q :=
  rfl
@[simp] theorem arcOf_setLink (l : Connector) (k : Link) (q : Projector) : (s.setLink l k).arcOf q = s.arcOf q := rfl
@[simp] theorem shutterOf_setLink (l : Connector) (k : Link) (sh' : Shutter) : (s.setLink l k).shutterOf sh' = s.shutterOf sh' :=
  rfl
@[simp] theorem heatOf_setLink (l : Connector) (k : Link) (q : Projector) : (s.setLink l k).heatOf q = s.heatOf q :=
  rfl
@[simp] theorem held_setLink (l : Connector) (k : Link) (q : Projector) (y : ProjParam) : (s.setLink l k).held q y = s.held q y :=
  rfl
@[simp] theorem heldDev_setLink (l : Connector) (k : Link) (y : DevParam) : (s.setLink l k).heldDev y = s.heldDev y :=
  rfl
@[simp] theorem maskOf_setLink (l : Connector) (k : Link) (k' : NoticeKind) : (s.setLink l k).maskOf k' = s.maskOf k' :=
  rfl
@[simp] theorem entryAt_setLink (l : Connector) (k : Link) (i : Nat) : (s.setLink l k).entryAt i = s.entryAt i := rfl
@[simp] theorem entryOf_setLink (l : Connector) (k : Link) (q : Projector) : (s.setLink l k).entryOf q = s.entryOf q :=
  rfl
@[simp] theorem nextEntry_setLink (l : Connector) (k : Link) : (s.setLink l k).nextEntry = s.nextEntry := rfl
@[simp] theorem isNext_setLink (l : Connector) (k : Link) (q : Projector) : (s.setLink l k).isNext q = s.isNext q :=
  rfl
@[simp] theorem pictureConditions_setLink (l : Connector) (k : Link) (q : Projector) : (s.setLink l k).pictureConditions q = s.pictureConditions q :=
  rfl

@[simp] theorem prog_setPlan (x : Plan) : (s.setPlan x).prog = s.prog := rfl
@[simp] theorem motion_setPlan (x : Plan) : (s.setPlan x).motion = s.motion := rfl
@[simp] theorem chan_setPlan (x : Plan) : (s.setPlan x).chan = s.chan := rfl
@[simp] theorem token_setPlan (x : Plan) : (s.setPlan x).token = s.token := rfl
@[simp] theorem sound_setPlan (x : Plan) : (s.setPlan x).sound = s.sound := rfl
@[simp] theorem arc_setPlan (x : Plan) : (s.setPlan x).arc = s.arc := rfl
@[simp] theorem shutters_setPlan (x : Plan) : (s.setPlan x).shutters = s.shutters := rfl
@[simp] theorem heat_setPlan (x : Plan) : (s.setPlan x).heat = s.heat := rfl
@[simp] theorem fire_setPlan (x : Plan) : (s.setPlan x).fire = s.fire := rfl
@[simp] theorem lights_setPlan (x : Plan) : (s.setPlan x).lights = s.lights := rfl
@[simp] theorem bus_setPlan (x : Plan) : (s.setPlan x).bus = s.bus := rfl
@[simp] theorem links_setPlan (x : Plan) : (s.setPlan x).links = s.links := rfl
@[simp] theorem routing_setPlan (x : Plan) : (s.setPlan x).routing = s.routing := rfl
@[simp] theorem par_setPlan (x : Plan) : (s.setPlan x).par = s.par := rfl
@[simp] theorem inputs_setPlan (x : Plan) : (s.setPlan x).inputs = s.inputs := rfl
@[simp] theorem motionCount_setPlan (x : Plan) : (s.setPlan x).motionCount = s.motionCount := rfl
@[simp] theorem freeCount_setPlan (x : Plan) : (s.setPlan x).freeCount = s.freeCount := rfl
@[simp] theorem pending_setPlan (x : Plan) : (s.setPlan x).pending = s.pending := rfl
@[simp] theorem chanOf_setPlan (x : Plan) (q : Projector) : (s.setPlan x).chanOf q = s.chanOf q := rfl
@[simp] theorem motionOf_setPlan (x : Plan) (q : Projector) : (s.setPlan x).motionOf q = s.motionOf q := rfl
@[simp] theorem arcOf_setPlan (x : Plan) (q : Projector) : (s.setPlan x).arcOf q = s.arcOf q := rfl
@[simp] theorem shutterOf_setPlan (x : Plan) (sh' : Shutter) : (s.setPlan x).shutterOf sh' = s.shutterOf sh' := rfl
@[simp] theorem heatOf_setPlan (x : Plan) (q : Projector) : (s.setPlan x).heatOf q = s.heatOf q := rfl
@[simp] theorem linkOf_setPlan (x : Plan) (l' : Connector) : (s.setPlan x).linkOf l' = s.linkOf l' := rfl
@[simp] theorem held_setPlan (x : Plan) (q : Projector) (y : ProjParam) : (s.setPlan x).held q y = s.held q y := rfl
@[simp] theorem heldDev_setPlan (x : Plan) (y : DevParam) : (s.setPlan x).heldDev y = s.heldDev y := rfl
@[simp] theorem maskOf_setPlan (x : Plan) (k' : NoticeKind) : (s.setPlan x).maskOf k' = s.maskOf k' := rfl
@[simp] theorem pictureConditions_setPlan (x : Plan) (q : Projector) : (s.setPlan x).pictureConditions q = s.pictureConditions q :=
  rfl

@[simp] theorem plan_setProg (x : Progress) : (s.setProg x).plan = s.plan := rfl
@[simp] theorem motion_setProg (x : Progress) : (s.setProg x).motion = s.motion := rfl
@[simp] theorem chan_setProg (x : Progress) : (s.setProg x).chan = s.chan := rfl
@[simp] theorem token_setProg (x : Progress) : (s.setProg x).token = s.token := rfl
@[simp] theorem sound_setProg (x : Progress) : (s.setProg x).sound = s.sound := rfl
@[simp] theorem arc_setProg (x : Progress) : (s.setProg x).arc = s.arc := rfl
@[simp] theorem shutters_setProg (x : Progress) : (s.setProg x).shutters = s.shutters := rfl
@[simp] theorem heat_setProg (x : Progress) : (s.setProg x).heat = s.heat := rfl
@[simp] theorem fire_setProg (x : Progress) : (s.setProg x).fire = s.fire := rfl
@[simp] theorem lights_setProg (x : Progress) : (s.setProg x).lights = s.lights := rfl
@[simp] theorem bus_setProg (x : Progress) : (s.setProg x).bus = s.bus := rfl
@[simp] theorem links_setProg (x : Progress) : (s.setProg x).links = s.links := rfl
@[simp] theorem routing_setProg (x : Progress) : (s.setProg x).routing = s.routing := rfl
@[simp] theorem par_setProg (x : Progress) : (s.setProg x).par = s.par := rfl
@[simp] theorem inputs_setProg (x : Progress) : (s.setProg x).inputs = s.inputs := rfl
@[simp] theorem motionCount_setProg (x : Progress) : (s.setProg x).motionCount = s.motionCount := rfl
@[simp] theorem freeCount_setProg (x : Progress) : (s.setProg x).freeCount = s.freeCount := rfl
@[simp] theorem pending_setProg (x : Progress) : (s.setProg x).pending = s.pending := rfl
@[simp] theorem chanOf_setProg (x : Progress) (q : Projector) : (s.setProg x).chanOf q = s.chanOf q := rfl
@[simp] theorem motionOf_setProg (x : Progress) (q : Projector) : (s.setProg x).motionOf q = s.motionOf q := rfl
@[simp] theorem arcOf_setProg (x : Progress) (q : Projector) : (s.setProg x).arcOf q = s.arcOf q := rfl
@[simp] theorem shutterOf_setProg (x : Progress) (sh' : Shutter) : (s.setProg x).shutterOf sh' = s.shutterOf sh' :=
  rfl
@[simp] theorem heatOf_setProg (x : Progress) (q : Projector) : (s.setProg x).heatOf q = s.heatOf q := rfl
@[simp] theorem linkOf_setProg (x : Progress) (l' : Connector) : (s.setProg x).linkOf l' = s.linkOf l' := rfl
@[simp] theorem held_setProg (x : Progress) (q : Projector) (y : ProjParam) : (s.setProg x).held q y = s.held q y :=
  rfl
@[simp] theorem heldDev_setProg (x : Progress) (y : DevParam) : (s.setProg x).heldDev y = s.heldDev y := rfl
@[simp] theorem maskOf_setProg (x : Progress) (k' : NoticeKind) : (s.setProg x).maskOf k' = s.maskOf k' := rfl
@[simp] theorem entryAt_setProg (x : Progress) (i : Nat) : (s.setProg x).entryAt i = s.entryAt i := rfl
@[simp] theorem entryOf_setProg (x : Progress) (q : Projector) : (s.setProg x).entryOf q = s.entryOf q := rfl
@[simp] theorem pictureConditions_setProg (x : Progress) (q : Projector) : (s.setProg x).pictureConditions q = s.pictureConditions q :=
  rfl

@[simp] theorem plan_setFire (x : FireRec) : (s.setFire x).plan = s.plan := rfl
@[simp] theorem prog_setFire (x : FireRec) : (s.setFire x).prog = s.prog := rfl
@[simp] theorem motion_setFire (x : FireRec) : (s.setFire x).motion = s.motion := rfl
@[simp] theorem chan_setFire (x : FireRec) : (s.setFire x).chan = s.chan := rfl
@[simp] theorem token_setFire (x : FireRec) : (s.setFire x).token = s.token := rfl
@[simp] theorem sound_setFire (x : FireRec) : (s.setFire x).sound = s.sound := rfl
@[simp] theorem arc_setFire (x : FireRec) : (s.setFire x).arc = s.arc := rfl
@[simp] theorem shutters_setFire (x : FireRec) : (s.setFire x).shutters = s.shutters := rfl
@[simp] theorem heat_setFire (x : FireRec) : (s.setFire x).heat = s.heat := rfl
@[simp] theorem lights_setFire (x : FireRec) : (s.setFire x).lights = s.lights := rfl
@[simp] theorem bus_setFire (x : FireRec) : (s.setFire x).bus = s.bus := rfl
@[simp] theorem links_setFire (x : FireRec) : (s.setFire x).links = s.links := rfl
@[simp] theorem routing_setFire (x : FireRec) : (s.setFire x).routing = s.routing := rfl
@[simp] theorem par_setFire (x : FireRec) : (s.setFire x).par = s.par := rfl
@[simp] theorem inputs_setFire (x : FireRec) : (s.setFire x).inputs = s.inputs := rfl
@[simp] theorem motionCount_setFire (x : FireRec) : (s.setFire x).motionCount = s.motionCount := rfl
@[simp] theorem freeCount_setFire (x : FireRec) : (s.setFire x).freeCount = s.freeCount := rfl
@[simp] theorem pending_setFire (x : FireRec) : (s.setFire x).pending = s.pending := rfl
@[simp] theorem chanOf_setFire (x : FireRec) (q : Projector) : (s.setFire x).chanOf q = s.chanOf q := rfl
@[simp] theorem motionOf_setFire (x : FireRec) (q : Projector) : (s.setFire x).motionOf q = s.motionOf q := rfl
@[simp] theorem arcOf_setFire (x : FireRec) (q : Projector) : (s.setFire x).arcOf q = s.arcOf q := rfl
@[simp] theorem shutterOf_setFire (x : FireRec) (sh' : Shutter) : (s.setFire x).shutterOf sh' = s.shutterOf sh' := rfl
@[simp] theorem heatOf_setFire (x : FireRec) (q : Projector) : (s.setFire x).heatOf q = s.heatOf q := rfl
@[simp] theorem linkOf_setFire (x : FireRec) (l' : Connector) : (s.setFire x).linkOf l' = s.linkOf l' := rfl
@[simp] theorem held_setFire (x : FireRec) (q : Projector) (y : ProjParam) : (s.setFire x).held q y = s.held q y :=
  rfl
@[simp] theorem heldDev_setFire (x : FireRec) (y : DevParam) : (s.setFire x).heldDev y = s.heldDev y := rfl
@[simp] theorem maskOf_setFire (x : FireRec) (k' : NoticeKind) : (s.setFire x).maskOf k' = s.maskOf k' := rfl
@[simp] theorem entryAt_setFire (x : FireRec) (i : Nat) : (s.setFire x).entryAt i = s.entryAt i := rfl
@[simp] theorem entryOf_setFire (x : FireRec) (q : Projector) : (s.setFire x).entryOf q = s.entryOf q := rfl
@[simp] theorem nextEntry_setFire (x : FireRec) : (s.setFire x).nextEntry = s.nextEntry := rfl
@[simp] theorem isNext_setFire (x : FireRec) (q : Projector) : (s.setFire x).isNext q = s.isNext q := rfl

@[simp] theorem plan_setLights (x : Lighting) : (s.setLights x).plan = s.plan := rfl
@[simp] theorem prog_setLights (x : Lighting) : (s.setLights x).prog = s.prog := rfl
@[simp] theorem motion_setLights (x : Lighting) : (s.setLights x).motion = s.motion := rfl
@[simp] theorem chan_setLights (x : Lighting) : (s.setLights x).chan = s.chan := rfl
@[simp] theorem token_setLights (x : Lighting) : (s.setLights x).token = s.token := rfl
@[simp] theorem sound_setLights (x : Lighting) : (s.setLights x).sound = s.sound := rfl
@[simp] theorem arc_setLights (x : Lighting) : (s.setLights x).arc = s.arc := rfl
@[simp] theorem shutters_setLights (x : Lighting) : (s.setLights x).shutters = s.shutters := rfl
@[simp] theorem heat_setLights (x : Lighting) : (s.setLights x).heat = s.heat := rfl
@[simp] theorem fire_setLights (x : Lighting) : (s.setLights x).fire = s.fire := rfl
@[simp] theorem bus_setLights (x : Lighting) : (s.setLights x).bus = s.bus := rfl
@[simp] theorem links_setLights (x : Lighting) : (s.setLights x).links = s.links := rfl
@[simp] theorem routing_setLights (x : Lighting) : (s.setLights x).routing = s.routing := rfl
@[simp] theorem par_setLights (x : Lighting) : (s.setLights x).par = s.par := rfl
@[simp] theorem inputs_setLights (x : Lighting) : (s.setLights x).inputs = s.inputs := rfl
@[simp] theorem motionCount_setLights (x : Lighting) : (s.setLights x).motionCount = s.motionCount := rfl
@[simp] theorem freeCount_setLights (x : Lighting) : (s.setLights x).freeCount = s.freeCount := rfl
@[simp] theorem pending_setLights (x : Lighting) : (s.setLights x).pending = s.pending := rfl
@[simp] theorem chanOf_setLights (x : Lighting) (q : Projector) : (s.setLights x).chanOf q = s.chanOf q := rfl
@[simp] theorem motionOf_setLights (x : Lighting) (q : Projector) : (s.setLights x).motionOf q = s.motionOf q := rfl
@[simp] theorem arcOf_setLights (x : Lighting) (q : Projector) : (s.setLights x).arcOf q = s.arcOf q := rfl
@[simp] theorem shutterOf_setLights (x : Lighting) (sh' : Shutter) : (s.setLights x).shutterOf sh' = s.shutterOf sh' :=
  rfl
@[simp] theorem heatOf_setLights (x : Lighting) (q : Projector) : (s.setLights x).heatOf q = s.heatOf q := rfl
@[simp] theorem linkOf_setLights (x : Lighting) (l' : Connector) : (s.setLights x).linkOf l' = s.linkOf l' := rfl
@[simp] theorem held_setLights (x : Lighting) (q : Projector) (y : ProjParam) : (s.setLights x).held q y = s.held q y :=
  rfl
@[simp] theorem heldDev_setLights (x : Lighting) (y : DevParam) : (s.setLights x).heldDev y = s.heldDev y := rfl
@[simp] theorem maskOf_setLights (x : Lighting) (k' : NoticeKind) : (s.setLights x).maskOf k' = s.maskOf k' := rfl
@[simp] theorem entryAt_setLights (x : Lighting) (i : Nat) : (s.setLights x).entryAt i = s.entryAt i := rfl
@[simp] theorem entryOf_setLights (x : Lighting) (q : Projector) : (s.setLights x).entryOf q = s.entryOf q := rfl
@[simp] theorem nextEntry_setLights (x : Lighting) : (s.setLights x).nextEntry = s.nextEntry := rfl
@[simp] theorem isNext_setLights (x : Lighting) (q : Projector) : (s.setLights x).isNext q = s.isNext q := rfl
@[simp] theorem pictureConditions_setLights (x : Lighting) (q : Projector) : (s.setLights x).pictureConditions q = s.pictureConditions q :=
  rfl

@[simp] theorem plan_setBus (x : Bus) : (s.setBus x).plan = s.plan := rfl
@[simp] theorem prog_setBus (x : Bus) : (s.setBus x).prog = s.prog := rfl
@[simp] theorem motion_setBus (x : Bus) : (s.setBus x).motion = s.motion := rfl
@[simp] theorem chan_setBus (x : Bus) : (s.setBus x).chan = s.chan := rfl
@[simp] theorem token_setBus (x : Bus) : (s.setBus x).token = s.token := rfl
@[simp] theorem sound_setBus (x : Bus) : (s.setBus x).sound = s.sound := rfl
@[simp] theorem arc_setBus (x : Bus) : (s.setBus x).arc = s.arc := rfl
@[simp] theorem shutters_setBus (x : Bus) : (s.setBus x).shutters = s.shutters := rfl
@[simp] theorem heat_setBus (x : Bus) : (s.setBus x).heat = s.heat := rfl
@[simp] theorem fire_setBus (x : Bus) : (s.setBus x).fire = s.fire := rfl
@[simp] theorem lights_setBus (x : Bus) : (s.setBus x).lights = s.lights := rfl
@[simp] theorem links_setBus (x : Bus) : (s.setBus x).links = s.links := rfl
@[simp] theorem routing_setBus (x : Bus) : (s.setBus x).routing = s.routing := rfl
@[simp] theorem par_setBus (x : Bus) : (s.setBus x).par = s.par := rfl
@[simp] theorem inputs_setBus (x : Bus) : (s.setBus x).inputs = s.inputs := rfl
@[simp] theorem motionCount_setBus (x : Bus) : (s.setBus x).motionCount = s.motionCount := rfl
@[simp] theorem freeCount_setBus (x : Bus) : (s.setBus x).freeCount = s.freeCount := rfl
@[simp] theorem pending_setBus (x : Bus) : (s.setBus x).pending = s.pending := rfl
@[simp] theorem chanOf_setBus (x : Bus) (q : Projector) : (s.setBus x).chanOf q = s.chanOf q := rfl
@[simp] theorem motionOf_setBus (x : Bus) (q : Projector) : (s.setBus x).motionOf q = s.motionOf q := rfl
@[simp] theorem arcOf_setBus (x : Bus) (q : Projector) : (s.setBus x).arcOf q = s.arcOf q := rfl
@[simp] theorem shutterOf_setBus (x : Bus) (sh' : Shutter) : (s.setBus x).shutterOf sh' = s.shutterOf sh' := rfl
@[simp] theorem heatOf_setBus (x : Bus) (q : Projector) : (s.setBus x).heatOf q = s.heatOf q := rfl
@[simp] theorem linkOf_setBus (x : Bus) (l' : Connector) : (s.setBus x).linkOf l' = s.linkOf l' := rfl
@[simp] theorem held_setBus (x : Bus) (q : Projector) (y : ProjParam) : (s.setBus x).held q y = s.held q y := rfl
@[simp] theorem heldDev_setBus (x : Bus) (y : DevParam) : (s.setBus x).heldDev y = s.heldDev y := rfl
@[simp] theorem maskOf_setBus (x : Bus) (k' : NoticeKind) : (s.setBus x).maskOf k' = s.maskOf k' := rfl
@[simp] theorem entryAt_setBus (x : Bus) (i : Nat) : (s.setBus x).entryAt i = s.entryAt i := rfl
@[simp] theorem entryOf_setBus (x : Bus) (q : Projector) : (s.setBus x).entryOf q = s.entryOf q := rfl
@[simp] theorem nextEntry_setBus (x : Bus) : (s.setBus x).nextEntry = s.nextEntry := rfl
@[simp] theorem isNext_setBus (x : Bus) (q : Projector) : (s.setBus x).isNext q = s.isNext q := rfl
@[simp] theorem pictureConditions_setBus (x : Bus) (q : Projector) : (s.setBus x).pictureConditions q = s.pictureConditions q :=
  rfl

@[simp] theorem plan_setPar (x : Params) : (s.setPar x).plan = s.plan := rfl
@[simp] theorem prog_setPar (x : Params) : (s.setPar x).prog = s.prog := rfl
@[simp] theorem motion_setPar (x : Params) : (s.setPar x).motion = s.motion := rfl
@[simp] theorem chan_setPar (x : Params) : (s.setPar x).chan = s.chan := rfl
@[simp] theorem token_setPar (x : Params) : (s.setPar x).token = s.token := rfl
@[simp] theorem sound_setPar (x : Params) : (s.setPar x).sound = s.sound := rfl
@[simp] theorem arc_setPar (x : Params) : (s.setPar x).arc = s.arc := rfl
@[simp] theorem shutters_setPar (x : Params) : (s.setPar x).shutters = s.shutters := rfl
@[simp] theorem heat_setPar (x : Params) : (s.setPar x).heat = s.heat := rfl
@[simp] theorem fire_setPar (x : Params) : (s.setPar x).fire = s.fire := rfl
@[simp] theorem lights_setPar (x : Params) : (s.setPar x).lights = s.lights := rfl
@[simp] theorem bus_setPar (x : Params) : (s.setPar x).bus = s.bus := rfl
@[simp] theorem links_setPar (x : Params) : (s.setPar x).links = s.links := rfl
@[simp] theorem routing_setPar (x : Params) : (s.setPar x).routing = s.routing := rfl
@[simp] theorem inputs_setPar (x : Params) : (s.setPar x).inputs = s.inputs := rfl
@[simp] theorem motionCount_setPar (x : Params) : (s.setPar x).motionCount = s.motionCount := rfl
@[simp] theorem freeCount_setPar (x : Params) : (s.setPar x).freeCount = s.freeCount := rfl
@[simp] theorem pending_setPar (x : Params) : (s.setPar x).pending = s.pending := rfl
@[simp] theorem chanOf_setPar (x : Params) (q : Projector) : (s.setPar x).chanOf q = s.chanOf q := rfl
@[simp] theorem motionOf_setPar (x : Params) (q : Projector) : (s.setPar x).motionOf q = s.motionOf q := rfl
@[simp] theorem arcOf_setPar (x : Params) (q : Projector) : (s.setPar x).arcOf q = s.arcOf q := rfl
@[simp] theorem shutterOf_setPar (x : Params) (sh' : Shutter) : (s.setPar x).shutterOf sh' = s.shutterOf sh' := rfl
@[simp] theorem heatOf_setPar (x : Params) (q : Projector) : (s.setPar x).heatOf q = s.heatOf q := rfl
@[simp] theorem linkOf_setPar (x : Params) (l' : Connector) : (s.setPar x).linkOf l' = s.linkOf l' := rfl
@[simp] theorem maskOf_setPar (x : Params) (k' : NoticeKind) : (s.setPar x).maskOf k' = s.maskOf k' := rfl
@[simp] theorem entryAt_setPar (x : Params) (i : Nat) : (s.setPar x).entryAt i = s.entryAt i := rfl
@[simp] theorem entryOf_setPar (x : Params) (q : Projector) : (s.setPar x).entryOf q = s.entryOf q := rfl
@[simp] theorem nextEntry_setPar (x : Params) : (s.setPar x).nextEntry = s.nextEntry := rfl
@[simp] theorem isNext_setPar (x : Params) (q : Projector) : (s.setPar x).isNext q = s.isNext q := rfl
@[simp] theorem pictureConditions_setPar (x : Params) (q : Projector) : (s.setPar x).pictureConditions q = s.pictureConditions q :=
  rfl

@[simp] theorem plan_setInputs (x : Inputs) : (s.setInputs x).plan = s.plan := rfl
@[simp] theorem prog_setInputs (x : Inputs) : (s.setInputs x).prog = s.prog := rfl
@[simp] theorem motion_setInputs (x : Inputs) : (s.setInputs x).motion = s.motion := rfl
@[simp] theorem chan_setInputs (x : Inputs) : (s.setInputs x).chan = s.chan := rfl
@[simp] theorem token_setInputs (x : Inputs) : (s.setInputs x).token = s.token := rfl
@[simp] theorem sound_setInputs (x : Inputs) : (s.setInputs x).sound = s.sound := rfl
@[simp] theorem arc_setInputs (x : Inputs) : (s.setInputs x).arc = s.arc := rfl
@[simp] theorem shutters_setInputs (x : Inputs) : (s.setInputs x).shutters = s.shutters := rfl
@[simp] theorem heat_setInputs (x : Inputs) : (s.setInputs x).heat = s.heat := rfl
@[simp] theorem fire_setInputs (x : Inputs) : (s.setInputs x).fire = s.fire := rfl
@[simp] theorem lights_setInputs (x : Inputs) : (s.setInputs x).lights = s.lights := rfl
@[simp] theorem bus_setInputs (x : Inputs) : (s.setInputs x).bus = s.bus := rfl
@[simp] theorem links_setInputs (x : Inputs) : (s.setInputs x).links = s.links := rfl
@[simp] theorem routing_setInputs (x : Inputs) : (s.setInputs x).routing = s.routing := rfl
@[simp] theorem par_setInputs (x : Inputs) : (s.setInputs x).par = s.par := rfl
@[simp] theorem motionCount_setInputs (x : Inputs) : (s.setInputs x).motionCount = s.motionCount := rfl
@[simp] theorem freeCount_setInputs (x : Inputs) : (s.setInputs x).freeCount = s.freeCount := rfl
@[simp] theorem pending_setInputs (x : Inputs) : (s.setInputs x).pending = s.pending := rfl
@[simp] theorem chanOf_setInputs (x : Inputs) (q : Projector) : (s.setInputs x).chanOf q = s.chanOf q := rfl
@[simp] theorem motionOf_setInputs (x : Inputs) (q : Projector) : (s.setInputs x).motionOf q = s.motionOf q := rfl
@[simp] theorem arcOf_setInputs (x : Inputs) (q : Projector) : (s.setInputs x).arcOf q = s.arcOf q := rfl
@[simp] theorem shutterOf_setInputs (x : Inputs) (sh' : Shutter) : (s.setInputs x).shutterOf sh' = s.shutterOf sh' :=
  rfl
@[simp] theorem heatOf_setInputs (x : Inputs) (q : Projector) : (s.setInputs x).heatOf q = s.heatOf q := rfl
@[simp] theorem linkOf_setInputs (x : Inputs) (l' : Connector) : (s.setInputs x).linkOf l' = s.linkOf l' := rfl
@[simp] theorem held_setInputs (x : Inputs) (q : Projector) (y : ProjParam) : (s.setInputs x).held q y = s.held q y :=
  rfl
@[simp] theorem heldDev_setInputs (x : Inputs) (y : DevParam) : (s.setInputs x).heldDev y = s.heldDev y := rfl
@[simp] theorem maskOf_setInputs (x : Inputs) (k' : NoticeKind) : (s.setInputs x).maskOf k' = s.maskOf k' := rfl
@[simp] theorem entryAt_setInputs (x : Inputs) (i : Nat) : (s.setInputs x).entryAt i = s.entryAt i := rfl
@[simp] theorem entryOf_setInputs (x : Inputs) (q : Projector) : (s.setInputs x).entryOf q = s.entryOf q := rfl
@[simp] theorem nextEntry_setInputs (x : Inputs) : (s.setInputs x).nextEntry = s.nextEntry := rfl
@[simp] theorem isNext_setInputs (x : Inputs) (q : Projector) : (s.setInputs x).isNext q = s.isNext q := rfl
@[simp] theorem pictureConditions_setInputs (x : Inputs) (q : Projector) : (s.setInputs x).pictureConditions q = s.pictureConditions q :=
  rfl

@[simp] theorem plan_setToken (x : Option Projector) : (s.setToken x).plan = s.plan := rfl
@[simp] theorem prog_setToken (x : Option Projector) : (s.setToken x).prog = s.prog := rfl
@[simp] theorem motion_setToken (x : Option Projector) : (s.setToken x).motion = s.motion := rfl
@[simp] theorem chan_setToken (x : Option Projector) : (s.setToken x).chan = s.chan := rfl
@[simp] theorem arc_setToken (x : Option Projector) : (s.setToken x).arc = s.arc := rfl
@[simp] theorem shutters_setToken (x : Option Projector) : (s.setToken x).shutters = s.shutters := rfl
@[simp] theorem heat_setToken (x : Option Projector) : (s.setToken x).heat = s.heat := rfl
@[simp] theorem fire_setToken (x : Option Projector) : (s.setToken x).fire = s.fire := rfl
@[simp] theorem lights_setToken (x : Option Projector) : (s.setToken x).lights = s.lights := rfl
@[simp] theorem bus_setToken (x : Option Projector) : (s.setToken x).bus = s.bus := rfl
@[simp] theorem links_setToken (x : Option Projector) : (s.setToken x).links = s.links := rfl
@[simp] theorem routing_setToken (x : Option Projector) : (s.setToken x).routing = s.routing := rfl
@[simp] theorem par_setToken (x : Option Projector) : (s.setToken x).par = s.par := rfl
@[simp] theorem inputs_setToken (x : Option Projector) : (s.setToken x).inputs = s.inputs := rfl
@[simp] theorem motionCount_setToken (x : Option Projector) : (s.setToken x).motionCount = s.motionCount := rfl
@[simp] theorem freeCount_setToken (x : Option Projector) : (s.setToken x).freeCount = s.freeCount := rfl
@[simp] theorem pending_setToken (x : Option Projector) : (s.setToken x).pending = s.pending := rfl
@[simp] theorem chanOf_setToken (x : Option Projector) (q : Projector) : (s.setToken x).chanOf q = s.chanOf q := rfl
@[simp] theorem motionOf_setToken (x : Option Projector) (q : Projector) : (s.setToken x).motionOf q = s.motionOf q :=
  rfl
@[simp] theorem arcOf_setToken (x : Option Projector) (q : Projector) : (s.setToken x).arcOf q = s.arcOf q := rfl
@[simp] theorem shutterOf_setToken (x : Option Projector) (sh' : Shutter) : (s.setToken x).shutterOf sh' = s.shutterOf sh' :=
  rfl
@[simp] theorem heatOf_setToken (x : Option Projector) (q : Projector) : (s.setToken x).heatOf q = s.heatOf q := rfl
@[simp] theorem linkOf_setToken (x : Option Projector) (l' : Connector) : (s.setToken x).linkOf l' = s.linkOf l' :=
  rfl
@[simp] theorem held_setToken (x : Option Projector) (q : Projector) (y : ProjParam) : (s.setToken x).held q y = s.held q y :=
  rfl
@[simp] theorem heldDev_setToken (x : Option Projector) (y : DevParam) : (s.setToken x).heldDev y = s.heldDev y := rfl
@[simp] theorem maskOf_setToken (x : Option Projector) (k' : NoticeKind) : (s.setToken x).maskOf k' = s.maskOf k' :=
  rfl
@[simp] theorem entryAt_setToken (x : Option Projector) (i : Nat) : (s.setToken x).entryAt i = s.entryAt i := rfl
@[simp] theorem entryOf_setToken (x : Option Projector) (q : Projector) : (s.setToken x).entryOf q = s.entryOf q :=
  rfl
@[simp] theorem nextEntry_setToken (x : Option Projector) : (s.setToken x).nextEntry = s.nextEntry := rfl
@[simp] theorem isNext_setToken (x : Option Projector) (q : Projector) : (s.setToken x).isNext q = s.isNext q := rfl
@[simp] theorem pictureConditions_setToken (x : Option Projector) (q : Projector) : (s.setToken x).pictureConditions q = s.pictureConditions q :=
  rfl

@[simp] theorem plan_passTo (n : Nat) : (s.passTo n).plan = s.plan := rfl
@[simp] theorem prog_passTo (n : Nat) : (s.passTo n).prog = s.prog := rfl
@[simp] theorem motion_passTo (n : Nat) : (s.passTo n).motion = s.motion := rfl
@[simp] theorem chan_passTo (n : Nat) : (s.passTo n).chan = s.chan := rfl
@[simp] theorem token_passTo (n : Nat) : (s.passTo n).token = s.token := rfl
@[simp] theorem sound_passTo (n : Nat) : (s.passTo n).sound = s.sound := rfl
@[simp] theorem arc_passTo (n : Nat) : (s.passTo n).arc = s.arc := rfl
@[simp] theorem shutters_passTo (n : Nat) : (s.passTo n).shutters = s.shutters := rfl
@[simp] theorem heat_passTo (n : Nat) : (s.passTo n).heat = s.heat := rfl
@[simp] theorem fire_passTo (n : Nat) : (s.passTo n).fire = s.fire := rfl
@[simp] theorem lights_passTo (n : Nat) : (s.passTo n).lights = s.lights := rfl
@[simp] theorem bus_passTo (n : Nat) : (s.passTo n).bus = s.bus := rfl
@[simp] theorem links_passTo (n : Nat) : (s.passTo n).links = s.links := rfl
@[simp] theorem routing_passTo (n : Nat) : (s.passTo n).routing = s.routing := rfl
@[simp] theorem par_passTo (n : Nat) : (s.passTo n).par = s.par := rfl
@[simp] theorem inputs_passTo (n : Nat) : (s.passTo n).inputs = s.inputs := rfl
@[simp] theorem freeCount_passTo (n : Nat) : (s.passTo n).freeCount = s.freeCount := rfl
@[simp] theorem pending_passTo (n : Nat) : (s.passTo n).pending = s.pending := rfl
@[simp] theorem chanOf_passTo (n : Nat) (q : Projector) : (s.passTo n).chanOf q = s.chanOf q := rfl
@[simp] theorem motionOf_passTo (n : Nat) (q : Projector) : (s.passTo n).motionOf q = s.motionOf q := rfl
@[simp] theorem arcOf_passTo (n : Nat) (q : Projector) : (s.passTo n).arcOf q = s.arcOf q := rfl
@[simp] theorem shutterOf_passTo (n : Nat) (sh' : Shutter) : (s.passTo n).shutterOf sh' = s.shutterOf sh' := rfl
@[simp] theorem heatOf_passTo (n : Nat) (q : Projector) : (s.passTo n).heatOf q = s.heatOf q := rfl
@[simp] theorem linkOf_passTo (n : Nat) (l' : Connector) : (s.passTo n).linkOf l' = s.linkOf l' := rfl
@[simp] theorem held_passTo (n : Nat) (q : Projector) (y : ProjParam) : (s.passTo n).held q y = s.held q y := rfl
@[simp] theorem heldDev_passTo (n : Nat) (y : DevParam) : (s.passTo n).heldDev y = s.heldDev y := rfl
@[simp] theorem maskOf_passTo (n : Nat) (k' : NoticeKind) : (s.passTo n).maskOf k' = s.maskOf k' := rfl
@[simp] theorem entryAt_passTo (n : Nat) (i : Nat) : (s.passTo n).entryAt i = s.entryAt i := rfl
@[simp] theorem entryOf_passTo (n : Nat) (q : Projector) : (s.passTo n).entryOf q = s.entryOf q := rfl
@[simp] theorem nextEntry_passTo (n : Nat) : (s.passTo n).nextEntry = s.nextEntry := rfl
@[simp] theorem isNext_passTo (n : Nat) (q : Projector) : (s.passTo n).isNext q = s.isNext q := rfl
@[simp] theorem pictureConditions_passTo (n : Nat) (q : Projector) : (s.passTo n).pictureConditions q = s.pictureConditions q :=
  rfl

@[simp] theorem plan_freeUsed : (s.freeUsed).plan = s.plan := rfl
@[simp] theorem prog_freeUsed : (s.freeUsed).prog = s.prog := rfl
@[simp] theorem motion_freeUsed : (s.freeUsed).motion = s.motion := rfl
@[simp] theorem chan_freeUsed : (s.freeUsed).chan = s.chan := rfl
@[simp] theorem token_freeUsed : (s.freeUsed).token = s.token := rfl
@[simp] theorem sound_freeUsed : (s.freeUsed).sound = s.sound := rfl
@[simp] theorem arc_freeUsed : (s.freeUsed).arc = s.arc := rfl
@[simp] theorem shutters_freeUsed : (s.freeUsed).shutters = s.shutters := rfl
@[simp] theorem heat_freeUsed : (s.freeUsed).heat = s.heat := rfl
@[simp] theorem fire_freeUsed : (s.freeUsed).fire = s.fire := rfl
@[simp] theorem lights_freeUsed : (s.freeUsed).lights = s.lights := rfl
@[simp] theorem bus_freeUsed : (s.freeUsed).bus = s.bus := rfl
@[simp] theorem links_freeUsed : (s.freeUsed).links = s.links := rfl
@[simp] theorem routing_freeUsed : (s.freeUsed).routing = s.routing := rfl
@[simp] theorem par_freeUsed : (s.freeUsed).par = s.par := rfl
@[simp] theorem inputs_freeUsed : (s.freeUsed).inputs = s.inputs := rfl
@[simp] theorem motionCount_freeUsed : (s.freeUsed).motionCount = s.motionCount := rfl
@[simp] theorem pending_freeUsed : (s.freeUsed).pending = s.pending := rfl
@[simp] theorem chanOf_freeUsed (q : Projector) : (s.freeUsed).chanOf q = s.chanOf q := rfl
@[simp] theorem motionOf_freeUsed (q : Projector) : (s.freeUsed).motionOf q = s.motionOf q := rfl
@[simp] theorem arcOf_freeUsed (q : Projector) : (s.freeUsed).arcOf q = s.arcOf q := rfl
@[simp] theorem shutterOf_freeUsed (sh' : Shutter) : (s.freeUsed).shutterOf sh' = s.shutterOf sh' := rfl
@[simp] theorem heatOf_freeUsed (q : Projector) : (s.freeUsed).heatOf q = s.heatOf q := rfl
@[simp] theorem linkOf_freeUsed (l' : Connector) : (s.freeUsed).linkOf l' = s.linkOf l' := rfl
@[simp] theorem held_freeUsed (q : Projector) (y : ProjParam) : (s.freeUsed).held q y = s.held q y := rfl
@[simp] theorem heldDev_freeUsed (y : DevParam) : (s.freeUsed).heldDev y = s.heldDev y := rfl
@[simp] theorem maskOf_freeUsed (k' : NoticeKind) : (s.freeUsed).maskOf k' = s.maskOf k' := rfl
@[simp] theorem entryAt_freeUsed (i : Nat) : (s.freeUsed).entryAt i = s.entryAt i := rfl
@[simp] theorem entryOf_freeUsed (q : Projector) : (s.freeUsed).entryOf q = s.entryOf q := rfl
@[simp] theorem nextEntry_freeUsed : (s.freeUsed).nextEntry = s.nextEntry := rfl
@[simp] theorem isNext_freeUsed (q : Projector) : (s.freeUsed).isNext q = s.isNext q := rfl
@[simp] theorem pictureConditions_freeUsed (q : Projector) : (s.freeUsed).pictureConditions q = s.pictureConditions q :=
  rfl

@[simp] theorem plan_setMask (k : NoticeKind) (mask : BitVec 3) : (s.setMask k mask).plan = s.plan := rfl
@[simp] theorem prog_setMask (k : NoticeKind) (mask : BitVec 3) : (s.setMask k mask).prog = s.prog := rfl
@[simp] theorem motion_setMask (k : NoticeKind) (mask : BitVec 3) : (s.setMask k mask).motion = s.motion := rfl
@[simp] theorem chan_setMask (k : NoticeKind) (mask : BitVec 3) : (s.setMask k mask).chan = s.chan := rfl
@[simp] theorem token_setMask (k : NoticeKind) (mask : BitVec 3) : (s.setMask k mask).token = s.token := rfl
@[simp] theorem sound_setMask (k : NoticeKind) (mask : BitVec 3) : (s.setMask k mask).sound = s.sound := rfl
@[simp] theorem arc_setMask (k : NoticeKind) (mask : BitVec 3) : (s.setMask k mask).arc = s.arc := rfl
@[simp] theorem shutters_setMask (k : NoticeKind) (mask : BitVec 3) : (s.setMask k mask).shutters = s.shutters := rfl
@[simp] theorem heat_setMask (k : NoticeKind) (mask : BitVec 3) : (s.setMask k mask).heat = s.heat := rfl
@[simp] theorem fire_setMask (k : NoticeKind) (mask : BitVec 3) : (s.setMask k mask).fire = s.fire := rfl
@[simp] theorem lights_setMask (k : NoticeKind) (mask : BitVec 3) : (s.setMask k mask).lights = s.lights := rfl
@[simp] theorem bus_setMask (k : NoticeKind) (mask : BitVec 3) : (s.setMask k mask).bus = s.bus := rfl
@[simp] theorem links_setMask (k : NoticeKind) (mask : BitVec 3) : (s.setMask k mask).links = s.links := rfl
@[simp] theorem par_setMask (k : NoticeKind) (mask : BitVec 3) : (s.setMask k mask).par = s.par := rfl
@[simp] theorem inputs_setMask (k : NoticeKind) (mask : BitVec 3) : (s.setMask k mask).inputs = s.inputs := rfl
@[simp] theorem motionCount_setMask (k : NoticeKind) (mask : BitVec 3) : (s.setMask k mask).motionCount = s.motionCount := rfl
@[simp] theorem freeCount_setMask (k : NoticeKind) (mask : BitVec 3) : (s.setMask k mask).freeCount = s.freeCount := rfl
@[simp] theorem pending_setMask (k : NoticeKind) (mask : BitVec 3) : (s.setMask k mask).pending = s.pending := rfl
@[simp] theorem chanOf_setMask (k : NoticeKind) (mask : BitVec 3) (q : Projector) : (s.setMask k mask).chanOf q = s.chanOf q :=
  rfl
@[simp] theorem motionOf_setMask (k : NoticeKind) (mask : BitVec 3) (q : Projector) : (s.setMask k mask).motionOf q = s.motionOf q :=
  rfl
@[simp] theorem arcOf_setMask (k : NoticeKind) (mask : BitVec 3) (q : Projector) : (s.setMask k mask).arcOf q = s.arcOf q :=
  rfl
@[simp] theorem shutterOf_setMask (k : NoticeKind) (mask : BitVec 3) (sh' : Shutter) : (s.setMask k mask).shutterOf sh' = s.shutterOf sh' :=
  rfl
@[simp] theorem heatOf_setMask (k : NoticeKind) (mask : BitVec 3) (q : Projector) : (s.setMask k mask).heatOf q = s.heatOf q :=
  rfl
@[simp] theorem linkOf_setMask (k : NoticeKind) (mask : BitVec 3) (l' : Connector) : (s.setMask k mask).linkOf l' = s.linkOf l' :=
  rfl
@[simp] theorem held_setMask (k : NoticeKind) (mask : BitVec 3) (q : Projector) (y : ProjParam) : (s.setMask k mask).held q y = s.held q y :=
  rfl
@[simp] theorem heldDev_setMask (k : NoticeKind) (mask : BitVec 3) (y : DevParam) : (s.setMask k mask).heldDev y = s.heldDev y :=
  rfl
@[simp] theorem entryAt_setMask (k : NoticeKind) (mask : BitVec 3) (i : Nat) : (s.setMask k mask).entryAt i = s.entryAt i :=
  rfl
@[simp] theorem entryOf_setMask (k : NoticeKind) (mask : BitVec 3) (q : Projector) : (s.setMask k mask).entryOf q = s.entryOf q :=
  rfl
@[simp] theorem nextEntry_setMask (k : NoticeKind) (mask : BitVec 3) : (s.setMask k mask).nextEntry = s.nextEntry :=
  rfl
@[simp] theorem isNext_setMask (k : NoticeKind) (mask : BitVec 3) (q : Projector) : (s.setMask k mask).isNext q = s.isNext q :=
  rfl
@[simp] theorem pictureConditions_setMask (k : NoticeKind) (mask : BitVec 3) (q : Projector) : (s.setMask k mask).pictureConditions q = s.pictureConditions q :=
  rfl

/-! ### The updates by a function are the updates by its value -/

@[simp] theorem modChan_eq (p : Projector) (f : Channel → Channel) : s.modChan p f = s.setChan p (f (s.chanOf p)) := rfl
@[simp] theorem modMotion_eq (p : Projector) (f : Motion → Motion) :
    s.modMotion p f = s.setMotion p (f (s.motionOf p)) := rfl
@[simp] theorem modArc_eq (p : Projector) (f : Arc → Arc) : s.modArc p f = s.setArc p (f (s.arcOf p)) := rfl
@[simp] theorem modHeat_eq (p : Projector) (f : HeatMonitor → HeatMonitor) :
    s.modHeat p f = s.setHeat p (f (s.heatOf p)) := rfl
@[simp] theorem modBus_eq (f : Bus → Bus) : s.modBus f = s.setBus (f s.bus) := rfl
@[simp] theorem modLink_eq (l : Connector) (f : Link → Link) : s.modLink l f = s.setLink l (f (s.linkOf l)) := rfl

end State

end Machine

end Sys2Proof

namespace Sys2Proof.Machine

/-! ### Parameter records in range (R184) -/

theorem ParamRec.within_promoted {r : ParamRec} {row : ParamSpec} (h : r.within row) : r.promoted.within row := by
  obtain ⟨held, pending⟩ := r
  cases pending <;> simp_all [ParamRec.within, ParamRec.promoted, ParamRec.effective]

theorem ParamRec.within_placed {r : ParamRec} {row : ParamSpec} {v : Nat} (h : r.within row)
    (low : row.low ≤ v) (high : v ≤ row.high) (waits : row.point ≠ .immediate) : (r.placed v).within row := by
  unfold ParamRec.placed
  split
  · exact h
  · split <;> simp_all [ParamRec.within]

theorem ParamRec.within_taken {r : ParamRec} {row : ParamSpec} {v : Nat} (h : r.within row)
    (low : row.low ≤ v) (high : v ≤ row.high) : (r.taken row.point v).within row := by
  cases hp : row.point
  · simpa [ParamRec.within, ParamRec.taken] using ⟨⟨low, high⟩, h.2⟩
  all_goals exact ParamRec.within_placed h low high (by simp [hp])

end Sys2Proof.Machine
end

