-- ==== Sys2Proof/Laws/Footprints.lean ====
section
/-! SUPPORT. Footprints: for each shared operation, once, the blocks of the state it can change; and the cases of the heat
stage timers' tests. -/

namespace Sys2Proof.Machine

/-! ### The calculus -/

theorem Block.same_refl (s : State) (b : Block) : b.same s s := by cases b <;> simp [Block.same]

theorem Block.same_trans {s t u : State} {b : Block} (h : b.same s t) (k : b.same t u) : b.same s u := by
  cases b <;> simp only [Block.same] at * <;> first
    | exact k.trans h
    | exact ⟨k.1.trans h.1, k.2.trans h.2⟩

theorem changesOnly_refl (blocks : List Block) (s : State) : changesOnly blocks s s := fun b _ => b.same_refl s

theorem changesOnly.trans {blocks : List Block} {s t u : State} (h : changesOnly blocks s t)
    (k : changesOnly blocks t u) : changesOnly blocks s u := fun b hb => Block.same_trans (h b hb) (k b hb)

theorem changesOnly.mono {xs ys : List Block} {s t : State} (h : changesOnly xs s t) (sub : xs ⊆ ys) :
    changesOnly ys s t := fun b hb => h b fun hx => hb (sub hx)

/-- One update after others: the shape in which footprints are put together. -/
theorem changesOnly.andThen {xs ys : List Block} {s t u : State} (h : changesOnly ys s t) (k : changesOnly xs t u)
    (sub : xs ⊆ ys) : changesOnly ys s u := h.trans (k.mono sub)

/-! ### The updates -/

theorem setChan_changes (s : State) (p : Projector) (c : Channel) : changesOnly [.chan p] s (s.setChan p c) := by
  intro b hb
  cases b <;> simp_all [Block.same, State.chanOf_setChan_ne]

theorem setMotion_changes (s : State) (p : Projector) (m : Motion) : changesOnly [.motion p] s (s.setMotion p m) := by
  intro b hb
  cases b <;> simp_all [Block.same, State.motionOf_setMotion_ne]

theorem setArc_changes (s : State) (p : Projector) (x : Arc) : changesOnly [.arc p] s (s.setArc p x) := by
  intro b hb
  cases b <;> simp_all [Block.same, State.arcOf_setArc_ne]

theorem setShutter_changes (s : State) (sh : Shutter) (x : ShutterRec) : changesOnly [.shutter sh] s (s.setShutter sh x) := by
  intro b hb
  cases b <;> simp_all [Block.same, State.shutterOf_setShutter_ne]

theorem setHeat_changes (s : State) (p : Projector) (m : HeatMonitor) : changesOnly [.heat p] s (s.setHeat p m) := by
  intro b hb
  cases b <;> simp_all [Block.same, State.heatOf_setHeat_ne]

theorem setLink_changes (s : State) (l : Connector) (k : Link) : changesOnly [.link l] s (s.setLink l k) := by
  intro b hb
  cases b <;> simp_all [Block.same, State.linkOf_setLink_ne]

theorem setPlan_changes (s : State) (x : Plan) : changesOnly [.plan] s (s.setPlan x) := by
  intro b hb
  cases b <;> simp_all [Block.same]

theorem setProg_changes (s : State) (x : Progress) : changesOnly [.prog] s (s.setProg x) := by
  intro b hb
  cases b <;> simp_all [Block.same]

/-- R159, R160: a second of the timer changes the timer alone. -/
theorem timerFalls_changes (s : State) : changesOnly [.prog] s s.timerFalls := setProg_changes _ _

@[simp] theorem prog_timerFalls (s : State) :
    s.timerFalls.prog = { s.prog with timer := s.prog.timer.map fun n => if n ≤ 1 then n else n - 1 } := rfl

theorem setFire_changes (s : State) (x : FireRec) : changesOnly [.fire] s (s.setFire x) := by
  intro b hb
  cases b <;> simp_all [Block.same]

theorem setLights_changes (s : State) (x : Lighting) : changesOnly [.lights] s (s.setLights x) := by
  intro b hb
  cases b <;> simp_all [Block.same]

theorem setBus_changes (s : State) (x : Bus) : changesOnly [.bus] s (s.setBus x) := by
  intro b hb
  cases b <;> simp_all [Block.same]

theorem setPar_changes (s : State) (x : Params) : changesOnly [.par] s (s.setPar x) := by
  intro b hb
  cases b <;> simp_all [Block.same]

theorem setInputs_changes (s : State) (x : Inputs) : changesOnly [.inputs] s (s.setInputs x) := by
  intro b hb
  cases b <;> simp_all [Block.same]

theorem setToken_changes (s : State) (x : Option Projector) : changesOnly [.token] s (s.setToken x) := by
  intro b hb
  cases b <;> simp_all [Block.same]

theorem passTo_changes (s : State) (n : Nat) : changesOnly [.motionCount] s (s.passTo n) := by
  intro b hb
  cases b <;> simp_all [Block.same]

theorem setMask_changes (s : State) (k : NoticeKind) (mask : BitVec 3) : changesOnly [.routing] s (s.setMask k mask) := by
  intro b hb
  cases b <;> simp_all [Block.same]

theorem freeUsed_changes (s : State) : changesOnly [.freeCount] s s.freeUsed := by
  intro b hb
  cases b <;> simp_all [Block.same]

theorem tick_changes (s : State) : changesOnly [.motionCount] s s.tick := passTo_changes _ _

theorem passToDue_changes (s : State) (due : Option Nat) : changesOnly [.motionCount] s (s.passToDue due) := by
  cases due with
  | none => exact changesOnly_refl _ _
  | some n => exact passTo_changes _ _

/-! ### Notices and the close of a step -/

theorem route_changes (s : State) (n : Notice) : changesOnly everyLink s (s.route n) := by
  intro b hb
  cases b with
  | link l => cases l <;> simp_all
  | _ => first | rfl | exact ⟨rfl, rfl⟩

theorem notify_changes (s : State) (kind : NoticeKind) (subject : Byte) (data : List Byte) :
    changesOnly everyLink s (s.notify kind subject data) := route_changes _ _

theorem foldl_route_changes (notices : List Notice) (s : State) :
    changesOnly everyLink s (notices.foldl (fun t n => t.route n) s) := by
  induction notices generalizing s with
  | nil => exact changesOnly_refl _ _
  | cons n rest ih => exact (route_changes s n).trans (ih _)

theorem handLights_changes (s : State) : changesOnly (everyLink ++ [.lights]) s s.handLights :=
  ((setLights_changes s _).mono (by simp)).andThen (foldl_route_changes _ _) (by simp)

theorem startIdle_changes (s : State) : changesOnly everyLink s s.startIdle := by
  intro b hb
  cases b with
  | link l => cases l <;> simp_all
  | _ => first | rfl | exact ⟨rfl, rfl⟩

/-- The close of a step changes links alone, and hands on the LIGHTS_DONE notices that wait. -/
theorem finish_changes (s : State) : changesOnly (everyLink ++ [.lights]) s s.finish :=
  (handLights_changes s).andThen (startIdle_changes _) (by simp)

/-! ### Lighting actions and the show -/

theorem applyAction_changes (s : State) (x : Option LightAction) (source : FadeSource) :
    changesOnly [.lights] s (s.applyAction x source) := by
  cases x with
  | none => exact changesOnly_refl _ _
  | some y => exact setLights_changes _ _

theorem applyBreak_changes (s : State) : changesOnly [.lights] s s.applyBreak := setLights_changes _ _

theorem applyRestore_changes (s : State) : changesOnly [.lights] s s.applyRestore := setLights_changes _ _

theorem applyStart_changes (s : State) (p : Projector) : changesOnly [.lights] s (s.applyStart p) :=
  applyAction_changes _ _ _

theorem pictureLost_changes (s : State) : changesOnly [.prog, .lights] s s.pictureLost := by
  unfold State.pictureLost
  split
  · exact ((setProg_changes s _).mono (by simp)).andThen (applyBreak_changes _) (by simp)
  · exact changesOnly_refl _ _

theorem pictureRegained_changes (s : State) : changesOnly [.prog, .lights] s s.pictureRegained := by
  unfold State.pictureRegained
  split
  · exact ((setProg_changes s _).mono (by simp)).andThen (applyRestore_changes _) (by simp)
  · exact changesOnly_refl _ _

theorem showPictureEnd_changes (s : State) (i : Nat) (brk : BreakAfter) :
    changesOnly ([.prog, .lights] ++ everyLink) s (s.showPictureEnd i brk) := by
  unfold State.showPictureEnd
  split
  · cases brk with
    | absent => exact changesOnly_refl _ _
    | intermission duration action =>
      exact (((setProg_changes s _).mono (by simp)).andThen (applyAction_changes _ _ _) (by simp)).andThen
        (notify_changes _ _ _ _) (by simp)
    | ending action =>
      exact (((setProg_changes s _).mono (by simp)).andThen (applyAction_changes _ _ _) (by simp)).andThen
        (notify_changes _ _ _ _) (by simp)
  · exact changesOnly_refl _ _

theorem decideRollover_changes (s : State) : changesOnly ([.plan, .prog] ++ everyLink) s s.decideRollover := by
  unfold State.decideRollover
  split
  · exact (((setPlan_changes s _).mono (by simp)).andThen (setProg_changes _ _) (by simp)).andThen
      (notify_changes _ _ _ _) (by simp)
  · exact changesOnly_refl _ _

/-- R161, R162: the test for exhaustion changes the plan, the show and the notice queues alone. -/
theorem testExhausted_changes (s : State) (atReelDone : Bool) :
    changesOnly ([.plan, .prog] ++ everyLink) s (s.testExhausted atReelDone) := by
  have ended (x : Progress) (kind : NoticeKind) (subject : Byte) (data : List Byte) :
      changesOnly ([.plan, .prog] ++ everyLink) s ((s.setProg x).notify kind subject data).decideRollover :=
    (((setProg_changes s _).mono (by simp)).andThen (notify_changes _ _ _ _) (by simp)).andThen
      (decideRollover_changes _) (by simp)
  unfold State.testExhausted
  split
  · split
    · exact ended _ _ _ _
    · exact ended _ _ _ _
    · exact ended _ _ _ _
    · split
      · exact decideRollover_changes _
      · exact changesOnly_refl _ _
    · exact changesOnly_refl _ _
    · exact changesOnly_refl _ _
  · exact changesOnly_refl _ _

/-! ### Changeover -/

/-- The blocks that what happens on a channel can reach: both channels and their motion records, the token, the plan,
the show, the lights, the parameters and the links; never an arc, a shutter, a heat monitor, the fire record, the bus,
the routing table, the inputs or the motion count. -/
abbrev showBlocks : List Block :=
  [.plan, .prog, .chan .a, .chan .b, .motion .a, .motion .b, .token, .lights, .par] ++ everyLink

theorem chan_mem_showBlocks (p : Projector) : Block.chan p ∈ showBlocks := by cases p <;> simp

theorem motion_mem_showBlocks (p : Projector) : Block.motion p ∈ showBlocks := by cases p <;> simp

theorem setChan_inShow (s : State) (p : Projector) (c : Channel) : changesOnly showBlocks s (s.setChan p c) :=
  (setChan_changes s p c).mono (by simpa using chan_mem_showBlocks p)

theorem setMotion_inShow (s : State) (p : Projector) (m : Motion) : changesOnly showBlocks s (s.setMotion p m) :=
  (setMotion_changes s p m).mono (by simpa using motion_mem_showBlocks p)

theorem setToken_inShow (s : State) (x : Option Projector) : changesOnly showBlocks s (s.setToken x) :=
  (setToken_changes s x).mono (by simp)

theorem setProg_inShow (s : State) (x : Progress) : changesOnly showBlocks s (s.setProg x) :=
  (setProg_changes s x).mono (by simp)

theorem setPlan_inShow (s : State) (x : Plan) : changesOnly showBlocks s (s.setPlan x) :=
  (setPlan_changes s x).mono (by simp)

theorem notify_inShow (s : State) (kind : NoticeKind) (subject : Byte) (data : List Byte) :
    changesOnly showBlocks s (s.notify kind subject data) := (notify_changes _ _ _ _).mono (by simp)

theorem pictureLost_inShow (s : State) : changesOnly showBlocks s s.pictureLost :=
  (pictureLost_changes s).mono (by simp)

theorem pictureRegained_inShow (s : State) : changesOnly showBlocks s s.pictureRegained :=
  (pictureRegained_changes s).mono (by simp)

theorem applyStart_inShow (s : State) (p : Projector) : changesOnly showBlocks s (s.applyStart p) :=
  (applyStart_changes s p).mono (by simp)

theorem testExhausted_inShow (s : State) (b : Bool) : changesOnly showBlocks s (s.testExhausted b) :=
  (testExhausted_changes s b).mono (by simp)

theorem promoteProj_changes (s : State) (p : Projector) (point : TakeEffect) :
    changesOnly [.par] s (s.promoteProj p point) := setPar_changes _ _

theorem setLinkedState_changes (s : State) (p : Projector) (x : EntryState) :
    changesOnly [.plan] s (s.setLinkedState p x) := by
  unfold State.setLinkedState
  split
  · exact setPlan_changes _ _
  · exact changesOnly_refl _ _

theorem stopMotor_changes (s : State) (p : Projector) : changesOnly [.chan p, .motion p] s (s.stopMotor p) :=
  ((setChan_changes s p _).mono (by simp)).andThen (setMotion_changes _ p _) (by simp)

theorem stopMotor_inShow (s : State) (p : Projector) : changesOnly showBlocks s (s.stopMotor p) :=
  (stopMotor_changes s p).mono (by
    intro b hb
    rcases List.mem_cons.mp hb with rfl | hb
    · exact chan_mem_showBlocks p
    · rw [List.mem_singleton.mp hb]
      exact motion_mem_showBlocks p)

theorem haltNotice_changes (s before : State) (p : Projector) (cause : HaltCause) :
    changesOnly everyLink s (s.haltNotice p cause before) := by
  cases cause <;> first | exact notify_changes _ _ _ _ | exact changesOnly_refl _ _

/-- R69: a halt stays inside the show. -/
theorem halt_inShow (s : State) (p : Projector) (cause : HaltCause) : changesOnly showBlocks s (s.halt p cause) := by
  have halted : changesOnly showBlocks s (s.toHalted p) := (stopMotor_inShow s p).trans (setChan_inShow _ p _)
  have noticed (t : State) (h : changesOnly showBlocks s t) :
      changesOnly showBlocks s (t.haltNotice p cause s) := h.andThen (haltNotice_changes _ _ _ _) (by simp)
  unfold State.halt
  split
  · dsimp only
    split <;> split
    · exact (noticed _ (halted.trans (setToken_inShow _ _))).trans (pictureLost_inShow _)
    · exact (noticed _ halted).trans (pictureLost_inShow _)
    · exact noticed _ (halted.trans (setToken_inShow _ _))
    · exact noticed _ halted
  · exact changesOnly_refl _ _

theorem disarmChannel_inShow (s : State) (p : Projector) : changesOnly showBlocks s (s.disarmChannel p) :=
  ((setLinkedState_changes s p _).mono (by simp)).trans (setChan_inShow _ p _)

theorem makeSafe_inShow (s : State) (p : Projector) (cause : HaltCause) :
    changesOnly showBlocks s (s.makeSafe p cause) := by
  unfold State.makeSafe
  split
  · exact disarmChannel_inShow _ _
  · exact halt_inShow _ _ _

/-- R51: a motor start stays inside the show. -/
theorem startMotor_inShow (s : State) (p : Projector) : changesOnly showBlocks s (s.startMotor p) := by
  have running : changesOnly showBlocks s (s.motorRuns p) :=
    ((((promoteProj_changes s p _).mono (by simp)).andThen (setLinkedState_changes _ _ _) (by simp)).trans
      (setChan_inShow _ p _)).trans (setMotion_inShow _ p _)
  unfold State.startMotor State.filmAtStart
  split
  · exact running
  · exact running.trans (halt_inShow _ _ _)

theorem lateStart_inShow (s : State) (p : Projector) : changesOnly showBlocks s (s.lateStart p) := by
  unfold State.lateStart
  split
  · exact startMotor_inShow _ _
  · exact changesOnly_refl _ _

theorem takeScreen_inShow (s : State) (p : Projector) : changesOnly showBlocks s (s.takeScreen p) :=
  (setChan_inShow s p _).trans (setToken_inShow _ _)

theorem leaveScreen_inShow (s : State) (p : Projector) (deferred : Bool) :
    changesOnly showBlocks s (s.leaveScreen p deferred) := setChan_inShow _ _ _

theorem positionTo_inShow (s : State) (p : Projector) : changesOnly showBlocks s (s.positionTo p) :=
  setProg_inShow _ _

theorem swapNotice_inShow (s before : State) (out inc : Projector) (kind : SwapKind) :
    changesOnly showBlocks s (s.swapNotice out inc kind before) := by
  cases kind <;> exact notify_inShow _ _ _ _

/-- R60: a swap stays inside the show. -/
theorem swap_inShow (s : State) (out inc : Projector) (kind : SwapKind) :
    changesOnly showBlocks s (s.swap out inc kind) := by
  have swapped := ((((leaveScreen_inShow s out false).trans (takeScreen_inShow _ inc)).trans
    (positionTo_inShow _ inc)).trans (swapNotice_inShow _ s out inc kind)).trans (applyStart_inShow _ inc)
  unfold State.swap
  dsimp only
  split
  · exact swapped.trans (pictureRegained_inShow _)
  · exact swapped

/-- R68: open on ready stays inside the show. -/
theorem openScreen_inShow (s : State) (p : Projector) : changesOnly showBlocks s (s.openScreen p) :=
  ((takeScreen_inShow s p).trans (setChan_inShow _ p _)).trans (lateStart_inShow _ _)

/-- R66: a recovery stays inside the show. -/
theorem recover_inShow (s : State) (p : Projector) : changesOnly showBlocks s (s.recover p) :=
  ((((takeScreen_inShow s p).trans (positionTo_inShow _ p)).trans (notify_inShow _ _ _ _)).trans
    (pictureRegained_inShow _)).trans (lateStart_inShow _ _)

theorem becomesReady_inShow (s : State) (p : Projector) : changesOnly showBlocks s (s.becomesReady p) := by
  unfold State.becomesReady
  split
  · split
    · exact swap_inShow _ _ _ _
    · exact changesOnly_refl _ _
  · split
    · exact openScreen_inShow _ _
    · split
      · exact recover_inShow _ _
      · exact changesOnly_refl _ _

/-- R43, R64, R65: a report of a picture condition stays inside the show. -/
theorem conditionsReported_inShow (s : State) (p : Projector) :
    changesOnly showBlocks s (s.conditionsReported p) := by
  have dark : changesOnly showBlocks s (s.goDark p) := (setChan_inShow s p _).trans (pictureLost_inShow _)
  have lit : changesOnly showBlocks s (s.leaveDark p) :=
    ((setChan_inShow s p _).trans (notify_inShow _ _ _ _)).trans (pictureRegained_inShow _)
  unfold State.conditionsReported
  dsimp only
  split <;> first
    | exact changesOnly_refl _ _
    | (split <;> first
        | exact changesOnly_refl _ _
        | exact dark
        | exact lit
        | exact becomesReady_inShow _ _)

/-! ### Arcs and shutters -/

/-- R78: a change of arc state changes the arc and what its report reaches. -/
theorem arcTo_changes (s : State) (p : Projector) (new : ArcState) (cause : ArcCause) :
    changesOnly (.arc p :: showBlocks) s (s.arcTo p new cause) :=
  (((setArc_changes s p _).mono (by simp)).andThen (notify_changes _ _ _ _) (by simp)).andThen
    (conditionsReported_inShow _ _) (by simp)

theorem putOut_changes (s : State) (p : Projector) (cause : ArcCause) :
    changesOnly (.arc p :: showBlocks) s (s.putOut p cause) := by
  unfold State.putOut
  split
  · exact changesOnly_refl _ _
  · exact arcTo_changes _ _ _ _

/-- R106: a change of shutter state changes the shutter and what its report reaches. -/
theorem shutterTo_changes (s : State) (sh : Shutter) (new : ShutterState) (cause : ShutterCause) :
    changesOnly (.shutter sh :: showBlocks) s (s.shutterTo sh new cause) := by
  have moved : changesOnly (.shutter sh :: showBlocks) s
      ((s.placeShutter sh new cause).shutterNotice sh (s.shutterOf sh).state) :=
    ((setShutter_changes s sh _).mono (by simp)).andThen (notify_changes _ _ _ _) (by simp)
  unfold State.shutterTo
  dsimp only
  split
  · exact moved.andThen (conditionsReported_inShow _ _) (by simp)
  · exact moved

/-! ### The heat stage timers -/

/-- R107, R108: all that a test of the stage 1 timer can do. -/
theorem stage1TimerTest_cases (s : State) (p : Projector) :
    (¬(∃ k, (s.heatOf p).state = .stage1Wait ∧ (s.heatOf p).elapsed = some k ∧ s.heldDev .tH1 ≤ k) ∧
        s.stage1TimerTest p = s) ∨
      (∃ k, (s.heatOf p).state = .stage1Wait ∧ (s.heatOf p).elapsed = some k ∧ s.heldDev .tH1 ≤ k) ∧
        s.stage1TimerTest p = s.heatStage1 p := by
  unfold State.stage1TimerTest
  split <;> simp_all
  omega

/-- R107, R109: all that a test of the doused wait timer can do. -/
theorem dousedTimerTest_cases (s : State) (p : Projector) :
    (¬(∃ k, (s.heatOf p).state = .dousedWait ∧ (s.heatOf p).elapsed = some k ∧ s.heldDev .tH2 ≤ k) ∧
        s.dousedTimerTest p = s) ∨
      (∃ k, (s.heatOf p).state = .dousedWait ∧ (s.heatOf p).elapsed = some k ∧ s.heldDev .tH2 ≤ k) ∧
        s.dousedTimerTest p = s.heatTrips p := by
  unfold State.dousedTimerTest
  split <;> simp_all
  omega

end Sys2Proof.Machine
end

