-- ==== Sys2Proof/Laws/Answers.lean ====
section
/-! SUPPORT. How a command's outcome is put together: what a routed notice makes of a link, what taking a request makes
of one, and the rules that conclude `runs`, `idles`, `grants` and `repliesOnly`. -/

namespace Sys2Proof.Machine

/-! ### Notices on a link -/

theorem afterNotices_nil (s : State) (l : Connector) (k : Link) : afterNotices s l [] k = k := rfl

theorem afterNotices_cons (s : State) (l : Connector) (n : Notice) (ns : List Notice) (k : Link) :
    afterNotices s l (n :: ns) k = afterNotices s l ns (deliver (s.maskOf n.kind) n l k) := rfl

theorem afterNotices_append (s : State) (l : Connector) (xs ys : List Notice) (k : Link) :
    afterNotices s l (xs ++ ys) k = afterNotices s l ys (afterNotices s l xs k) := List.foldl_append ..

@[simp] theorem linkOf_route (s : State) (n : Notice) (l : Connector) :
    (s.route n).linkOf l = deliver (s.maskOf n.kind) n l (s.linkOf l) := by cases l <;> rfl

/-- R180, R181: a copy that joins a queue touches the queue and NOTICES_LOST alone. -/
theorem enqueue_eq (k : Link) (n : Notice) :
    k.enqueue n = { k with notices := (k.enqueue n).notices, lost := (k.enqueue n).lost } := by
  unfold Link.enqueue
  split
  · rfl
  · split
    · rfl
    · split <;> rfl

/-- What a copy leaves of a queue depends on nothing else of the link. -/
theorem enqueue_with (k : Link) (n : Notice) (stage : RxStage) (assembly : List Byte) (slots : List (List Byte)) :
    ({ k with stage := stage, assembly := assembly, slots := slots } : Link).enqueue n =
      { k.enqueue n with stage := stage, assembly := assembly, slots := slots } := by
  unfold Link.enqueue
  dsimp only
  split
  · rfl
  · split
    · rfl
    · split <;> rfl

theorem deliver_with (mask : BitVec 3) (n : Notice) (l : Connector) (k : Link) (stage : RxStage) (assembly : List Byte)
    (slots : List (List Byte)) :
    deliver mask n l { k with stage := stage, assembly := assembly, slots := slots } =
      { deliver mask n l k with stage := stage, assembly := assembly, slots := slots } := by
  unfold deliver
  dsimp only
  split
  · rfl
  · split
    · exact enqueue_with _ _ _ _ _
    · rfl

theorem deliver_slots (mask : BitVec 3) (n : Notice) (l : Connector) (k : Link) :
    (deliver mask n l k).slots = k.slots := by
  unfold deliver
  split
  · rfl
  · split
    · rw [enqueue_eq]
    · rfl

theorem deliver_binding (mask : BitVec 3) (n : Notice) (l : Connector) (k : Link) :
    (deliver mask n l k).binding = k.binding := by
  unfold deliver
  split
  · rfl
  · split
    · rw [enqueue_eq]
    · rfl

theorem afterNotices_with (s : State) (l : Connector) (ns : List Notice) (k : Link) (stage : RxStage)
    (assembly : List Byte) (slots : List (List Byte)) :
    afterNotices s l ns { k with stage := stage, assembly := assembly, slots := slots } =
      { afterNotices s l ns k with stage := stage, assembly := assembly, slots := slots } := by
  induction ns generalizing k with
  | nil => rfl
  | cons n rest ih =>
    rw [afterNotices_cons, afterNotices_cons, deliver_with, ih]

/-! ### Notices routed -/

theorem notified_nil {s t : State} (h : ∀ l, t.linkOf l = s.linkOf l) : notified [] s t := h

/-- One more notice: the routing table is as it was. -/
theorem notified.snoc {ns : List Notice} {s t : State} (n : Notice) (h : notified ns s t)
    (r : t.routing = s.routing) : notified (ns ++ [n]) s (t.route n) := by
  intro l
  have m : t.maskOf n.kind = s.maskOf n.kind := by simp [State.maskOf, r]
  rw [linkOf_route, h l, m, afterNotices_append]
  rfl

theorem notified_route (s : State) (n : Notice) : notified [n] s (s.route n) :=
  (notified_nil fun _ => rfl : notified [] s s).snoc n rfl

/-- A notice that a state with the same clock generates. -/
theorem noticeNow_eq {s t : State} (h : t.prog.clock = s.prog.clock) (kind : NoticeKind) (subject : Byte)
    (data : List Byte) : t.noticeNow kind subject data = s.noticeNow kind subject data := by
  simp [State.noticeNow, h]

theorem notified_notify (s : State) (kind : NoticeKind) (subject : Byte) (data : List Byte) :
    notified [s.noticeNow kind subject data] s (s.notify kind subject data) := notified_route _ _

/-- Later changes that leave the links alone. -/
theorem notified.after {ns : List Notice} {s t u : State} (h : notified ns s t) (k : ∀ l, u.linkOf l = t.linkOf l) :
    notified ns s u := fun l => (k l).trans (h l)

/-- Earlier changes that leave the links and the routing table alone. -/
theorem notified.before {ns : List Notice} {s t u : State} (h : notified ns t u) (k : ∀ l, t.linkOf l = s.linkOf l)
    (r : t.routing = s.routing) : notified ns s u := by
  intro l
  rw [h l, k l]
  unfold afterNotices
  have m (kind : NoticeKind) : t.maskOf kind = s.maskOf kind := by simp [State.maskOf, r]
  simp only [m]

theorem notified.append {xs ys : List Notice} {s t u : State} (h : notified xs s t) (k : notified ys t u)
    (r : t.routing = s.routing) : notified (xs ++ ys) s u := by
  intro l
  rw [k l, h l, afterNotices_append]
  unfold afterNotices
  have m (kind : NoticeKind) : t.maskOf kind = s.maskOf kind := by simp [State.maskOf, r]
  simp only [m]

/-- The links follow from the notices when the frame leaves them out. -/
theorem changesOnly.links {blocks : List Block} {s t : State} (h : changesOnly blocks s t) (l : Connector)
    (hl : Block.link l ∉ blocks) : t.linkOf l = s.linkOf l := h (.link l) hl

/-! ### Requests -/

/-- R169: how a request that finds a slot is taken and answered. -/
theorem request_listens {l : Connector} {s : State} (h : listens l s) (r : Request) :
    s.request l r =
      let a := requestAnswer l r (s.takeSlot l (requestBody r))
      a.state.queueReply l ⟨replyKind (requestCode r), a.code, a.data⟩ := by
  unfold State.request State.takeRequest
  rw [if_neg h.1, if_neg (by simpa [State.slotsFull] using h.2)]
  rfl

theorem exec_request (l : Connector) (r : Request) (s : State) : exec (r.instr l) s = .next (s.request l r).finish := by
  cases r <;> rfl

theorem taken_takeSlot (l : Connector) (body : List Byte) (s : State) : taken l body [] s (s.takeSlot l body) := by
  intro m
  unfold State.takeSlot
  by_cases h : m = l
  · subst h
    simp [afterNotices_nil]
  · simp [State.linkOf_setLink_ne _ _ h, h, afterNotices_nil]

/-- A request has been taken and then notices routed. -/
theorem taken_notified {l : Connector} {body : List Byte} {ns : List Notice} {s t : State}
    (h : notified ns (s.takeSlot l body) t) : taken l body ns s t := by
  intro m
  have e : afterNotices (s.takeSlot l body) m ns = afterNotices s m ns := rfl
  rw [h m, e, taken_takeSlot l body s m]
  by_cases hm : m = l
  · subst hm
    simp only [afterNotices_nil, if_true]
    exact afterNotices_with _ _ _ _ _ _ _
  · simp [hm, afterNotices_nil]

theorem takeSlot_changes (l : Connector) (body : List Byte) (s : State) : changesOnly [.link l] s (s.takeSlot l body) :=
  setLink_changes _ _ _

theorem link_mem_everyLink (l : Connector) : Block.link l ∈ everyLink := by cases l <;> simp

/-- R169, R174: a request is granted when its answer is what `after` makes of a state u that has the notices, the
effect and the footprint. -/
theorem grants_of {l : Connector} {r : Request} {s : State} {code : ResultCode} {data : State → List Byte}
    {notices : List Notice} {blocks : List Block} {effect : State → Prop} {after : State → State} (h : listens l s)
    (u : State) (answer : requestAnswer l r (s.takeSlot l (requestBody r)) = ⟨after u, code, data (after u)⟩)
    (told : notified notices (s.takeSlot l (requestBody r)) u) (does : effect u)
    (only : changesOnly (everyLink ++ blocks) (s.takeSlot l (requestBody r)) u) :
    grants l r s code data notices blocks effect after := by
  refine ⟨u, ?_, taken_notified told, does, ?_⟩
  · rw [exec_request, request_listens h, answer]
    rfl
  · exact ((takeSlot_changes l _ s).mono (by
      intro b hb
      rw [List.mem_singleton.mp hb]
      exact List.mem_append_left _ (link_mem_everyLink l))).trans only

/-- R169, R171: a request that gets a reply and nothing else. -/
theorem repliesOnly_of {l : Connector} {r : Request} {s : State} {code : ResultCode} {data : List Byte}
    (h : listens l s)
    (answer : requestAnswer l r (s.takeSlot l (requestBody r)) = ⟨s.takeSlot l (requestBody r), code, data⟩) :
    repliesOnly l r s code data :=
  grants_of h _ answer (notified_nil fun _ => rfl) trivial (changesOnly_refl _ _)

/-! ### What a taken slot leaves -/

section Slot

variable (l : Connector) (body : List Byte) (s : State)

@[simp] theorem plan_takeSlot : (s.takeSlot l body).plan = s.plan := rfl
@[simp] theorem prog_takeSlot : (s.takeSlot l body).prog = s.prog := rfl
@[simp] theorem chanOf_takeSlot (p : Projector) : (s.takeSlot l body).chanOf p = s.chanOf p := rfl
@[simp] theorem motionOf_takeSlot (p : Projector) : (s.takeSlot l body).motionOf p = s.motionOf p := rfl
@[simp] theorem arcOf_takeSlot (p : Projector) : (s.takeSlot l body).arcOf p = s.arcOf p := rfl
@[simp] theorem shutterOf_takeSlot (sh : Shutter) : (s.takeSlot l body).shutterOf sh = s.shutterOf sh := rfl
@[simp] theorem heatOf_takeSlot (p : Projector) : (s.takeSlot l body).heatOf p = s.heatOf p := rfl
@[simp] theorem token_takeSlot : (s.takeSlot l body).token = s.token := rfl
@[simp] theorem sound_takeSlot : (s.takeSlot l body).sound = s.sound := rfl
@[simp] theorem fire_takeSlot : (s.takeSlot l body).fire = s.fire := rfl
@[simp] theorem lights_takeSlot : (s.takeSlot l body).lights = s.lights := rfl
@[simp] theorem bus_takeSlot : (s.takeSlot l body).bus = s.bus := rfl
@[simp] theorem par_takeSlot : (s.takeSlot l body).par = s.par := rfl
@[simp] theorem inputs_takeSlot : (s.takeSlot l body).inputs = s.inputs := rfl
@[simp] theorem routing_takeSlot : (s.takeSlot l body).routing = s.routing := rfl
@[simp] theorem motionCount_takeSlot : (s.takeSlot l body).motionCount = s.motionCount := rfl
@[simp] theorem freeCount_takeSlot : (s.takeSlot l body).freeCount = s.freeCount := rfl
@[simp] theorem held_takeSlot (p : Projector) (q : ProjParam) : (s.takeSlot l body).held p q = s.held p q := rfl
@[simp] theorem heldDev_takeSlot (q : DevParam) : (s.takeSlot l body).heldDev q = s.heldDev q := rfl
@[simp] theorem entryAt_takeSlot (i : Nat) : (s.takeSlot l body).entryAt i = s.entryAt i := rfl
@[simp] theorem entryOf_takeSlot (p : Projector) : (s.takeSlot l body).entryOf p = s.entryOf p := rfl
@[simp] theorem nextEntry_takeSlot : (s.takeSlot l body).nextEntry = s.nextEntry := rfl
@[simp] theorem nextFor_takeSlot (p : Projector) : (s.takeSlot l body).nextFor p = s.nextFor p := rfl
@[simp] theorem nextChannel_takeSlot : (s.takeSlot l body).nextChannel = s.nextChannel := rfl
@[simp] theorem isNext_takeSlot (p : Projector) : (s.takeSlot l body).isNext p = s.isNext p := rfl
@[simp] theorem linkedTo_takeSlot (i : Nat) : (s.takeSlot l body).linkedTo i = s.linkedTo i := rfl
@[simp] theorem carbonTime_takeSlot (p : Projector) : (s.takeSlot l body).carbonTime p = s.carbonTime p := rfl
@[simp] theorem maskOf_takeSlot (k : NoticeKind) : (s.takeSlot l body).maskOf k = s.maskOf k := rfl
@[simp] theorem noticeNow_takeSlot (kind : NoticeKind) (subject : Byte) (data : List Byte) :
    (s.takeSlot l body).noticeNow kind subject data = s.noticeNow kind subject data := rfl

@[simp] theorem binding_takeSlot (m : Connector) : ((s.takeSlot l body).linkOf m).binding = (s.linkOf m).binding := by
  unfold State.takeSlot
  by_cases h : m = l
  · subst h
    simp
  · simp [State.linkOf_setLink_ne _ _ h]

end Slot

/-- R171: a bound link, a subject that is named, and the right to it: the request reaches its owner. -/
theorem screen_passes {α : Type} {l : Connector} {role : Role} {x : α} {rights : Rights α}
    {owner : α → State → Answer} {s : State} (b : (s.linkOf l).binding = some role) (right : rights role x = true) :
    screen l (some x) rights owner s = owner x s := by simp [screen, b, right]

end Sys2Proof.Machine
end

