-- ==== Sys2Proof/WellFormed.lean ====
section
/-! DEFINITION. Well-formed commands. A command's operands have the width of what they stand for, so three checks
remain: a frame's body has a LEN that a frame can have (R168), UNKNOWN_REQUEST_KIND names no request (R194), and a
reply window of the dimmer bus holds at most the three bytes of a reply or acknowledge (R195). The meaning of a
command is total: it does not ask for these (log 6, log 18, log 33). -/

namespace Sys2Proof

/-- R168: LEN runs from 1 to 48. -/
def wellFormedBody (body : List Byte) : Bool :=
  decide (1 ≤ body.length ∧ body.length ≤ Config.lenLimit)

/-- R194: the request kinds are 01h to 21h. -/
def requestKind (kind : Byte) : Bool :=
  decide (1 ≤ kind.toNat ∧ kind.toNat ≤ 0x21)

def Instr.wellFormed : Instr → Bool
  | .frameReceived _ body => wellFormedBody body
  | .unknownRequestKind _ kind rest => !requestKind kind && wellFormedBody (kind :: rest)
  | .levelReplyWindowEnd reply => decide (reply.length ≤ 3)
  | .identifyRoundEnd _ ack => decide (ack.length ≤ 3)
  | _ => true

end Sys2Proof
end

