-- ==== Sys2Proof/Tests/Slice0.lean ====
section
/-! SUPPORT. The model's own tests: the checks of WellFormed, one step each from the worked cases of spec/ (each names
its case), and for every statement a state and operands that meet its hypotheses, clause by clause. -/

namespace Sys2Proof.Tests

open Machine

/-! ### States to test on -/

/-- The state a command leaves, where it answers one. -/
def ran (c : Instr) (s : State) : State :=
  match exec c s with
  | .next t => t
  | .fault _ => s
  | .refused _ => s

/-- The three panels bound, each to its own role. -/
def booth : State :=
  { State.reset with
    links := ⟨{ Link.reset with binding := some .a }, { Link.reset with binding := some .b },
      { Link.reset with binding := some .h }⟩ }

/-- What went out as a reply on a link, from the code on: the frame without start byte, LEN, KIND, summary and CHECK. -/
def replied (l : Connector) (s : State) : List Byte :=
  match (s.linkOf l).tx with
  | .reply frame => (frame.drop 5).dropLast
  | .idle => []
  | .notice _ => []

/-- The kind of the notice going out on a link. -/
def told (l : Connector) (s : State) : Option Byte :=
  match (s.linkOf l).tx with
  | .notice frame => frame[2]?
  | .idle => none
  | .reply _ => none

/-- The reel of the worked cases of chapters 2 to 4: 1900 feet, GUARDED, M 176, E 24. -/
def reel (label : Nat) (p : Projector) (x : EntryState) : Entry :=
  ⟨label, p, 1900, .guarded, 176, 24, none, .absent, x, none⟩

/-- The form of a reel of 1900 feet with M and E at their defaults. -/
def form (label proj : Byte) : EntryForm :=
  ⟨label, proj, 1900, 2, 0, 0, 0, ⟨0, 0, 0⟩, 0, 0, 0, ⟨0, 0, 0⟩⟩

def withReels (reels : List Entry) (s : State) : State := { s with plan := ⟨reels, 1, 1⟩ }

/-- The five reels of the worked case of the alternation check. -/
def roadshow : State :=
  withReels [reel 1 .a .pending, reel 2 .b .pending,
    { reel 3 .a .pending with brk := .intermission 600 none }, reel 4 .a .pending,
    { reel 5 .b .pending with brk := .ending none }] booth

def channel (x : ChannelState) (i : Option Nat) : Channel :=
  { Channel.reset with
    state := x, entry := i, motor := x.running, douser := decide (x = .onScreen),
    openOnReady := false, pastPicture := decide (x = .tail) }

/-- A LIT arc with this carbon stock. -/
def lit (carbon : Nat) : Arc := { Arc.reset with state := .lit, contactor := true, carbon := carbon }

def raised : ShutterRec := ⟨.held, none, false, true, .opened⟩

/-- Projector A on the screen with reel 1, B in a state with reel 2, in a RUNNING show: both arcs LIT, both port
shutters HELD, film threaded on both. -/
def showing (x : ChannelState) : State :=
  { withReels [reel 1 .a .running, reel 2 .b ((x.entryState).getD .pending), reel 3 .a .pending] booth with
    prog := ⟨.running, some 0, none, none, 100, 0, true, none⟩
    chan := ⟨channel .onScreen (some 0), channel x (x.entryState.map fun _ => 1)⟩
    token := some .a
    sound := some .a
    arc := ⟨lit 3000, lit 3000⟩
    shutters := ⟨raised, raised, ShutterRec.reset, ShutterRec.reset⟩
    motion := ⟨{ Motion.reset with filmClosed := true, frames := 30212 }, { Motion.reset with filmClosed := true }⟩
    inputs := { Inputs.reset with filmClosed := ⟨true, true⟩ } }

/-- The same with one projector's channel changed. -/
def withChan (p : Projector) (f : Channel → Channel) (s : State) : State := s.setChan p (f (s.chanOf p))

def withMotion (p : Projector) (f : Motion → Motion) (s : State) : State := s.setMotion p (f (s.motionOf p))

def withArc (p : Projector) (x : Arc) (s : State) : State := s.setArc p x

def withLink (l : Connector) (f : Link → Link) (s : State) : State := s.setLink l (f (s.linkOf l))

def withHeat (p : Projector) (x : HeatMonitor) (s : State) : State := s.setHeat p x

/-! ### WellFormed: an ill-formed command for each check -/

theorem test_wellFormed_refuses_empty_body : (Instr.frameReceived .a []).wellFormed = false := by decide

theorem test_wellFormed_refuses_long_body : (Instr.frameReceived .a (List.replicate 49 0)).wellFormed = false := by
  decide

theorem test_wellFormed_refuses_known_kind : (Instr.unknownRequestKind .a 0x21 []).wellFormed = false := by decide

theorem test_wellFormed_refuses_long_unknown :
    (Instr.unknownRequestKind .a 0x22 (List.replicate 48 0)).wellFormed = false := by decide

theorem test_wellFormed_refuses_long_reply : (Instr.levelReplyWindowEnd [1, 2, 3, 4]).wellFormed = false := by decide

theorem test_wellFormed_refuses_long_ack : (Instr.identifyRoundEnd [] [1, 2, 3, 4]).wellFormed = false := by decide

theorem test_wellFormed_admits : (Instr.frameReceived .a [0x0B, 0]).wellFormed = true ∧
    (Instr.unknownRequestKind .a 0x22 []).wellFormed = true ∧ (Instr.levelReplyWindowEnd []).wellFormed = true := by
  decide

/-! ### Reset, against the tables of R185 and R178 -/

theorem test_reset_holds_the_defaults :
    (ProjParam.all.map fun q => State.reset.held .a q) =
      [240, 5, 2500, 40, 100, 96, 16, 120, 4, 8, 6, 20, 70, 400, 1200, 60, 40, 150] ∧
    (DevParam.all.map fun q => State.reset.heldDev q) = [10, 50, 1, 96, 20, 30, 1] := by decide

theorem test_reset_routes_three_kinds_to_the_house :
    (NoticeKind.all.filter fun k => decide (State.reset.maskOf k = 4)) = [.lightsDone, .packEvent, .busResetDone] ∧
      (NoticeKind.all.filter fun k => decide (State.reset.maskOf k = 7)).length = 28 := by decide

/-! ### The step -/

theorem test_step_empty : step State.reset = .next { State.reset with motionCount := 1 } := rfl

theorem test_powerOn_finds_shutter_up :
    ((ran .powerOn { booth with inputs := { Inputs.reset with closedSense := ⟨false, true, true, true⟩ } }).shutters.w.state,
      (ran .powerOn { booth with inputs := { Inputs.reset with heat := ⟨151, 150⟩ } }).heat.a.state) =
      (.jammed, .stage1Wait) := by decide

/-! ### The plan (chapter 1) -/

/-- R195, R7, "Clamping a written entry": the reply's record. -/
theorem test_planWrite_clamps :
    replied .h (ran (.planWrite .h 3 ⟨0, 1, 2400, 2, 40, 30, 1, ⟨1, 40, 750⟩, 0, 0, 0, ⟨0, 0, 0⟩⟩)
      (withReels [reel 1 .a .pending, reel 2 .b .pending, reel 3 .a .pending, reel 7 .b .pending] booth)) =
      [1, 3, 1, 1, 0x08, 0x98, 2, 0, 78, 30, 1, 1, 40, 0x02, 0x58, 0, 0, 0, 0, 0, 0, 0, 0, 0x89, 0x80, 0, 0, 0, 0] := by
  decide

/-- The second write of that case: M 0 and E 96. -/
theorem test_planWrite_default_lead :
    (((ran (.planWrite .h 0 { form 12 0 with allowance := 96 }) (withReels [reel 1 .a .pending] booth)).entryAt 0).map
      fun e => (e.lead, e.allowance, e.frames)) = some (176, 96, 30400) := by decide

/-- "The alternation check": PLAN_SKIP of index 1 is PLAN_CONFLICT, of index 4 is taken. -/
theorem test_planSkip_conflict : replied .h (ran (.planSkip .h 1) roadshow) = [0x09] ∧
    (ran (.planSkip .h 4) roadshow).plan.entries.map (·.state) =
      [.pending, .pending, .pending, .pending, .skipped] := by decide

theorem test_planDelete_moves : (ran (.planDelete .h 3) roadshow).plan.entries.map (·.label) = [1, 2, 3, 5] := by decide

theorem test_planInsert_moves :
    (ran (.planInsert .h 3 (form 9 1)) roadshow).plan.entries.map (·.label) = [1, 2, 3, 9, 4, 5] := by decide

theorem test_planWrite_conflict : replied .h (ran (.planWrite .h 2 (form 3 0)) roadshow) = [0x09] := by decide

/-- "Finding the next entry": the plan before and after BOOTH_RESET. -/
def resumable : State :=
  { withReels [reel 1 .a .done, reel 2 .b .done, reel 3 .a .running, reel 4 .b .running, reel 5 .a .pending] booth with
    prog := ⟨.running, some 2, none, none, 100, 0, true, some 1⟩
    chan := ⟨channel .onScreen (some 2), channel .starting (some 3)⟩
    token := some .a
    sound := some .a }

theorem test_planRead_header : replied .h (ran (.planRead .h 0xFF) resumable) = [0, 5, 1, 1, 2, 3, 4, 0xFF] := by decide

theorem test_boothReset_next_entries :
    let t := ran (.boothReset .h) resumable
    (t.prog.position, t.nextEntry, t.nextFor .a, t.nextFor .b) = (some 2, some 2, some 2, some 3) := by decide

theorem test_planHeader_writes_repeat : (ran (.planHeader .h 3) roadshow).plan.repeatCount = 3 := by decide

/-! ### Film motion (chapter 2) -/

/-- "A run-up", pulse 13. -/
def runningUp : State :=
  withMotion .b (fun m => { m with
    ring := [520, 460, 430, 420, 418, 417, 417, 416], frames := 12, pulseRef := 7818, filmClosed := true })
    (withChan .b (fun c => { c with runup := .one, runupDue := some 40000 }) (showing .starting))

theorem test_tachPulse_at_speed :
    let t := ran (.tachPulse .b 8234) runningUp
    ((t.motionOf .b).ring.sum, (t.motionOf .b).speed10, (t.motionOf .b).frames, (t.chanOf .b).state) =
      (3394, 235, 13, .ready) := by decide

theorem test_tachPulse_before_speed :
    (ran (.tachPulse .b 7818) (withMotion .b (fun m => { m with
      ring := [620, 520, 460, 430, 420, 418, 417, 417], frames := 11, pulseRef := 7402 }) runningUp)).chan.b.state =
      .starting := by decide

/-- "Remaining time". -/
theorem test_remaining_time :
    let s := withMotion .a (fun m => { m with frames := 28000, ring := [418, 418, 418, 418, 417, 417, 417, 417] })
      (showing .armed)
    (s.remaining .a, s.remainingTime .a, (withMotion .a (fun m => { m with ring := [] }) s).remainingTime .a) =
      (some 2400, some 1005, some 1000) := by decide

/-- R24: the ring is emptied at 65535 counts from the pulse reference, and not a count sooner. -/
theorem test_ringTimeout_empties :
    ([65634, 65635].map fun now => (ran (.ringTimeout .b) { withMotion .b (fun m => { m with
      ring := [417], pulseRef := 100 }) runningUp with motionCount := now }).motion.b.ring) = [[417], []] := by decide

/-- R36, R69: a stall of the holder. -/
def stalling : State :=
  { withMotion .a (fun m => { m with stallWatch := some 10, pulseRef := 10 }) (showing .ready) with motionCount := 2510 }

theorem test_stallTimeout_halts :
    let t := ran (.stallTimeout .a) stalling
    ((t.chanOf .a).state, t.token, t.prog.state, told .h t) = (.halted, none, .stalled, some 0x4C) := by decide

/-- R36: a pulse and a stall together, the pulse taken first: the stall does not happen. -/
theorem test_stallTimeout_after_pulse :
    let t := ran (.stallTimeout .a) (ran (.tachPulse .a 2510) stalling)
    ((t.chanOf .a).state, t.motion.a.stallWatch) = (.onScreen, some 2510) := by decide

/-- "Merging foil closures": 30220 merges with 30212; 30221 does not. -/
def foiled (frames : Nat) : State :=
  withMotion .a (fun m => { m with frames := frames, foilMerge := some 30212, foilStage := .qualifying, foilDue := some 20 })
    (withChan .a (fun c => { c with motorCueTaken := true, foilCount := 1 }) (showing .starting))

theorem test_foilQualifyExpiry_merges :
    ((ran (.foilQualifyExpiry .a) (foiled 30220)).motion.a.foilMerge, (ran (.foilQualifyExpiry .a) (foiled 30220)).chan.a.foilCount)
      = (some 30212, 1) := by decide

/-- "A guarded reel": the foil at Rf 179 is a stray. -/
theorem test_foilQualifyExpiry_stray :
    let t := ran (.foilQualifyExpiry .a) (foiled 30221)
    (t.motion.a.foilMerge, t.chan.a.foilCount, told .h t) = (some 30221, 2, some 0x4D) := by decide

theorem test_foilInputChange_qualifies :
    (ran (.foilInputChange .a true) (showing .ready)).motion.a.foilDue = some 20 := by decide

theorem test_foilReleaseExpiry_releases :
    (ran (.foilReleaseExpiry .a) (withMotion .a (fun m => { m with foilStage := .releasing, foilDue := some 20 })
      (showing .ready))).motion.a.foilStage = .inactive := by decide

theorem test_filmSwitchChange_starts_filter :
    (ran (.filmSwitchChange .a false) (showing .ready)).motion.a.filmDue = some 500 := by decide

/-- R34, R35: 50 ms of an open switch under a running picture. -/
def filmGoing : State :=
  { withMotion .a (fun m => { m with filmDue := some 500 }) (showing .ready) with motionCount := 500 }

theorem test_filmFilterExpiry_breaks :
    let t := ran (.filmFilterExpiry .a) { filmGoing with inputs := Inputs.reset }
    ((t.chanOf .a).state, told .b t) = (.halted, none) ∧ told .h t = some 0x4B := by decide

/-- R34: a switch that changed together with the expiry, taken first, has held its level for no time yet. -/
theorem test_filmFilterExpiry_after_change :
    (ran (.filmFilterExpiry .a) (ran (.filmSwitchChange .a false) filmGoing)).motion.a.filmDue = some 1000 := by decide

theorem test_runupStage1Expiry_starts_stage2 :
    ((ran (.runupStage1Expiry .b) runningUp).chan.b.runup, (ran (.runupStage1Expiry .b) runningUp).chan.b.runupDue) =
      (.two, some 100000) := by decide

theorem test_runupStage2Expiry_halts :
    (ran (.runupStage2Expiry .b) (withChan .b (fun c => { c with runup := .two, runupDue := some 100000 })
      runningUp)).chan.b.state = .halted := by decide

/-! ### Changeover (chapter 3) -/

/-- "A request and its reply" (chapter 11): the frame of ARM on link A, and the bytes of its reply. -/
def arming : State :=
  withLink .a (fun k => { k with notices := [⟨.atSpeed, 1, 0, []⟩, ⟨.recovery, 1, 0, []⟩] })
    { withReels [reel 1 .a .done, reel 2 .b .done, reel 3 .a .done, reel 4 .b .running, reel 5 .a .threaded]
        (showing .ready) with
      prog := ⟨.running, some 3, none, none, 100, 0, true, some 2⟩
      chan := ⟨channel .threaded (some 4), channel .onScreen (some 3)⟩
      token := some .b
      sound := some .b
      motion := ⟨{ Motion.reset with filmClosed := true }, { Motion.reset with filmClosed := true }⟩ }

theorem test_arm_frame_and_reply :
    (ran (.byteReceived .a 0xF3 false)
      (withLink .a (fun k => { k with stage := .body, assembly := [0x02, 0x0B, 0x00] }) arming)).links.a.tx =
      .reply [0x7E, 0x06, 0x8B, 0x32, 0x88, 0x00, 0x02, 0x04, 0xAF] := by decide

/-- "The carbon check at ARM": C 1800 is CARBON_SHORT. -/
theorem test_arm_carbon_short : (replied .a (ran (.arm .a 0) (withArc .a (lit 1800) arming))).take 1 = [0x0F] := by decide

/-- "The carbon check on a resumed reel": with F 12000 the same stock is enough. -/
theorem test_arm_resumed :
    (ran (.arm .a 0) (withMotion .a (fun m => { m with frames := 12000 }) (withArc .a (lit 1800) arming))).chan.a.state =
      .armed := by decide

theorem test_disarm : (ran (.disarm .h 1) (showing .armed)).plan.entries.map (·.state) =
    [.running, .threaded, .pending] := by decide

theorem test_threaded_checks_label :
    (replied .b (ran (.threaded .b 1 9) (showing .idle))).take 1 = [0x0B] ∧
      (ran (.threaded .b 1 2) (showing .idle)).chan.b.entry = some 1 := by decide

theorem test_unthread : (ran (.unthread .b 1) (showing .threaded)).plan.entries.map (·.state) =
    [.running, .pending, .pending] := by decide

theorem test_stop_drops_the_show : (ran (.stop .a 0) (showing .armed)).prog.state = .stalled := by decide

theorem test_clear_after_picture :
    let t := ran (.clear .a 0) (withChan .a (fun c => { c with state := .halted, pastPicture := true })
      (showing .ready))
    (t.plan.entries.map (·.framesRun), (t.chanOf .a).state) = ([some 30212, none, none], .idle) := by decide

/-- "A roadshow pass and its rollover", clock 0. -/
theorem test_startShow_starts_motor :
    let t := ran (.startShow .h) { showing .armed with
      plan := ⟨[reel 2 .b .armed, reel 3 .a .pending], 1, 1⟩
      chan := ⟨Channel.reset, channel .armed (some 0)⟩
      token := none
      sound := none
      prog := ⟨.idle, none, none, none, 0, 0, false, none⟩ }
    ((t.chanOf .b).state, (t.chanOf .b).openOnReady, t.prog.state, t.prog.position) =
      (.starting, true, .running, some 0) := by decide

/-- "A guarded reel": the swap. -/
theorem test_changeNow_swaps :
    let t := ran (.changeNow .h) (showing .ready)
    ((t.chanOf .a).state, (t.chanOf .b).state, t.token, t.sound, t.prog.position) =
      (.tail, .onScreen, some .b, some .b, some 1) := by decide

/-! ### Arcs (chapter 4) -/

theorem test_strike_taken :
    let t := ran (.strike .b 1) (withArc .b { Arc.reset with carbon := 3000 } booth)
    ((t.arcOf .b).state, (t.arcOf .b).phase, (t.arcOf .b).contactor, (t.arcOf .b).strikeOut) =
      (.striking, .touch, true, .touching) := by decide

def striking (x : StrikePhase) : State :=
  withArc .b { Arc.reset with
    state := .striking, phase := x, carbon := 3000, contactor := true, elapsed := 14, strikeDue := some 30000 } booth

theorem test_arcCurrentChange_draws : (ran (.arcCurrentChange .b 72) (striking .touch)).arc.b.phase = .draw ∧
    (ran (.arcCurrentChange .b 59) (striking .touch)).arc.b.phase = .touch := by decide

theorem test_drawTimerExpiry_lights :
    (ran (.drawTimerExpiry .b 112) { striking .draw with inputs := { Inputs.reset with current := ⟨0, 58⟩ } }).arc.b.state =
      .lit := by decide

/-- "A failed strike": STRIKE_FAIL with DRAW, V 131, I 22, 14 tenths. -/
theorem test_drawTimerExpiry_fails :
    let t := ran (.drawTimerExpiry .b 131) { striking .draw with inputs := { Inputs.reset with current := ⟨0, 22⟩ } }
    (t.arc.b.state, t.arc.b.contactor, (match t.links.h.tx with
      | .notice frame => frame.drop 5
      | .idle => []
      | .reply _ => []).take 7) = (.off, false, [1, 0, 0, 2, 131, 22, 14]) := by decide

theorem test_touchTimerExpiry_fails : (ran (.touchTimerExpiry .b) (striking .touch)).arc.b.state = .off := by decide

theorem test_strikeElapsedTick_holds_at_35 :
    (ran (.strikeElapsedTick .b) (striking .touch)).arc.b.elapsed = 15 := by decide

theorem test_arcOff : (ran (.arcOff .b 1) (striking .touch)).arc.b.contactor = false := by decide

theorem test_carbonLoad_clamps : (ran (.carbonLoad .a 0 50) booth).arc.a.carbon = 100 ∧
    (ran (.carbonLoad .a 0 7000) booth).arc.a.carbon = 6000 := by decide

def burning (carbon : Nat) : State :=
  withArc .a (lit carbon) { booth with inputs := { Inputs.reset with current := ⟨58, 0⟩ } }

/-- "Feed computation", the first table and the end of the carbon. -/
theorem test_regulationInterval_feeds :
    [122, 126, 131, 117].map (fun v => (ran (.regulationInterval .a v) (burning 2500)).arc.a.issued) = [0, 2, 6, 0] := by
  decide

theorem test_regulationInterval_exhausts :
    let t := ran (.regulationInterval .a 131) (burning 403)
    (t.arc.a.state, t.arc.a.carbon, t.arc.a.issued, t.arc.a.asked) = (.exhausted, 400, 3, 6) := by decide

/-- "The burn record of a new arc", buckets 5 to 7. -/
theorem test_carbon_time :
    [((2936, 5), [12, 13, 14, 12, 13]), ((2922, 6), [12, 13, 14, 12, 13, 14]), ((2907, 7), [13, 14, 12, 13, 14, 15])].map
      (fun x => (withArc .a { lit x.1.1 with completed := x.1.2, ring := x.2 } booth).carbonTime .a) =
      [21737, 19400, 18570] := by decide

/-! ### Shutters, heat and fire (chapter 5) -/

/-- "A port shutter that sticks", from the drop to the recovery. -/
theorem test_shutterDrop_darkens :
    let t := ran (.shutterDrop .a 0) (showing .ready)
    (t.shutters.w.state, (t.chanOf .a).state, t.prog.state) = (.dropping, .dark, .stalled) := by decide

def sticking (x : ShutterState) : State :=
  { showing .ready with
    shutters := ⟨⟨x, some 300, x.lifts, x.holds, .request⟩, raised, ShutterRec.reset, ShutterRec.reset⟩
    chan := ⟨channel .dark (some 0), channel .ready (some 1)⟩
    prog := ⟨.stalled, some 0, none, none, 100, 0, true, none⟩
    inputs := { Inputs.reset with filmClosed := ⟨true, true⟩, closedSense := ⟨false, true, true, true⟩ } }

theorem test_closedSenseChange_comes_down :
    (ran (.closedSenseChange .portA true) (sticking .dropping)).shutters.w.state = .down := by decide

theorem test_shutterRaise : (replied .a (ran (.shutterRaise .a 0) (sticking .dropping))).take 1 = [0x14] ∧
    (ran (.shutterRaise .a 0) (sticking .jammed)).shutters.w = ⟨.raising, some 30000, true, true, .request⟩ := by decide

theorem test_raiseTimeout_jams : (ran (.raiseTimeout .portA) (sticking .raising)).shutters.w.state = .jammed := by decide

theorem test_dropTimeout_jams : (ran (.dropTimeout .portA) (sticking .dropping)).shutters.w.lastCause = .timeout := by
  decide

theorem test_openSenseChange_recovers :
    let t := ran (.openSenseChange .portA true) (sticking .raising)
    (t.shutters.w.state, t.shutters.w.lift, (t.chanOf .a).state, t.prog.state) = (.held, false, .onScreen, .running) := by
  decide

/-- "Heat escalation to fire": 152, then 148 and 146. -/
theorem test_heatReadingChange :
    (ran (.heatReadingChange .b 152) booth).heat.b = ⟨.stage1Wait, some 0, 152⟩ ∧
      ([148, 146].map fun n => (ran (.heatReadingChange .b n)
        (withHeat .b ⟨.stage1Wait, some 3, 152⟩ booth)).heat.b.state) = [.stage1Wait, .normal] := by decide

theorem test_heatStageTimerTick :
    (ran (.heatStageTimerTick .b) (withHeat .b ⟨.stage1Wait, some 3, 152⟩ booth)).heat.b.elapsed = some 4 := by decide

theorem test_heatStage1Expiry_halts :
    let t := ran (.heatStage1Expiry .a) (withHeat .a ⟨.stage1Wait, some 10, 161⟩ (showing .armed))
    (t.heat.a.state, (t.chanOf .a).state, t.token, t.prog.state) = (.dousedWait, .halted, none, .stalled) := by decide

/-- R107: T_h1 raised to 11 lengthens a wait of 10 tenths. -/
theorem test_heatStage1Expiry_lengthened :
    let s := withHeat .a ⟨.stage1Wait, some 10, 161⟩ (showing .armed)
    (ran (.heatStage1Expiry .a) { s with par := s.par.setRec (.dev .tH1) ⟨11, none⟩ }).heat.a =
      ⟨.stage1Wait, some 10, 161⟩ := by decide

theorem test_dousedWaitExpiry_is_fire :
    ([49, 50].map fun n => (ran (.dousedWaitExpiry .b) (withHeat .b ⟨.dousedWait, some n, 176⟩
      (showing .armed))).fire.first) = [none, some .heatB] := by decide

/-- "A pull station during a reel". -/
def burningBooth : State :=
  { showing .ready with shutters := ⟨raised, raised, raised, ShutterRec.reset⟩ }

theorem test_fireSourceOpen_is_fire :
    let t := ran (.fireSourceOpen .pull1) burningBooth
    ((t.shutters.w.state, t.shutters.x.state, t.shutters.y.state, t.shutters.z.state),
      (t.chan.a.state, t.chan.b.state), (t.arc.a.state, t.arc.b.state), t.prog.state, t.lights.groups.w.level) =
      ((.dropping, .dropping, .dropping, .down), (.halted, .halted), (.off, .off), .fireStop, 255) := by decide

/-- The part after that fire, a second source added. -/
def locked : State :=
  { burningBooth with
    chan := ⟨channel .halted (some 0), channel .halted (some 1)⟩
    token := none
    sound := none
    arc := ⟨Arc.reset, Arc.reset⟩
    shutters := ⟨ShutterRec.reset, ShutterRec.reset, ShutterRec.reset, ShutterRec.reset⟩
    prog := ⟨.fireStop, some 0, none, none, 100, 0, true, none⟩
    lights := ⟨⟨⟨255, false, 255, 255, 0, 0, .none, none⟩, ⟨255, false, 255, 255, 0, 0, .none, none⟩,
      ⟨255, false, 255, 255, 0, 0, .none, none⟩, ⟨255, false, 255, 255, 0, 0, .none, none⟩⟩, true, []⟩
    fire := ⟨true, some .pull1, [.pull1, .loop], some 100, true⟩ }

theorem test_fireReset_keys_and_sources :
    replied .h (ran (.fireReset .h) locked) = [0x12] ∧
      replied .h (ran (.fireReset .h) { locked with
        inputs := { Inputs.reset with key := true, pull1 := true, loop := true } }) = [0x13, 1, 2, 20, 20] := by decide

theorem test_fireReset_clears :
    let t := ran (.fireReset .h) { locked with inputs := { Inputs.reset with key := true } }
    (t.fire.lockout, t.fire.alarm, t.prog.state, t.lights.groups.w.level, told .a t) =
      (false, false, .stalled, 255, some 0x55) := by decide

theorem test_fireSourceClose_keeps_the_record :
    (ran (.fireSourceClose .pull1) { locked with inputs := { Inputs.reset with pull1 := true } }).inputs.pull1 = false := by
  decide

theorem test_keySwitchChange : (ran (.keySwitchChange true) locked).inputs.key = true := by decide

/-! ### Lights (chapter 6) -/

def fading (k : Nat) : State :=
  { booth with
    bus := { Bus.reset with state := .normal, packs := [] }
    lights := ⟨⟨⟨255, true, 255, 30, 200, k, .start, none⟩, GroupRec.reset, GroupRec.reset, GroupRec.reset⟩, false, []⟩ }

/-- "A house fade for the first reel". -/
theorem test_dimmerCycleStart_fades :
    ([0, 1, 99, 198, 199].map fun k => (ran .dimmerCycleStart (fading k)).lights.groups.w.level) =
      [254, 253, 143, 32, 30] := by decide

theorem test_lights_at_once :
    let t := ran (.lights .h 1 96 0) (fading 3)
    (t.lights.groups.w.level, t.lights.groups.w.active) = (96, false) := by decide

/-- "A run-out in the middle of a fade": the break action saves the target. -/
theorem test_break_saves_target :
    ((fading 100).lights.breakAction 0 5 96 20).groups.w.save = some 30 := by decide

/-! ### The dimmer bus (chapter 7) -/

def pack (a : Nat) (sent : Option Nat) (since misses : Nat) : Pack :=
  ⟨BitVec.ofNat 24 (0x1000 * a), a, some .house, 255, sent, since, true, false, misses⟩

def house15 (pointer : Nat) : State :=
  { booth with
    lights := ⟨⟨⟨96, false, 96, 96, 0, 0, .request, none⟩, GroupRec.reset, GroupRec.reset, GroupRec.reset⟩, false, []⟩
    bus := { Bus.reset with
      state := .normal
      pointer := pointer
      packs := (List.range 15).map fun i => pack (i + 1) (some 30) 2 0 } }

/-- "Spreading a change over cycles", c1. -/
theorem test_dimmerCycleStart_spreads :
    let t := ran .dimmerCycleStart (house15 15)
    (t.bus.plan, t.bus.pointer) = ([1, 2, 3, 4, 5, 6], 6) := by decide

def replying (misses : Nat) : State :=
  { booth with bus := { Bus.reset with state := .normal, packs := [pack 7 none 0 misses], window := some 7 } }

/-- "A pack found absent", c51 and c52. -/
theorem test_levelReplyWindowEnd_counts_misses :
    ([1, 2].map fun m => (ran (.levelReplyWindowEnd []) (replying m)).bus.packs.map fun x => (x.misses, x.isPresent)) =
      [[(2, true)], [(3, false)]] := by decide

theorem test_levelPacketSent_opens_window :
    (ran .levelPacketSent { house15 15 with bus := { (house15 15).bus with plan := [3] } }).bus.window = some 3 := by
  decide

/-- "A returning pack and a full table": round 1. -/
def fullTable : State :=
  { house15 15 with
    bus := { (house15 15).bus with
      roundDue := true
      packs := (List.range 15).map fun i =>
        if i = 8 then ⟨0x3A0F55, 9, some .stage, 180, some 0, 0, false, false, 3⟩ else pack (i + 1) (some 30) 2 0 } }

theorem test_identifyRoundEnd_returns :
    (ran (.identifyRoundEnd [0x41B200, 0x3A1C07, 0x3A0F55] [0xF0, 9, 0x07]) fullTable).bus.packs.map
        (fun x => (x.address, x.isPresent)) =
      (List.range 15).map fun i => (i + 1, true) := by decide

theorem test_busBreakEnd : (ran .busBreakEnd booth).bus.breakEnded = true := by decide

theorem test_busReset_busy : (replied .h (ran (.busReset .h) booth)) = [0x14] ∧
    (ran (.busReset .h) (house15 15)).bus.state = .resetPending := by decide

theorem test_packRead_unknown : replied .a (ran (.packRead .a 3) booth) = [0x07] := by decide

theorem test_packWrite : (ran (.packWrite .h 7 2 180) (house15 15)).bus.packs[6]?.map (fun x => (x.group, x.top)) =
    some (some .aisle, 180) := by decide

theorem test_packForget_present : (replied .h (ran (.packForget .h 7) (house15 15))) = [0x0D] := by decide

/-! ### The show (chapter 8) -/

def resting (timer : Option Nat) : State :=
  { showing .armed with
    chan := ⟨Channel.reset, channel .armed (some 1)⟩
    token := none
    sound := none
    prog := ⟨.intermission, some 0, timer, some 0, 100, 9, true, some 0⟩ }

theorem test_intermissionTimerTick : (ran .intermissionTimerTick (resting (some 600))).prog.timer = some 599 := by decide

theorem test_intermissionExpiry_resumes :
    let t := ran .intermissionExpiry (resting (some 1))
    (t.prog.state, t.prog.position, (t.chanOf .b).state, told .h t) = (.running, some 1, .starting, some 0x5B) := by decide

/-- R160: 60 seconds added to the last one, and then the expiry that came together with the extend. -/
theorem test_intermissionExpiry_after_extend_runs_on :
    let t := ran .intermissionExpiry (resting (some 61))
    (t.prog.state, t.prog.timer) = (.intermission, some 60) := by decide

theorem test_intermissionExtend_holds_3600 : replied .h (ran (.intermissionExtend .h 3600) (resting (some 600))) =
    [0x01, 0x0E, 0x10] := by decide

theorem test_showClockTick_carries :
    ((ran .showClockTick (resting none)).prog.clock, (ran .showClockTick (resting none)).prog.tenths) = (101, 0) := by
  decide

/-! ### Links (chapter 9) -/

theorem test_ident_role_taken : replied .h (ran (.ident .h 0) (withLink .h (fun k => { k with binding := none }) booth)) =
    [0x04] := by decide

theorem test_status_links : replied .h (ran (.status .h 8) booth) =
    [0, 0, 0, 0, 0, 0, 1, 0, 0, 0, 0, 2, 1, 0, 0, 0] := by decide

theorem test_interbyteGapTimeout_discards :
    (ran (.interbyteGapTimeout .a) (withLink .a (fun k => { k with stage := .length }) booth)).links.a.discard = true := by
  decide

theorem test_linkBreak_frees_the_role :
    let t := ran (.linkBreak .a) booth
    (t.links.a.binding, t.links.a.stage, told .h t) = (none, .brk, some 0x5E) := by decide

theorem test_linkMarkReturn : (ran (.linkMarkReturn .a) (withLink .a (fun k => { k with stage := .brk }) booth)).links.a.stage =
    .hunt := by decide

/-- "Three requests and an overrun": STRIKE finds both slots held; the ARM reply ends. -/
def busyLink : State :=
  withLink .b (fun k => { k with slots := [[0x0B, 1], [2, 0]], replies := [⟨0x82, .ok, []⟩], tx := .reply [0x7E] }) booth

theorem test_strike_overrun : (ran (.strike .b 1) busyLink).links.b.overrun = true ∧
    (ran (.strike .b 1) busyLink).arc.b.state = .off := by decide

theorem test_transmitFrameEnd_frees_slot :
    let t := ran (.transmitFrameEnd .b) busyLink
    (t.links.b.slots, t.links.b.replies, replied .b t) = ([[2, 0]], [], [0]) := by decide

theorem test_unknownRequestKind : replied .a (ran (.unknownRequestKind .a 0x22 []) booth) = [0x06] := by decide

theorem test_frameReceived_wrong_length : replied .a (ran (.frameReceived .a [0x0B]) booth) = [0x06] := by decide

theorem test_routeRead : replied .h (ran (.routeRead .h 0x57) booth) = [0, 0x57, 4] := by decide

theorem test_routeWrite_keeps_fire : replied .h (ran (.routeWrite .h 0x54 1) booth) = [1, 0x54, 7] := by decide

/-! ### Parameters (chapter 10) -/

/-- "A run-up limit written in the middle of a reel", the first write. -/
theorem test_paramWrite_raises_limit :
    let t := ran (.paramWrite .h 4 0 95) booth
    (t.par.proj.a.tR1, t.par.proj.a.tR2, (replied .h t).take 1) = (⟨40, some 95⟩, ⟨100, some 105⟩, [1]) := by decide

theorem test_paramRead_record : replied .h (ran (.paramRead .h 1 1) booth) =
    [0, 1, 1, 0, 240, 0, 0, 0, 2, 0, 160, 1, 44, 0, 240] := by decide

/-! ### Hypotheses that are met -/
/-! One theorem for each statement that has hypotheses, one line for each of its clauses, in the order of the
statement. -/

theorem met_StepRunsFront : booth.pending = [] := by decide

theorem met_ReceiverAssemblesFrames :
    1 ≤ [(0x0B : Byte), 0].length ∧ [(0x0B : Byte), 0].length ≤ 48 ∧ (booth.linkOf .a).stage = .hunt ∧
      (booth.linkOf .a).assembly = [] := by decide

/-- A KIND above the requests', KIND 00h, and a KIND of a request with a parameter too few. -/
theorem met_MalformedFramesAnswered :
    (listens .a booth ∧ (0x22 : Byte).toNat > 0x21 ∧ ([] : List Byte).length ≤ 47) ∧
      (listens .a booth ∧ (0 : Byte).toNat = 0) ∧
      ∀ r : Request, requestCode r = 0x0B → (requestParams r).length ≠ ([] : List Byte).length := by
  refine ⟨by decide, by decide, fun r h => ?_⟩
  cases r <;> first | (simp [requestCode] at h; done) | simp [requestParams]

theorem met_RequestChecks :
    (listens .a State.reset ∧ (State.reset.linkOf .a).binding = none ∧ requestCode .startShow ≠ 1) ∧
      (listens .a booth ∧ (Request.arm 2).named = false ∧ (booth.linkOf .a).binding.isSome = true) ∧
      (listens .a State.reset ∧ (Request.ident 3).named = false ∧ requestCode (.ident 3) = 1) ∧
      (listens .a booth ∧ (booth.linkOf .a).binding = some .a ∧ (Request.arm 1).named = true ∧
        (Request.arm 1).permits .a = false) ∧
      ((withLink .a (fun k => { k with stage := .brk }) booth).linkOf .a).stage = .brk ∧
      ((busyLink.linkOf .b).stage ≠ .brk ∧ 2 ≤ (busyLink.linkOf .b).slots.length) := by decide

def receiving (x : RxStage) (bytes : List Byte) : State :=
  withLink .a (fun k => { k with stage := x, assembly := bytes }) booth

theorem met_ReceiverStages :
    ((receiving .brk []).linkOf .a).stage = .brk ∧
      (((receiving .hunt []).linkOf .a).stage = .hunt ∧ (0 : Byte) ≠ 0x7E) ∧
      (((receiving .length []).linkOf .a).stage = .length ∧ 1 ≤ (48 : Byte).toNat ∧ (48 : Byte).toNat ≤ 48) ∧
      (((receiving .length []).linkOf .a).stage = .length ∧ 48 < (49 : Byte).toNat) ∧
      ((receiving .body [2, 0x0B]).linkOf .a).stage = .body ∧
      (((receiving .body [2, 0x0B]).linkOf .a).assembly = (2 : Byte) :: [0x0B] ∧ [(0x0B : Byte)].length < (2 : Byte).toNat) ∧
      (((receiving .body [2, 0x0B, 0]).linkOf .a).assembly = (2 : Byte) :: [0x0B, 0] ∧
        [(0x0B : Byte), 0].length = (2 : Byte).toNat ∧ byteSum ([(2 : Byte), 0x0B, 0] ++ [0]) ≠ 0) := by decide

theorem met_LinkRolesAndBreaks :
    ((receiving .brk []).linkOf .a).stage = .brk ∧ (booth.linkOf .a).stage ≠ .brk ∧ (booth.linkOf .a).tx = .idle ∧
      ((withLink .a (fun k => { k with tx := .notice [0x7E] }) booth).linkOf .a).tx = .notice [0x7E] ∧
      (busyLink.linkOf .b).tx = .reply [0x7E] ∧
      (listens .a booth ∧ (booth.linkOf .a).binding.isSome = true) ∧
      (let s := withLink .a (fun k => { k with binding := none }) booth
       listens .a s ∧ (s.linkOf .a).binding = none ∧ (s.linkOf .b).binding = some Role.b ∧
        ∀ m ∈ Connector.every, (s.linkOf m).binding ≠ some Role.a) := by decide

/-- The queue of "A house queue under pressure", and a queue that is not full. -/
def pressed : Link :=
  { Link.reset with
    binding := some .h
    notices := List.replicate 13 ⟨.packEvent, 1, 0, []⟩ ++
      [⟨.arcState, 0, 0, [1]⟩, ⟨.lightsDone, 0, 0, [30]⟩, ⟨.packEvent, 1, 0, []⟩] }

theorem met_NoticesQueued :
    Link.reset.binding = none ∧
      (pressed.binding = some .h ∧ ¬((3 : BitVec 3).getLsbD Role.h.bit = true)) ∧
      ((7 : BitVec 3).getLsbD Role.h.bit = true ∧ NoticeKind.lightsDone.coalesces = true ∧
        (pressed.notices.any fun m => decide (m.kind = .lightsDone ∧ m.subject = 0)) = true) ∧
      (NoticeKind.busResetDone.coalesces = false ∧ ({ pressed with notices := [] }).notices.length < 16) ∧
      (16 ≤ pressed.notices.length ∧ NoticeKind.busResetDone.isFire = false) ∧
      (NoticeKind.fire.coalesces = false ∧ NoticeKind.fire.isFire = true ∧
        pressed.notices = [] ++ ⟨.packEvent, 1, 0, []⟩ :: pressed.notices.tail ∧ NoticeKind.packEvent.isFire = false) := by
  decide

theorem met_StatusReads :
    heard .a .a booth ∧ 8 < (9 : Byte).toNat ∧ (8 : Byte).toNat ≤ 8 ∧
      ((showing .ready).remaining .a = some 188 ∧ (showing .ready).remainingTime .a = some 79) ∧
      booth.entryOf .a = none := by decide

theorem met_RoutingMasks :
    heard .h .h booth ∧ NoticeKind.ofCode 0x3F = none ∧ NoticeKind.ofCode 0x5F = none ∧ NoticeKind.fire.code = 0x54 := by
  decide

theorem met_EntryRecordRoundTrip : (reel 99 .a .pending).inRange = true ∧
    ({ reel 1 .b .done with brk := .intermission 1800 (some ⟨15, 255, 600⟩), feet := 2200 }).inRange = true := by decide

theorem met_NextEntriesAndPlanReads :
    State.reset.prog.position = none ∧ resumable.prog.position = some 2 ∧
      (heard .a .a roadshow ∧ (roadshow.entryAt 4).isSome = true ∧ (4 : Byte) ≠ 0xFF) ∧
      (heard .a .a roadshow ∧ roadshow.entryAt 5 = none ∧ (5 : Byte) ≠ 0xFF) := by decide

theorem met_PlanWrites :
    heard .h .h roadshow ∧ roadshow.entryAt (5 : Byte).toNat = none ∧
      (showing .armed).entryAt (1 : Byte).toNat = some (reel 2 .b .armed) ∧
      (roadshow.entryAt (2 : Byte).toNat).map (·.state) = some .pending ∧
      alternates (roadshow.plan.entries.set 2 (reel 3 .a .pending)) = false ∧
      alternates (roadshow.plan.entries.set 1 (reel 9 .b .pending)) = true := by decide

theorem met_PlanInserts :
    (heard .h .h roadshow ∧ roadshow.plan.entries.length < (6 : Byte).toNat) ∧
      (let s := withReels (List.replicate 16 (reel 1 .a .skipped)) booth
       heard .h .h s ∧ (16 : Byte).toNat ≤ s.plan.entries.length ∧ 16 ≤ s.plan.entries.length) ∧
      ((showing .ready).entryAt 1 = some (reel 2 .b .running) ∧ (1 : Byte).toNat ≤ 1) ∧
      (let entries (x : Entry) := roadshow.plan.entries.take 3 ++ x :: roadshow.plan.entries.drop 3
       (∀ e ∈ roadshow.plan.entries, e.state = .pending) ∧ alternates (entries (reel 9 .a .pending)) = false ∧
        alternates (entries (reel 9 .b .pending)) = true) := by decide

theorem met_PlanDeletes :
    heard .h .h roadshow ∧ roadshow.entryAt (5 : Byte).toNat = none ∧
      (showing .armed).entryAt (1 : Byte).toNat = some (reel 2 .b .armed) ∧
      (roadshow.entryAt 1 = some (reel 2 .b .pending) ∧ roadshow.prog.position = none) ∧
      alternates (roadshow.plan.entries.take 1 ++ roadshow.plan.entries.drop 2) = false ∧
      alternates (roadshow.plan.entries.take 3 ++ roadshow.plan.entries.drop 4) = true := by decide

theorem met_PlanSkipsAndHeaders :
    heard .h .h roadshow ∧ roadshow.entryAt (5 : Byte).toNat = none ∧
      (showing .armed).entryAt (1 : Byte).toNat = some (reel 2 .b .armed) ∧
      ((ran (.planSkip .h 4) roadshow).entryAt 4).map (·.state) = some .skipped ∧
      alternates (roadshow.plan.entries.set 1 { reel 2 .b .pending with state := .skipped }) = false ∧
      alternates (roadshow.plan.entries.set 4 { reel 5 .b .pending with state := .skipped }) = true ∧
      roadshow.prog.state ≠ .ended ∧
      (let s := withReels [reel 1 .a .done] { booth with prog := { booth.prog with state := .ended } }
       heard .h .h s ∧ s.prog.state = .ended ∧ ∀ e ∈ s.plan.entries, e.state ≠ .running) := by decide

def shown (x : ShowState) (pass count : Nat) : State :=
  { booth with plan := ⟨[reel 1 .a .done, reel 2 .b .skipped], count, pass⟩, prog := { booth.prog with state := x } }

theorem met_ExhaustionTest :
    (let exhausted (s : State) : Prop := (∃ e ∈ s.plan.entries, e.state = .done) ∧
      (∀ e ∈ s.plan.entries, e.state ≠ .armed ∧ e.state ≠ .running) ∧ s.nextEntry = none
     ¬exhausted roadshow ∧ exhausted (shown .running 1 2) ∧ exhausted (shown .stalled 2 2) ∧
      exhausted (shown .ended 1 2)) ∧
      ¬((shown .stalled 2 2).plan.repeatCount = 0 ∨ 2 < (shown .stalled 2 2).plan.repeatCount) := by decide

theorem met_ReelsThreaded :
    heard .b .b (showing .threaded) ∧ Role.own .b = some .b ∧ ((showing .threaded).chanOf .b).state = .threaded ∧
      ((((showing .threaded).chanOf .b).entry.bind (showing .threaded).entryAt).map (·.label)) = some (2 : Byte).toNat ∧
      ((showing .armed).chanOf .b).state = .armed ∧
      (((showing .idle).chanOf .b).state = .idle ∧ (showing .idle).nextFor .b = some 1 ∧
        ((showing .idle).motionOf .b).filmClosed = true ∧
        (((showing .idle).entryAt 1).map (·.label)) = some (2 : Byte).toNat) ∧
      ((withMotion .b (fun m => { m with filmClosed := false }) (showing .idle)).motionOf .b).filmClosed = false := by
  decide

theorem met_ReelsArmed :
    heard .b .b (showing .armed) ∧ Role.own .b = some .b ∧ ((showing .armed).chanOf .b).state = .armed ∧
      ((showing .ready).chanOf .b).state = .ready ∧
      (let s := showing .threaded
       (s.chanOf .b).state = .threaded ∧ (s.nextEntry.isSome = true ∧ (s.chanOf .b).entry = s.nextEntry) ∧
        s.fire.lockout = false ∧ (s.arcOf .b).state = .lit ∧ (s.shutterOf Projector.b.port).state = .held ∧
        ¬(s.carbonTime .b < ceilDiv (s.rf .b * 100) (s.held .b .snom) + s.held .b .mc)) ∧
      ((withArc .b Arc.reset (showing .threaded)).arcOf .b).state ≠ .lit := by decide

theorem met_ReelsHaltedAndCleared :
    ((showing .armed).chanOf .a).state.running = true ∧ ((showing .armed).chanOf .b).state = .armed ∧
      ((showing .ready).token = some .a ∧ HaltCause.stall ≠ .fire) ∧
      (heard .a .a (showing .ready) ∧ Role.own .a = some .a) ∧
      (let s := withChan .a (fun c => { c with state := .halted }) (showing .ready)
       (s.chanOf .a).state = .halted ∧ (s.chanOf .a).pastPicture = false ∧ (s.motionOf .a).filmClosed = true ∧
        ((withMotion .a (fun m => { m with filmClosed := false }) s).motionOf .a).filmClosed = false ∧
        ((withChan .a (fun c => { c with pastPicture := true }) s).chanOf .a).pastPicture = true ∧
        (s.chanOf .a).entry = some 0) := by decide

theorem met_ShowStarts :
    heard .a .a (resting none) ∧ locked.fire.lockout = true ∧
      ((showing .ready).fire.lockout = false ∧ (showing .ready).token ≠ none) ∧
      (let s := resting (some 600)
       s.fire.lockout = false ∧ s.prog.state = .intermission ∧ s.token = none ∧ s.nextChannel = some .b ∧
        (s.chanOf .b).state = .armed) ∧
      (let s := { resting none with prog := { (resting none).prog with state := .stalled } }
       s.prog.state ≠ .intermission ∧ s.nextChannel = some .b) := by decide

theorem met_PictureSwaps :
    (let s := showing .ready
     heard .h .h s ∧ s.token = some .a ∧ (s.chanOf .b).state = .ready ∧ s.pictureConditions .b = true ∧
      s.nextEntry.isSome = true ∧ (s.chanOf .b).entry = s.nextEntry) ∧
      ((showing .armed).token = some .a ∧ ((showing .armed).chanOf .b).state ≠ .ready) ∧ booth.token = none := by decide

/-- B READY for the next reel while no channel holds the token. -/
def lone (x : ShowState) (wanted : Bool) : State :=
  { withChan .b (fun c => { c with openOnReady := wanted }) (withChan .a (fun c => { c with state := .tail })
      (showing .ready)) with
    token := none, sound := none, prog := { (showing .ready).prog with state := x } }

theorem met_PictureReports :
    ((((showing .ready).chanOf .a).state = .onScreen ∧
        ((withArc .a Arc.reset (showing .ready)).arcOf .a).state ≠ .lit)) ∧
      (((sticking .held).chanOf .a).state = .dark ∧ ((sticking .held).shutterOf Projector.a.port).state = .held ∧
        ((sticking .held).arcOf .a).state = .lit) ∧
      ((showing .armed).chanOf .b).state = .armed ∧
      (let s := withChan .a (fun c => { c with deferred := true }) (showing .ready)
       (s.chanOf .b).state = .ready ∧ s.token = some (Projector.other .b) ∧ (s.chanOf .a).deferred = true ∧
        (s.chanOf .b).entry = s.nextEntry ∧ s.nextEntry.isSome = true) ∧
      ((showing .ready).chanOf .a).deferred = false ∧
      ((lone .running true).token = none ∧ ((lone .running true).chanOf .b).openOnReady = true) ∧
      ((lone .running false).prog.state ≠ .stalled ∧ ((lone .running false).chanOf .b).openOnReady = false) ∧
      ((lone .stalled false).prog.state = .stalled ∧
        ((lone .stalled false).chanOf .b).entry = (lone .stalled false).nextEntry) := by decide

theorem met_CuesTaken : (showing .ready).entryOf .a = some (reel 1 .a .running) := by decide

/-- A holder whose reel has a break. -/
def breaking (x : BreakAfter) : State :=
  { showing .ready with plan := ⟨[{ reel 1 .a .running with brk := x }, reel 2 .b .running, reel 3 .a .pending], 1, 1⟩ }

theorem met_ReelsEnd :
    (((showing .ready).chanOf .a).entry = some 0 ∧ (showing .ready).entryAt 0 = some (reel 1 .a .running) ∧
      (reel 1 .a .running).brk = .absent ∧ (showing .ready).prog.state = .running) ∧
      (((breaking (.intermission 600 none)).entryAt 0).map (·.brk)) = some (.intermission 600 none) ∧
      (((breaking (.ending none)).entryAt 0).map (·.brk)) = some (.ending none) ∧
      (locked.prog.state ≠ .running ∧ locked.prog.state ≠ .stalled ∧ (locked.chanOf .a).entry = some 0 ∧
        (locked.entryAt 0).isSome = true) ∧
      (((lone .running true).chanOf .a).state = .tail ∧ ((lone .running true).chanOf .a).entry = some 0) := by decide

theorem met_BoothResets :
    (heard .h .h locked ∧ locked.fire.lockout = true) ∧ heard .h .h resumable ∧ resumable.fire.lockout = false := by decide

theorem met_MeasuredSpeed :
    [418, 418, 418, 418, 417, 417, 417, 417].length = 8 ∧ ([] : List Nat).length < 8 ∧
      ∀ x ∈ [100, 100, 100, 100, 65535, 65535, 65535, 65535], 100 ≤ x ∧ x ≤ 65535 := by decide

theorem met_PulsesCaptured :
    (runningUp.motionOf .b).ring.length ≤ 8 ∧ max runningUp.motionCount 7917 - (runningUp.motionOf .b).pulseRef < 100 ∧
      100 ≤ max runningUp.motionCount 7918 - (runningUp.motionOf .b).pulseRef ∧
      ((showing .armed).chanOf .b).state.running = false ∧
      ((showing .ready).chanOf .a).state.running = true ∧ ((showing .ready).chanOf .a).state ≠ .starting ∧
      (let all := (runningUp.motionOf .b).ring ++ [8234 - 7818]
       let ring := all.drop (all.length - 8)
       (runningUp.chanOf .b).state = .starting ∧ ring.length = 8 ∧
        (((800000 / ring.sum : Nat) : Int) - runningUp.held .b .snom).natAbs ≤ runningUp.held .b .tol ∧
        (runningUp.motionOf .b).speedReached = false) := by decide

theorem met_FootagePointsRaised :
    (showing .ready).entryOf .a = some (reel 1 .a .running) ∧ ((showing .ready).chanOf .a).state.holding = true ∧
      ((lone .running true).entryOf .a).isSome = true ∧ ((lone .running true).chanOf .a).state = .tail ∧
      ((showing .armed).entryOf .b).isSome = true ∧ ((showing .armed).chanOf .b).state.holding = false := by decide

theorem met_FilmAndPulsesMissing :
    booth.motionCount < (booth.motionOf .a).pulseRef + 65535 ∧
      (let s := { booth with motionCount := 65535 }
       (s.motionOf .a).pulseRef + 65535 ≤ s.motionCount) ∧
      (booth.motionOf .a).stallWatch = none ∧ (stalling.motionOf .a).stallWatch = some 10 ∧
      (let s := { stalling with motionCount := 2509 }
       s.motionCount < 10 + s.held .a .stallTime) ∧
      10 + stalling.held .a .stallTime ≤ stalling.motionCount ∧ booth.inputs.filmClosed.get .a = false ∧
      ((booth.motionOf .a).filmDue = some 500 ∧ booth.motionCount < 500) ∧
      ((filmGoing.motionOf .a).filmDue = some 500 ∧ 500 ≤ filmGoing.motionCount) ∧
      ((showing .ready).inputs.filmClosed.get .a = true ∧
        ((withMotion .a (fun m => { m with filmDue := none }) booth).motionOf .a).filmDue = none) := by decide

theorem met_FoilsQualified :
    booth.inputs.foil.get .a = false ∧ (booth.motionOf .a).foilStage ≠ .qualifying ∧
      ((foiled 30221).motionOf .a).foilStage = .qualifying ∧ (booth.motionOf .a).foilStage ≠ .releasing ∧
      ((withMotion .a (fun m => { m with foilStage := .releasing }) booth).motionOf .a).foilStage = .releasing := by decide

theorem met_RunupTimed :
    (booth.chanOf .a).runup ≠ .one ∧ (runningUp.chanOf .b).runup = .one ∧ (booth.chanOf .a).runup ≠ .two ∧
      ((withChan .b (fun c => { c with runup := .two }) runningUp).chanOf .b).runup = .two ∧
      (booth.chanOf .a).state ≠ .starting ∧ (runningUp.chanOf .b).state = .starting := by decide

theorem met_ArcRequests :
    heard .a .a (showing .ready) ∧ Role.own .a = some .a ∧ ((showing .ready).arcOf .a).state = .lit ∧
      (heard .a .a locked ∧ (locked.arcOf .a).state = .off ∧ locked.fire.lockout = true) ∧
      (heard .a .a booth ∧ booth.fire.lockout = false ∧ (booth.arcOf .a).carbon ≤ booth.held .a .stub + 50) ∧
      (let s := withArc .a { Arc.reset with carbon := 451 } booth
       heard .a .a s ∧ (s.arcOf .a).state = .off ∧ s.fire.lockout = false ∧
        ¬((s.arcOf .a).state = .exhausted ∨ (s.arcOf .a).carbon ≤ s.held .a .stub + 50)) ∧
      ((withArc .a { Arc.reset with state := .fault } booth).arcOf .a).state = .fault := by decide

theorem met_StrikeEvents :
    (booth.arcOf .b).phase ≠ .touch ∧ ((striking .touch).arcOf .b).phase = .touch ∧ (booth.arcOf .b).phase ≠ .draw ∧
      (let s := { striking .draw with inputs := { Inputs.reset with current := ⟨0, 40⟩ } }
       (s.arcOf .b).phase = .draw ∧ s.held .b .vt ≤ (104 : Byte).toNat + 16 ∧
        s.held .b .holdThreshold ≤ s.inputs.current.get .b ∧ s.held .b .stub < (s.arcOf .b).carbon ∧
        ¬(s.held .b .vt ≤ (103 : Byte).toNat + 16)) ∧
      (let s := withArc .b { (striking .draw).arc.b with carbon := 400 } booth
       (s.arcOf .b).phase = .draw ∧ (s.arcOf .b).carbon ≤ s.held .b .stub) ∧
      (booth.arcOf .b).state ≠ .striking ∧ ((striking .touch).arcOf .b).state = .striking := by decide

/-- The amount of carbon after an interval at V 131, and the run of high voltages before it. -/
theorem met_ArcRegulated :
    (booth.arcOf .a).state ≠ .lit ∧
      (((withArc .a (lit 2500) booth).arcOf .a).state = .lit ∧
        (withArc .a (lit 2500) booth).inputs.current.get .a < booth.held .a .holdThreshold) ∧
      (((burning 403).arcOf .a).state = .lit ∧ (burning 403).held .a .holdThreshold ≤ (burning 403).inputs.current.get .a ∧
        (ran (.regulationInterval .a 131) (burning 403)).arc.a.carbon ≤ 400) ∧
      ((ran (.regulationInterval .a 141) (withArc .a { lit 2500 with highRun := 19 } (burning 2500))).arc.a.state =
        .fault) ∧
      ((burning 2500).arcOf .a).intervals + 1 ≠ 100 ∧
      ((ran (.regulationInterval .a 131) (withArc .a { lit 2500 with intervals := 99 } (burning 2500))).arc.a.ring) =
        [6] := by decide

theorem met_CarbonAndReelTimes :
    (booth.arcOf .a).carbon ≤ booth.held .a .stub ∧ (burning 2500).held .a .stub < ((burning 2500).arcOf .a).carbon ∧
      0 < (burning 2500).held .a .bn ∧
      (let x := { lit 2500 with completed := 6, ring := [0, 0, 0, 0, 0, 0] }
       6 ≤ x.completed ∧ x.ring.sum = 0) ∧
      booth.entryOf .a = none ∧ (showing .ready).entryOf .a = some (reel 1 .a .running) := by decide

theorem met_ShutterRequests :
    (heard .a .a (showing .ready) ∧ Role.own .a = some .a ∧ Projector.port .a = .portA) ∧
      ((showing .ready).shutterOf .portA).state = .held ∧ ((sticking .dropping).shutterOf .portA).state = .dropping ∧
      ((sticking .jammed).shutterOf .portA).state = .jammed ∧ (sticking .jammed).fire.lockout = false ∧
      ((locked.shutterOf .portA).state = .down ∧ locked.fire.lockout = true) := by decide

theorem met_ShuttersMove :
    ((sticking .raising).shutterOf .portA).state = .raising ∧ ((sticking .held).shutterOf .portA).state = .held ∧
      ((sticking .dropping).shutterOf .portA).state = .dropping ∧ ((sticking .jammed).shutterOf .portA).state = .jammed ∧
      (booth.shutterOf .portA).state = .down := by decide

theorem met_HeatAndFireInputs :
    (booth.heatOf .b).state ≠ .stage1Wait ∧
      (let s := withHeat .b ⟨.stage1Wait, some 10, 161⟩ booth
       (s.heatOf .b).state = .stage1Wait ∧ (s.heatOf .b).elapsed = some 10 ∧ s.heldDev .tH1 ≤ 10) ∧
      ¬(booth.heldDev .tH1 ≤ 9) ∧ (booth.heatOf .b).state ≠ .dousedWait ∧
      (let s := withHeat .b ⟨.dousedWait, some 50, 176⟩ booth
       (s.heatOf .b).state = .dousedWait ∧ (s.heatOf .b).elapsed = some 50 ∧ s.heldDev .tH2 ≤ 50) ∧
      ¬(booth.heldDev .tH2 ≤ 49) ∧
      booth.fire.lockout = false ∧ (locked.fire.lockout = true ∧ Source.loop ∈ locked.fire.recorded) ∧
      Source.pull2 ∉ locked.fire.recorded := by decide

theorem met_FireEntry : burningBooth.tokenLaw ∧ burningBooth.sound = burningBooth.token := by decide

theorem met_FireResets :
    (heard .h .h booth ∧ booth.fire.lockout = false) ∧
      (heard .h .h locked ∧ locked.fire.lockout = true ∧ locked.inputs.key = false) ∧
      (let s := { locked with inputs := { Inputs.reset with key := true } }
       heard .h .h s ∧ s.inputs.key = true ∧ s.boothLaw ∧ s.inputs.heat.a + 4 ≤ s.held .a .heatThreshold) ∧
      ({ Inputs.reset with key := true, heat := ⟨147, 0⟩ } : Inputs).heat.a + 4 > locked.held .a .heatThreshold := by
  decide

theorem met_LightsActedAndRestored :
    locked.lights.emergency = true ∧ (fading 3).lights.emergency = false ∧ heard .a .a (fading 3) ∧ heard .a .a locked ∧
      (let x := (fading 3).lights
       (x.groupAt .stage).level = (0 : Byte).toNat ∧ (x.groupAt .stage).active = false ∧ (x.groupAt .stage).save = none) ∧
      ((fading 3).lights.groupAt .house).active = true := by decide

theorem met_CyclesAndPacketsPlanned : (house15 15).bus.state = .normal ∧ (house15 15).bus.pointer ≤ 15 := by decide

theorem met_LevelPackets :
    ((house15 15).bus.packs.map (·.address)).Nodup ∧ (house15 15).bus.plan = [] ∧
      ((replying 2).bus.window = some 7 ∧ (replying 2).bus.packAt 7 = some (pack 7 none 0 2)) ∧
      (let b := { (house15 15).bus with plan := [3, 4] }
       b.roundDue = false ∧ b.window = none ∧ b.plan = 3 :: [4] ∧ b.packAt 3 = some (pack 3 (some 30) 2 0)) ∧
      (replying 2).bus.packAt 3 = none ∧
      ([0xC0, byte 7, -(0xC0 + byte 7)] : List Byte) = [0xC0, 7, 0x39] := by decide

def round (packs : List Pack) (withheld : List Nat) : State :=
  { booth with bus := { Bus.reset with state := .enumerating, roundDue := true, packs := packs, withheld := withheld } }

theorem met_IdentifyRounds :
    ([0x41B200, 0x3A1C07] : List Serial) ≠ [] ∧ (fullTable.bus.packs.map (·.address)).Nodup ∧
      booth.bus.roundDue = false ∧ (round [] []).bus.roundDue = true ∧
      (fullTable.bus.packOf (readSerial [0x3A1C07, 0x3A0F55])).map (·.address) = some 9 ∧
      (let b := (round [pack 1 none 0 0, pack 3 none 0 0] [2]).bus
       b.packOf (readSerial [0x41B200]) = none ∧ (b.packs.map (·.address)).Nodup ∧ 2 ∈ b.withheld ∧
        (∀ y ∈ b.packs, y.address ≠ 4) ∧ 4 ∉ b.withheld) ∧
      (fullTable.bus.packOf 0x41B200 = none ∧
        ∀ a ∈ (List.range 15).map (· + 1), ∃ y ∈ fullTable.bus.packs, y.address = a) ∧
      ([0xF0, byte 9, -(0xF0 + byte 9)] : List Byte) = [0xF0, 9, 0x07] := by decide

theorem met_BusRequests :
    booth.bus.state = .brk ∧ (house15 15).bus.state = .normal ∧ heard .h .h (house15 15) ∧
      ((3 : Byte) ≠ 0xFF ∧ booth.bus.packAt (3 : Byte).toNat = none) ∧
      ((house15 15).bus.packAt (3 : Byte).toNat = some (pack 3 (some 30) 2 0) ∧ (pack 3 (some 30) 2 0).isPresent = true) ∧
      (fullTable.bus.packAt (9 : Byte).toNat).map (·.isPresent) = some false := by decide

theorem met_ParametersWritten :
    heard .h .h booth ∧ ParamRef.ofCodes 0 0 = some none ∧ ParamRef.ofCodes 0x1A 0 = some none ∧
      ParamRef.ofCodes 1 0 = some (some (.proj .a .snom)) ∧ ParamRef.ofCodes 0x12 1 = some (some (.proj .b .heatThreshold)) ∧
      ParamRef.ofCodes 0x13 9 = some (some (.dev .tH1)) ∧ ParamRef.ofCodes 0x19 0 = some (some (.dev .autoResume)) := by
  decide

theorem met_IntermissionExtended :
    heard .h .h (resting (some 3600)) ∧ (resting (some 3600)).prog.state = .intermission ∧ booth.prog.timer = none := by
  decide

theorem met_ShowTimersCount :
    booth.prog.timer = none ∧ (∃ n ∈ (resting (some 2)).prog.timer, 1 < n) ∧
      (∃ n ∈ (resting (some 1)).prog.timer, n ≤ 1) ∧ (resting (some 1)).heldDev .autoResume = 1 ∧
      (resting (some 1)).nextChannel = some .b ∧ ((resting (some 1)).chanOf .b).state = .armed ∧
      ((resting (some 1)).fire.lockout = false ∧ (resting (some 1)).token = none ∧
        (resting (some 1)).prog.state = .intermission) ∧
      ((resting (some 1)).prog.clock ≤ 65535 ∧ (resting (some 1)).prog.tenths ≤ 9) ∧
      (let s := { resting (some 1) with token := some .a }
       (∃ n ∈ s.prog.timer, n ≤ 1) ∧ s.nextChannel = some .b ∧ s.token ≠ none) := by decide

/-- The laws hold of a booth in the middle of a show, and a step is made from it. -/
theorem met_laws :
    (showing .ready).boothLaw ∧ (showing .ready).carbonLaw ∧ (showing .ready).planLaw ∧ (showing .ready).fadeLaw ∧
      (showing .ready).packLaw ∧ (showing .ready).limitLaw ∧ (showing .ready).roleLaw ∧ (showing .ready).queueLaw ∧
      (showing .ready).countLaw ∧ (ran (.paramWrite .h 4 0 95) booth).paramLaw :=
  ⟨by decide, by decide, by decide, by decide, by decide, by decide, by decide, by decide, by decide, by decide⟩

/-- A step that raises the carbon of an arc. -/
theorem met_CarbonLawKept : ∃ t, step { booth with pending := [.carbonLoad .a 0 6000] } = .next t ∧
    (({ booth with pending := [.carbonLoad .a 0 6000] } : State).arcOf .a).carbon < (t.arcOf .a).carbon :=
  ⟨_, rfl, by decide⟩

theorem met_laws_step : ∃ t, step { showing .ready with pending := [.changeNow .h] } = .next t := ⟨_, rfl⟩

end Sys2Proof.Tests
end

section
/-! PROOF. The reel plan's entries: what R8's check and the ranges of R2 depend on, and what is held of a written
entry. -/

namespace Sys2Proof.Machine

/-! ### The alternation check (R8) -/

/-- What R8's check and R2's ranges read of an entry: everything but its frames run, and of its state only whether it is
SKIPPED. -/
def Entry.asWritten (e : Entry) : Entry :=
  { e with state := if e.state = .skipped then .skipped else .pending, framesRun := none }

theorem Entry.asWritten_skipped (e : Entry) : e.asWritten.state = .skipped ↔ e.state = .skipped := by
  unfold Entry.asWritten
  split <;> simp_all

/-- R2: two states of one entry, SKIPPED both or neither. -/
theorem Entry.asWritten_eq {e : Entry} {x : EntryState} {run : Option Nat} (old : e.state ≠ .skipped)
    (new : x ≠ .skipped) : ({ e with state := x, framesRun := run } : Entry).asWritten = e.asWritten := by
  simp [Entry.asWritten, old, new]

theorem noClashes_map_asWritten (entries : List Entry) :
    noClashes (entries.map Entry.asWritten) = noClashes entries := by
  induction entries with
  | nil => rfl
  | cons x rest ih =>
    cases rest with
    | nil => rfl
    | cons y rest => exact congrArg (!x.clashes y && ·) ih

theorem alternates_map_asWritten (entries : List Entry) :
    alternates (entries.map Entry.asWritten) = alternates entries := by
  unfold alternates
  rw [List.filter_map, noClashes_map_asWritten]
  congr 2
  funext e
  simp [Entry.asWritten_skipped]

/-- R2, R6, R8: what the plan's entries keep by themselves. -/
structure PlanFit (entries : List Entry) : Prop where
  size : entries.length ≤ Config.planSize
  alternate : alternates entries = true
  ranges : ∀ e ∈ entries, e.inRange = true

theorem planFit_map_asWritten (entries : List Entry) : PlanFit (entries.map Entry.asWritten) ↔ PlanFit entries := by
  have range (e : Entry) : e.asWritten.inRange = e.inRange := rfl
  constructor
  · rintro ⟨size, alternate, ranges⟩
    refine ⟨by simpa using size, by rwa [alternates_map_asWritten] at alternate, fun e he => ?_⟩
    exact range e ▸ ranges _ (List.mem_map_of_mem he)
  · rintro ⟨size, alternate, ranges⟩
    refine ⟨by simpa using size, by rwa [alternates_map_asWritten], fun e he => ?_⟩
    obtain ⟨x, hx, rfl⟩ := List.mem_map.mp he
    exact ranges x hx

/-- A plan that differs in states and frames run alone fits as before. -/
theorem PlanFit.congr {xs ys : List Entry} (h : PlanFit xs) (same : ys.map Entry.asWritten = xs.map Entry.asWritten) :
    PlanFit ys := by
  rwa [← planFit_map_asWritten, same, planFit_map_asWritten]

theorem PlanFit.map {xs : List Entry} (h : PlanFit xs) {f : Entry → Entry}
    (same : ∀ e ∈ xs, (f e).asWritten = e.asWritten) : PlanFit (xs.map f) := by
  refine h.congr ?_
  rw [List.map_map]
  exact List.map_congr_left same

theorem PlanFit.modify {xs : List Entry} (h : PlanFit xs) {i : Nat} {f : Entry → Entry}
    (same : ∀ e, xs[i]? = some e → (f e).asWritten = e.asWritten) : PlanFit (xs.modify i f) := by
  refine h.congr (List.ext_getElem? fun j => ?_)
  rw [List.getElem?_map, List.getElem?_map, List.getElem?_modify]
  by_cases hij : i = j
  · subst hij
    cases he : xs[i]? with
    | none => simp
    | some e => simp [same e he]
  · simp [hij]

end Sys2Proof.Machine
end

section
/-! PROOF. What is held of a written plan entry (R6, R7, R198): each field's value, and when it counts as changed. -/

namespace Sys2Proof.Machine

/-! ### The fields -/

theorem clamp_val {lo hi : Nat} (h : lo ≤ hi) (n : Nat) : (clamp lo hi n).val = max lo (min n hi) := by
  unfold clamp
  split <;> [skip; split] <;> dsimp only <;> omega

theorem clamp_kept (lo hi n : Nat) : (clamp lo hi n).adjusted = false ↔ lo ≤ n ∧ n ≤ hi := by
  unfold clamp
  split <;> [skip; split] <;> simp <;> omega

theorem takeCode_val {α : Type} (listed : Option α) (kept : α) : (takeCode listed kept).val = listed.getD kept := by
  cases listed <;> rfl

theorem takeCode_kept {α : Type} (listed : Option α) (kept : α) :
    (takeCode listed kept).adjusted = false ↔ listed.isSome = true := by cases listed <;> simp [takeCode]

theorem Projector.ofCode_isSome (c : Byte) : (Projector.ofCode c).isSome = true ↔ c.toNat ≤ 1 := by
  unfold Projector.ofCode
  split <;> [skip; split] <;> simp <;> bv_omega

theorem CueMethod.ofCode_isSome (c : Byte) : (CueMethod.ofCode c).isSome = true ↔ c.toNat ≤ 2 := by
  unfold CueMethod.ofCode
  split <;> [skip; split <;> [skip; split]] <;> simp <;> bv_omega

/-- R195: the codes of the break forms. -/
theorem BreakForm.ofCode_cases (c : Byte) :
    c = 0 ∧ BreakForm.ofCode c = some .absent ∨ c = 1 ∧ BreakForm.ofCode c = some .intermission ∨
      c = 2 ∧ BreakForm.ofCode c = some .ending ∨ 2 < c.toNat ∧ BreakForm.ofCode c = none := by
  unfold BreakForm.ofCode
  split <;> [skip; split <;> [skip; split]] <;> simp_all
  bv_omega

/-! ### Actions -/

/-- R6, R7: the action held of one written. -/
def heldAction (x : ActionForm) : LightAction := ⟨x.mask.setWidth 4, x.level.toNat, min x.fade.toNat 600⟩

/-- R7, R198: a marked action is held as it is written. -/
def actionKept (m : Byte) (x : ActionForm) : Prop := m = 0 ∨ (m = 1 ∧ x.mask.toNat ≤ 15 ∧ x.fade.toNat ≤ 600)

theorem takeAction_val (x : ActionForm) : (takeAction x).val = heldAction x := by
  simp [takeAction, heldAction, takeMask, clamp_val]

theorem takeAction_kept (x : ActionForm) :
    (takeAction x).adjusted = false ↔ x.mask.toNat ≤ 15 ∧ x.fade.toNat ≤ 600 := by
  simp [takeAction, takeMask, clamp_kept]
  omega

theorem takeMarkedAction_val (m : Byte) (x : ActionForm) :
    (takeMarkedAction m x).val = if m = 1 then some (heldAction x) else none := by
  by_cases h : m = 1
  · simp [takeMarkedAction, takeMarker, takeAction_val, h]
  · simp only [takeMarkedAction, takeMarker, h, decide_false, Bool.false_eq_true, if_false]

theorem takeMarkedAction_kept (m : Byte) (x : ActionForm) :
    (takeMarkedAction m x).adjusted = false ↔ actionKept m x := by
  by_cases h : m = 1
  · simp [takeMarkedAction, takeMarker, actionKept, takeAction_kept, h]
  · simp only [takeMarkedAction, takeMarker, actionKept, h, decide_false, Bool.false_eq_true, if_false,
      decide_eq_false_iff_not, false_and, or_false]
    bv_omega

theorem heldAction_inRange (x : ActionForm) : (heldAction x).inRange = true := by
  have level := x.level.isLt
  refine decide_eq_true ⟨?_, min_le_right _ _⟩
  exact Nat.le_of_lt_succ level

/-! ### The break after -/

/-- R7, R195: the break after held of a written entry, in this form. -/
def heldBreak (x : EntryForm) : BreakForm → BreakAfter
  | .absent => .absent
  | .intermission =>
    .intermission (min x.duration.toNat 1800) (if x.brkMarker = 1 then some (heldAction x.brkAction) else none)
  | .ending => .ending (if x.brkMarker = 1 then some (heldAction x.brkAction) else none)

theorem takeBreak_val (kept : BreakForm) (x : EntryForm) :
    (takeBreak kept x).val = heldBreak x ((BreakForm.ofCode x.brkForm).getD kept) := by
  unfold takeBreak
  rw [← takeCode_val]
  cases h : (takeCode (BreakForm.ofCode x.brkForm) kept).val <;>
    simp [heldBreak, h, takeMarkedAction_val, clamp_val]

theorem takeBreak_kept (kept : BreakForm) (x : EntryForm) :
    (takeBreak kept x).adjusted = false ↔ x.brkForm.toNat ≤ 2 ∧ (x.brkForm = 1 → x.duration.toNat ≤ 1800) ∧
      (x.brkForm ≠ 0 → actionKept x.brkMarker x.brkAction) := by
  unfold takeBreak
  obtain ⟨h, form⟩ | ⟨h, form⟩ | ⟨h, form⟩ | ⟨h, form⟩ := BreakForm.ofCode_cases x.brkForm
  · simp only [form, takeCode]
    simp [h]
  · simp only [form, takeCode]
    simp [h, clamp_kept, takeMarkedAction_kept]
  · simp only [form, takeCode]
    simp [h, takeMarkedAction_kept]
  · have unlisted : ¬x.brkForm.toNat ≤ 2 := by omega
    cases kept <;> simp [form, takeCode, unlisted]

theorem heldBreak_inRange (x : EntryForm) (form : BreakForm) : (heldBreak x form).inRange = true := by
  cases form <;> simp [heldBreak, BreakAfter.inRange]
  all_goals split <;> simp [heldAction_inRange]

/-! ### M and E -/

theorem takeLead_val (m : Half) : (takeLead m).val = if m = 0 then 176 else max 48 (min m.toNat 480) := by
  have zero : m.toNat = 0 ↔ m = 0 := by bv_omega
  unfold takeLead
  simp only [zero]
  split <;> simp [clamp_val]

theorem takeLead_kept (m : Half) : (takeLead m).adjusted = false ↔ m = 0 ∨ (48 ≤ m.toNat ∧ m.toNat ≤ 480) := by
  have zero : m.toNat = 0 ↔ m = 0 := by bv_omega
  unfold takeLead
  simp only [zero]
  split <;> simp_all [clamp_kept]

theorem takeAllowance_val (e : Byte) : (takeAllowance e).val = if e = 0 then 24 else max 8 (min e.toNat 96) := by
  have zero : e.toNat = 0 ↔ e = 0 := by bv_omega
  unfold takeAllowance
  simp only [zero]
  split <;> simp [clamp_val]

theorem takeAllowance_kept (e : Byte) :
    (takeAllowance e).adjusted = false ↔ e = 0 ∨ (8 ≤ e.toNat ∧ e.toNat ≤ 96) := by
  have zero : e.toNat = 0 ↔ e = 0 := by bv_omega
  unfold takeAllowance
  simp only [zero]
  split <;> simp_all [clamp_kept]

theorem raiseLead_val (m e : Nat) : (raiseLead m e).val = max m (e + 48) := by
  unfold raiseLead
  split <;> dsimp only <;> omega

theorem raiseLead_kept (m e : Nat) : (raiseLead m e).adjusted = false ↔ e + 48 ≤ m := by
  unfold raiseLead
  split <;> simp <;> omega

/-! ### The entry -/

section

variable (projector : Projector) (cue : CueMethod) (kept : BreakForm) (state : EntryState) (run : Option Nat)
  (x : EntryForm)

/-- R6, R7: an entry is ADJUSTED where one of its fields is. -/
theorem takeEntry_kept :
    (takeEntry projector cue kept state run x).adjusted = false ↔
      (clamp 1 99 x.label.toNat).adjusted = false ∧
        (takeCode (Projector.ofCode x.projector) projector).adjusted = false ∧
        (clamp 100 2200 x.feet.toNat).adjusted = false ∧
        (takeCode (CueMethod.ofCode x.cue) cue).adjusted = false ∧ (takeLead x.lead).adjusted = false ∧
        (takeAllowance x.allowance).adjusted = false ∧
        (raiseLead (takeLead x.lead).val (takeAllowance x.allowance).val).adjusted = false ∧
        (takeMarkedAction x.startMarker x.startAction).adjusted = false ∧ (takeBreak kept x).adjusted = false := by
  simp only [takeEntry, Bool.or_eq_false_iff, and_assoc]

/-- R2, R3, R6: a written entry is in range. -/
theorem takeEntry_inRange : (takeEntry projector cue kept state run x).val.inRange = true := by
  have lead : 48 ≤ (takeLead x.lead).val ∧ (takeLead x.lead).val ≤ 480 := by
    rw [takeLead_val]
    split <;> omega
  have allowance : 8 ≤ (takeAllowance x.allowance).val ∧ (takeAllowance x.allowance).val ≤ 96 := by
    rw [takeAllowance_val]
    split <;> omega
  have start : (takeMarkedAction x.startMarker x.startAction).val.all LightAction.inRange = true := by
    rw [takeMarkedAction_val]
    split <;> simp [heldAction_inRange]
  simp only [Entry.inRange, takeEntry, clamp_val (show 1 ≤ 99 by decide), clamp_val (show 100 ≤ 2200 by decide),
    raiseLead_val, takeBreak_val, heldBreak_inRange, start, Bool.and_true, decide_eq_true_eq]
  omega

@[simp] theorem takeEntry_state : (takeEntry projector cue kept state run x).val.state = state := rfl

end

/-- Settles O12: each field of the entry as its own rule holds it, and ADJUSTED as the disjunction of theirs. -/
theorem writtenEntryHeld : Obligations.WrittenEntryHeld := by
  intro proj cue kept state run x
  refine ⟨clamp_val (by decide) _, clamp_val (by decide) _, takeCode_val _ _, takeCode_val _ _,
    takeAllowance_val _, ?_, takeMarkedAction_val _ _, ?_, rfl, rfl, ?_⟩
  · rw [← takeLead_val, ← takeAllowance_val]
    exact raiseLead_val _ _
  · refine (takeBreak_val kept x).trans ?_
    cases (BreakForm.ofCode x.brkForm).getD kept <;> rfl
  · rw [takeEntry_kept, clamp_kept, clamp_kept, takeCode_kept, takeCode_kept, Projector.ofCode_isSome,
      CueMethod.ofCode_isSome, takeLead_kept, takeAllowance_kept, raiseLead_kept, takeLead_val, takeAllowance_val,
      takeMarkedAction_kept, takeBreak_kept]
    rfl

end Sys2Proof.Machine
end

section
/-! PROOF. R8's check against R8's words. -/

namespace Sys2Proof.Machine

/-- R8: x is followed by no entry of its own projector: the first of these entries that is not SKIPPED. -/
def carriesOver (x : Entry) (rest : List Entry) : Prop :=
  ∀ (j : Nat) (y : Entry), rest[j]? = some y → y.state ≠ .skipped →
    (∀ (k : Nat) (z : Entry), k < j → rest[k]? = some z → z.state = .skipped) →
    x.brk = .absent → x.projector ≠ y.projector

/-- R8, in the words of the rule. -/
def Alternating (entries : List Entry) : Prop :=
  ∀ i j : Nat, i < j → ∀ x y : Entry, entries[i]? = some x → entries[j]? = some y →
    x.state ≠ .skipped → y.state ≠ .skipped →
    (∀ (k : Nat) (z : Entry), i < k → k < j → entries[k]? = some z → z.state = .skipped) →
    x.brk = .absent → x.projector ≠ y.projector

theorem clashes_eq_false (x y : Entry) : x.clashes y = false ↔ (x.brk = .absent → x.projector ≠ y.projector) := by
  simp [Entry.clashes, Entry.noBreak]

theorem noClashes_cons (x : Entry) (xs : List Entry) :
    noClashes (x :: xs) = (xs.head?.all (fun y => !x.clashes y) && noClashes xs) := by
  cases xs <;> simp [noClashes]

theorem carriesOver_iff (x : Entry) (rest : List Entry) :
    (rest.filter fun e => decide (e.state ≠ .skipped)).head?.all (fun y => !x.clashes y) = true ↔
      carriesOver x rest := by
  rw [List.head?_filter]
  simp only [Option.all_eq_true, List.find?_eq_some_iff_getElem, Bool.not_eq_true', clashes_eq_false]
  constructor
  · intro h j y at_j unskipped between
    obtain ⟨lt, rfl⟩ := List.getElem?_eq_some_iff.mp at_j
    refine h _ ⟨by simpa using unskipped, j, lt, rfl, fun k hk => ?_⟩
    simpa using between k _ hk (List.getElem?_eq_getElem (hk.trans lt))
  · rintro h y ⟨unskipped, j, lt, rfl, between⟩
    refine h j _ (List.getElem?_eq_getElem lt) (by simpa using unskipped) fun k z hk at_k => ?_
    obtain ⟨ltk, rfl⟩ := List.getElem?_eq_some_iff.mp at_k
    simpa using between k hk

theorem alternating_cons (x : Entry) (rest : List Entry) :
    Alternating (x :: rest) ↔ (x.state ≠ .skipped → carriesOver x rest) ∧ Alternating rest := by
  constructor
  · intro h
    refine ⟨fun hx j y at_j unskipped between => ?_, fun i j lt a b at_i at_j ha hb between => ?_⟩
    · refine h 0 (j + 1) (by omega) x y rfl at_j hx unskipped fun k z pos lt at_k => ?_
      obtain ⟨k, rfl⟩ : ∃ m, k = m + 1 := ⟨k - 1, by omega⟩
      exact between k z (by omega) (by simpa using at_k)
    · refine h (i + 1) (j + 1) (by omega) a b at_i at_j ha hb fun k z low high at_k => ?_
      obtain ⟨k, rfl⟩ : ∃ m, k = m + 1 := ⟨k - 1, by omega⟩
      exact between k z (by omega) (by omega) (by simpa using at_k)
  · rintro ⟨first, later⟩ i j lt a b at_i at_j ha hb between
    obtain ⟨j, rfl⟩ : ∃ m, j = m + 1 := ⟨j - 1, by omega⟩
    rw [List.getElem?_cons_succ] at at_j
    cases i with
    | zero =>
      obtain rfl : x = a := by simpa using at_i
      exact first ha j b at_j hb fun k z hk at_k => between (k + 1) z (by omega) (by omega) (by simpa using at_k)
    | succ i =>
      exact later i j (by omega) a b (by simpa using at_i) at_j ha hb fun k z low high at_k =>
        between (k + 1) z (by omega) (by omega) (by simpa using at_k)

theorem alternates_iff (entries : List Entry) : alternates entries = true ↔ Alternating entries := by
  induction entries with
  | nil => simp [alternates, noClashes, Alternating]
  | cons x rest ih =>
    rw [alternating_cons, ← ih, ← carriesOver_iff]
    unfold alternates
    by_cases hx : x.state = .skipped
    · simp [hx]
    · rw [List.filter_cons_of_pos (by simpa using hx), noClashes_cons, Bool.and_eq_true]
      simp [hx]

/-- Settles O14, by induction on the list: R8's words of a list are R8's words of its tail and of what follows its
head. -/
theorem alternationCheck : Obligations.AlternationCheck := alternates_iff

end Sys2Proof.Machine
end

section
/-! PROOF. The next entry and a projector's next entry (R17, R18), and PLAN_READ (R19). -/

namespace Sys2Proof.Machine

/-! ### The searches -/

theorem searchFrom_eq_some (test : Entry → Bool) (entries : List Entry) (start i : Nat) :
    searchFrom test start entries = some i ↔
      start ≤ i ∧ (entries[i - start]?).any test = true ∧
        ∀ j, start ≤ j → j < i → (entries[j - start]?).any test = false := by
  induction entries generalizing start with
  | nil => simp [searchFrom]
  | cons e rest ih =>
    have shift (j : Nat) (h : start + 1 ≤ j) : (e :: rest)[j - start]? = rest[j - (start + 1)]? := by
      rw [show j - start = j - (start + 1) + 1 by omega, List.getElem?_cons_succ]
    unfold searchFrom
    by_cases he : test e = true
    · rw [if_pos he, Option.some_inj]
      constructor
      · rintro rfl
        simp [he]
        omega
      · rintro ⟨le, -, before⟩
        by_contra ne
        simpa [he] using before start (le_refl _) (by omega)
    · rw [if_neg he, ih]
      constructor
      · rintro ⟨le, here, before⟩
        refine ⟨by omega, by rwa [shift i le], fun j low high => ?_⟩
        rcases Nat.eq_or_lt_of_le low with rfl | lt
        · simpa using he
        · rw [shift j lt]
          exact before j lt high
      · rintro ⟨le, here, before⟩
        have lt : start + 1 ≤ i := by
          rcases Nat.eq_or_lt_of_le le with rfl | lt
          · simp [he] at here
          · exact lt
        refine ⟨lt, by rwa [← shift i lt], fun j low high => ?_⟩
        rw [← shift j low]
        exact before j (by omega) high

/-- R17, R18: a search of the plan from an index on finds the first entry there that passes. -/
theorem searchFrom_drop (test : Entry → Bool) (s : State) (start i : Nat) :
    searchFrom test start (s.plan.entries.drop start) = some i ↔ firstFrom test start s i := by
  have at_index (j : Nat) (h : start ≤ j) : (s.plan.entries.drop start)[j - start]? = s.entryAt j := by
    rw [List.getElem?_drop, Nat.add_sub_cancel' h]
    rfl
  rw [searchFrom_eq_some]
  constructor
  · rintro ⟨le, here, before⟩
    exact ⟨le, at_index i le ▸ here, fun j low high => at_index j low ▸ before j low high⟩
  · rintro ⟨le, here, before⟩
    exact ⟨le, (at_index i le).symm ▸ here, fun j low high => (at_index j low).symm ▸ before j low high⟩

theorem EntryState.ahead_eq (x : EntryState) :
    x.ahead = decide (x = .pending ∨ x = .threaded ∨ x = .armed ∨ x = .running) := by cases x <;> rfl

theorem EntryState.waiting_eq (x : EntryState) :
    x.waiting = decide (x = .pending ∨ x = .threaded ∨ x = .armed) := by cases x <;> rfl

theorem nextEntry_of_none {s : State} (h : s.prog.position = none) (i : Nat) :
    s.nextEntry = some i ↔ firstFrom (fun e => e.state.ahead) 0 s i := by
  unfold State.nextEntry
  rw [h, ← searchFrom_drop, List.drop_zero]

theorem nextEntry_of_some {s : State} {p : Nat} (h : s.prog.position = some p) (i : Nat) :
    s.nextEntry = some i ↔
      if (s.entryAt p).any (fun e => e.state.waiting) = true then i = p
      else firstFrom (fun e => e.state.ahead) (p + 1) s i := by
  unfold State.nextEntry
  rw [h]
  dsimp only
  split
  · rw [Option.some_inj, eq_comm]
  · exact searchFrom_drop _ s _ i

theorem nextFor_eq_some (s : State) (q : Projector) (i : Nat) :
    s.nextFor q = some i ↔
      firstFrom (fun e => decide (e.projector = q ∧ e.state = .pending)) (s.prog.position.getD 0) s i := by
  have test : (fun e : Entry => decide (e.projector = q) && decide (e.state = .pending)) =
      fun e => decide (e.projector = q ∧ e.state = .pending) := by
    funext e
    simp
  rw [← searchFrom_drop, ← test]
  rfl

/-! ### PLAN_READ -/

theorem byte_toNat (x : Byte) : byte x.toNat = x := by simp [byte]

/-- R171, R173: any bound link may read the plan. -/
theorem requestAnswer_planRead {l : Connector} {r : Role} {s : State} (b : (s.linkOf l).binding = some r) (i : Byte) :
    requestAnswer l (.planRead i) s = planReadAnswer i s :=
  screen_passes (x := ()) (rights := anyRole) (owner := fun _ => planReadAnswer i) b rfl

theorem planReadAnswer_entry {i : Byte} {s : State} {e : Entry} (at_i : s.entryAt i.toNat = some e) (h : i ≠ 0xFF) :
    planReadAnswer i s = ⟨s, .ok, i :: sentEntry e⟩ := by
  have lt : i.toNat < s.plan.entries.length := (List.getElem?_eq_some_iff.mp at_i).1
  rw [planReadAnswer, if_neg h, if_pos lt, entryData, at_i]
  simp only [byte_toNat]

theorem planReadAnswer_beyond {i : Byte} {s : State} (at_i : s.entryAt i.toNat = none) (h : i ≠ 0xFF) :
    planReadAnswer i s = ⟨s, .noEntry, []⟩ := by
  have le : ¬i.toNat < s.plan.entries.length := by simpa [State.entryAt] using at_i
  rw [planReadAnswer, if_neg h, if_neg le]
  rfl

theorem planReadAnswer_header (s : State) : planReadAnswer 0xFF s = ⟨s, .ok, headerData s⟩ := rfl

/-- Settles O15: the searches are one search from an index on, and PLAN_READ answers from the state it finds. -/
theorem nextEntriesAndPlanReads : Obligations.NextEntriesAndPlanReads := by
  refine ⟨fun s i => ⟨fun h => ?_, fun p h => ?_, fun q => nextFor_eq_some s q i⟩, fun l r i s heard => ?_⟩
  · simpa only [EntryState.ahead_eq] using nextEntry_of_none h i
  · simpa only [EntryState.ahead_eq, EntryState.waiting_eq] using nextEntry_of_some h i
  · obtain ⟨bound, listening⟩ := heard
    have reads (i : Byte) := requestAnswer_planRead (s := s.takeSlot l (requestBody (.planRead i)))
      ((binding_takeSlot l _ s l).trans bound) i
    refine ⟨fun e at_i h => ?_, fun at_i h => ?_, ?_⟩
    · exact repliesOnly_of listening ((reads i).trans (planReadAnswer_entry at_i h))
    · exact repliesOnly_of listening ((reads i).trans (planReadAnswer_beyond at_i h))
    · exact repliesOnly_of (data := headerData s) listening ((reads 0xFF).trans (planReadAnswer_header _))

end Sys2Proof.Machine
end

section
/-! PROOF. The operations that plan edits are made of: the release of a channel (R14), the links across an edit (R5,
R15), the exhaustion test's plan (R161, R162) and the restart (R16). -/

namespace Sys2Proof.Machine

/-! ### Updates of both channels -/

theorem chanOf_setChan (s : State) (p q : Projector) (c : Channel) :
    (s.setChan p c).chanOf q = if q = p then c else s.chanOf q := by
  by_cases h : q = p
  · rw [if_pos h, h, State.chanOf_setChan_self]
  · rw [if_neg h, State.chanOf_setChan_ne _ _ h]

/-- The blocks of the two channels. -/
abbrev bothChannels : List Block := [.chan .a, .chan .b]

theorem setChan_inChannels (s : State) (p : Projector) (c : Channel) :
    changesOnly bothChannels s (s.setChan p c) :=
  (setChan_changes s p c).mono (by cases p <;> simp)

/-! ### The release of a channel (R14) -/

theorem linkedTo_entry {s : State} {i : Nat} {p : Projector} (h : s.linkedTo i = some p) :
    (s.chanOf p).entry = some i := by
  unfold State.linkedTo at h
  split at h
  · next ha =>
    cases h
    exact ha
  · split at h
    · next hb =>
      cases h
      exact hb
    · cases h

theorem releaseChannel_changes (s : State) (i : Nat) : changesOnly bothChannels s (s.releaseChannel i) := by
  unfold State.releaseChannel
  split
  · split
    · exact setChan_inChannels _ _ _
    · exact changesOnly_refl _ _
  · exact changesOnly_refl _ _

theorem chanOf_releaseChannel (s : State) (i : Nat) (p : Projector) :
    (s.releaseChannel i).chanOf p =
      if s.linkedTo i = some p ∧ (s.chanOf p).state = .threaded then
        { s.chanOf p with state := .idle, entry := none }
      else s.chanOf p := by
  unfold State.releaseChannel
  cases hq : s.linkedTo i with
  | none => simp
  | some q =>
    by_cases h : p = q
    · subst h
      by_cases ht : (s.chanOf p).state = .threaded <;> simp [ht]
    · have hne : ¬q = p := fun e => h e.symm
      by_cases ht : (s.chanOf q).state = .threaded <;> simp [ht, hne, State.chanOf_setChan_ne _ _ h]

@[simp] theorem plan_releaseChannel (s : State) (i : Nat) : (s.releaseChannel i).plan = s.plan :=
  releaseChannel_changes s i .plan (by simp)

@[simp] theorem prog_releaseChannel (s : State) (i : Nat) : (s.releaseChannel i).prog = s.prog :=
  releaseChannel_changes s i .prog (by simp)

/-! ### The links across an edit (R5, R15) -/

@[simp] theorem plan_setEntries (s : State) (entries : List Entry) :
    (s.setEntries entries).plan = { s.plan with entries := entries } := rfl

@[simp] theorem prog_setEntries (s : State) (entries : List Entry) : (s.setEntries entries).prog = s.prog := rfl

theorem setEntries_changes (s : State) (entries : List Entry) : changesOnly [.plan] s (s.setEntries entries) :=
  setPlan_changes _ _

theorem relink_changes (s : State) (f : Nat → Option Nat) :
    changesOnly [.prog, .chan .a, .chan .b] s (s.relink f) :=
  (((setProg_changes s _).mono (by simp)).andThen (setChan_changes _ .a _) (by simp)).andThen
    (setChan_changes _ .b _) (by simp)

@[simp] theorem plan_relink (s : State) (f : Nat → Option Nat) : (s.relink f).plan = s.plan := rfl

theorem prog_relink (s : State) (f : Nat → Option Nat) :
    (s.relink f).prog = { s.prog with
      position := s.prog.position.bind f
      timerEntry := s.prog.timerEntry.bind f
      lastDone := s.prog.lastDone.bind f } := rfl

theorem chanOf_relink (s : State) (f : Nat → Option Nat) (p : Projector) :
    (s.relink f).chanOf p = { s.chanOf p with entry := (s.chanOf p).entry.bind f } := by cases p <;> rfl

theorem insertIdx_eq_take_cons_drop {α : Type} (xs : List α) (i : Nat) (x : α) (h : i ≤ xs.length) :
    xs.insertIdx i x = xs.take i ++ x :: xs.drop i := by
  induction xs generalizing i with
  | nil =>
    obtain rfl : i = 0 := by simpa using h
    rfl
  | cons y ys ih =>
    cases i with
    | zero => rfl
    | succ i => simpa using ih i (by simpa using h)

/-! ### The plan after the exhaustion test (R161, R162) -/

/-- R162: an entry after a rollover. -/
def Entry.rolled (e : Entry) : Entry := if e.state = .done then e.renewed else e

theorem decideRollover_entries (s : State) :
    s.decideRollover.plan.entries = s.plan.entries ∨
      s.decideRollover.plan.entries = s.plan.entries.map Entry.rolled := by
  unfold State.decideRollover
  split
  · exact .inr rfl
  · exact .inl rfl

/-- R161, R162: the exhaustion test leaves the entries as they are, or brings the DONE ones back. -/
theorem testExhausted_entries (s : State) (atReelDone : Bool) :
    (s.testExhausted atReelDone).plan.entries = s.plan.entries ∨
      (s.testExhausted atReelDone).plan.entries = s.plan.entries.map Entry.rolled := by
  unfold State.testExhausted
  split
  · split
    · exact decideRollover_entries _
    · exact decideRollover_entries _
    · exact decideRollover_entries _
    · split
      · exact decideRollover_entries _
      · exact .inl rfl
    · exact .inl rfl
    · exact .inl rfl
  · exact .inl rfl

/-- An entry that is not DONE is there after the test as it was. -/
theorem entryAt_testExhausted {s : State} {i : Nat} {e : Entry} (h : s.entryAt i = some e) (hd : e.state ≠ .done)
    (atReelDone : Bool) : (s.testExhausted atReelDone).entryAt i = some e := by
  have h' : s.plan.entries[i]? = some e := h
  unfold State.entryAt
  rcases testExhausted_entries s atReelDone with same | rolled
  · rw [same, h']
  · rw [rolled, List.getElem?_map, h', Option.map_some, Entry.rolled, if_neg hd]

/-! ### The restart (R16) -/

theorem releaseForRestart_changes (s : State) (p : Projector) :
    changesOnly bothChannels s (s.releaseForRestart p) := by
  unfold State.releaseForRestart
  split
  · exact setChan_inChannels _ _ _
  · exact changesOnly_refl _ _

theorem chanOf_releaseForRestart (s : State) (p q : Projector) :
    (s.releaseForRestart p).chanOf q =
      if q = p ∧ ((s.chanOf p).state = .threaded ∨ (s.chanOf p).state = .armed) then
        { s.chanOf p with state := .idle, entry := none }
      else s.chanOf q := by
  unfold State.releaseForRestart
  by_cases h : (s.chanOf p).state = .threaded ∨ (s.chanOf p).state = .armed
  · rw [if_pos h, State.modChan_eq, chanOf_setChan]
    simp only [h, and_true]
  · simp [h]

theorem restartPlan_changes (s : State) :
    changesOnly [.plan, .prog, .chan .a, .chan .b] s s.restartPlan :=
  ((((releaseForRestart_changes s .a).mono (by simp)).andThen (releaseForRestart_changes _ .b) (by simp)).andThen
    (setPlan_changes _ _) (by simp)).andThen (setProg_changes _ _) (by simp)

theorem chanOf_restartPlan (s : State) (p : Projector) :
    s.restartPlan.chanOf p =
      if (s.chanOf p).state = .threaded ∨ (s.chanOf p).state = .armed then
        { s.chanOf p with state := .idle, entry := none }
      else s.chanOf p := by
  change ((s.releaseForRestart .a).releaseForRestart .b).chanOf p = _
  rw [chanOf_releaseForRestart, chanOf_releaseForRestart, chanOf_releaseForRestart]
  cases p <;> simp

theorem restartPlan_released (s : State) :
    changesOnly bothChannels s ((s.releaseForRestart .a).releaseForRestart .b) :=
  (releaseForRestart_changes s .a).trans (releaseForRestart_changes _ .b)

theorem plan_restartPlan (s : State) :
    s.restartPlan.plan = { s.plan with
      passNumber := 1
      entries := s.plan.entries.map fun e => if e.state = .skipped then e else e.renewed } := by
  have same : ((s.releaseForRestart .a).releaseForRestart .b).plan = s.plan :=
    restartPlan_released s .plan (by simp)
  unfold State.restartPlan
  simp only [State.plan_setProg, State.plan_setPlan, same]

theorem prog_restartPlan (s : State) :
    s.restartPlan.prog = { s.prog with
      state := .idle, position := none, clock := 0, tenths := 0, clockStarted := false, lastDone := none } := by
  have same : ((s.releaseForRestart .a).releaseForRestart .b).prog = s.prog :=
    restartPlan_released s .prog (by simp)
  unfold State.restartPlan
  simp only [State.prog_setProg, same]

end Sys2Proof.Machine
end

section
/-! PROOF. The plan edits (R9 to R16): what each answers, by the first check that fails, and what it makes of the
state. -/

namespace Sys2Proof.Machine

/-! ### The checks -/

theorem writeLocked_iff (current : ShowState) (e : Entry) :
    writeLocked current e = true ↔ e.state = .armed ∨ e.state = .running ∨
      (e.state = .done ∧ current ≠ .idle ∧ current ≠ .ended) := by
  unfold writeLocked
  cases e.state <;> simp

theorem EntryState.movable_iff (x : EntryState) : x.movable = false ↔ x = .armed ∨ x = .running ∨ x = .done := by
  cases x <;> simp [EntryState.movable]

theorem EntryState.removable_iff (x : EntryState) : x.removable = true ↔ x = .pending ∨ x = .threaded := by
  cases x <;> simp [EntryState.removable]

/-- R11: an entry at or after the index that an insert cannot move. -/
theorem not_all_movable_iff (s : State) (i : Nat) :
    (s.plan.entries.drop i).all (fun e => e.state.movable) = false ↔
      ∃ j e, i ≤ j ∧ s.entryAt j = some e ∧ (e.state = .armed ∨ e.state = .running ∨ e.state = .done) := by
  simp only [List.all_eq_false, List.mem_iff_getElem?, List.getElem?_drop, Bool.not_eq_true,
    EntryState.movable_iff]
  constructor
  · rintro ⟨e, ⟨k, at_k⟩, he⟩
    exact ⟨i + k, e, by omega, at_k, he⟩
  · rintro ⟨j, e, le, at_j, he⟩
    exact ⟨e, ⟨j - i, by rw [Nat.add_sub_cancel' le]; exact at_j⟩, he⟩

/-- R171, R173: the house's request reaches the plan. -/
theorem houseRequest_passes {l : Connector} {s : State} (body : List Byte) (h : heard l .h s) (owner : State → Answer) :
    screen l (some ()) houseOnly (fun _ => owner) (s.takeSlot l body) = owner (s.takeSlot l body) :=
  screen_passes (role := .h) ((binding_takeSlot l body s l).trans h.1) rfl

/-! ### PLAN_WRITE (R10) -/

section Write

variable {s : State} {i : Nat} {x : EntryForm} {e : Entry}

theorem planWriteAnswer_noEntry (h : s.entryAt i = none) : planWriteAnswer i x s = s.answer .noEntry := by
  simp only [planWriteAnswer, h]

theorem planWriteAnswer_locked (h : s.entryAt i = some e) (locked : writeLocked s.prog.state e = true) :
    planWriteAnswer i x s = s.answer .locked := by simp only [planWriteAnswer, h, locked, if_true]

theorem planWriteAnswer_conflict (h : s.entryAt i = some e) (free : writeLocked s.prog.state e = false)
    (clash : alternates (s.plan.entries.set i (State.written x e).val) = false) :
    planWriteAnswer i x s = s.answer .planConflict := by
  simp only [planWriteAnswer, h, free, clash, Bool.false_eq_true, if_false]

theorem planWriteAnswer_written (h : s.entryAt i = some e) (free : writeLocked s.prog.state e = false)
    (fits : alternates (s.plan.entries.set i (State.written x e).val) = true) :
    planWriteAnswer i x s =
      let t := ((s.releaseChannel i).setEntries (s.plan.entries.set i (State.written x e).val)).testExhausted false
      ⟨t, okOr (State.written x e).adjusted, entryData t i⟩ := by
  simp only [planWriteAnswer, h, free, fits, Bool.false_eq_true, if_false, if_true]

end Write

/-! ### What a write and a skip leave: an entry replaced and its channel released -/

section Replace

variable (l : Connector) (body : List Byte) (s : State) (i : Nat) (entries : List Entry)

/-- The state in which an entry has been replaced, before the exhaustion test, on a request with this body. -/
abbrev replacing : State := ((s.takeSlot l body).releaseChannel i).setEntries entries

theorem replacing_changes :
    changesOnly [.plan, .chan .a, .chan .b] (s.takeSlot l body) (replacing l body s i entries) :=
  ((releaseChannel_changes _ i).mono (by simp)).andThen (setEntries_changes _ _) (by simp)

theorem notified_replacing : notified [] (s.takeSlot l body) (replacing l body s i entries) :=
  notified_nil fun m => (replacing_changes l body s i entries).links m (by simp)

theorem plan_replacing : (replacing l body s i entries).plan = { s.plan with entries := entries } := by
  rw [plan_setEntries, plan_releaseChannel, plan_takeSlot]

theorem chanOf_replacing (p : Projector) :
    (replacing l body s i entries).chanOf p =
      if s.linkedTo i = some p ∧ (s.chanOf p).state = .threaded then
        { s.chanOf p with state := .idle, entry := none }
      else s.chanOf p := chanOf_releaseChannel _ i p

end Replace

/-- Settles O16: the four answers of PLAN_WRITE, each by its own check. -/
theorem planWrites : Obligations.PlanWrites := by
  intro l i x s h
  have passes := houseRequest_passes (requestBody (.planWrite i x)) h (planWriteAnswer i.toNat x)
  refine ⟨fun none => repliesOnly_of h.2 (passes.trans (planWriteAnswer_noEntry none)), fun e found => ?_⟩
  refine ⟨fun blocked => ?_, fun free clash => ?_, fun free fits => ?_⟩
  · exact repliesOnly_of h.2 (passes.trans (planWriteAnswer_locked found ((writeLocked_iff _ e).mpr blocked)))
  all_goals
    have unlocked : writeLocked s.prog.state e = false :=
      Bool.eq_false_iff.mpr fun locked => free ((writeLocked_iff _ e).mp locked)
  · exact repliesOnly_of h.2 (passes.trans (planWriteAnswer_conflict found unlocked clash))
  · exact grants_of h.2 (replacing l _ s i.toNat _) (passes.trans (planWriteAnswer_written found unlocked fits))
      (notified_replacing _ _ _ _ _) ⟨plan_replacing _ _ _ _ _, chanOf_replacing _ _ _ _ _⟩
      ((replacing_changes _ _ _ _ _).mono (List.subset_append_right _ _))

/-! ### PLAN_INSERT (R11) -/

section Insert

variable {s : State} {i : Nat} {x : EntryForm}

theorem planInsertAnswer_noEntry (h : s.plan.entries.length < i) : planInsertAnswer i x s = s.answer .noEntry := by
  simp only [planInsertAnswer, h, if_true]

theorem planInsertAnswer_tableFull (h : i ≤ s.plan.entries.length) (full : Config.planSize ≤ s.plan.entries.length) :
    planInsertAnswer i x s = s.answer .tableFull := by
  simp only [planInsertAnswer, Nat.not_lt.mpr h, full, if_false, if_true]

variable (h : i ≤ s.plan.entries.length) (room : s.plan.entries.length < Config.planSize)

include h room

theorem planInsertAnswer_locked (locked : (s.plan.entries.drop i).all (fun e => e.state.movable) = false) :
    planInsertAnswer i x s = s.answer .locked := by
  simp only [planInsertAnswer, Nat.not_lt.mpr h, Nat.not_le.mpr room, locked, Bool.not_false, if_false, if_true]

variable (free : (s.plan.entries.drop i).all (fun e => e.state.movable) = true)

include free

theorem planInsertAnswer_conflict (clash : alternates (s.plan.entries.insertIdx i (State.inserted x).val) = false) :
    planInsertAnswer i x s = s.answer .planConflict := by
  simp only [planInsertAnswer, Nat.not_lt.mpr h, Nat.not_le.mpr room, free, clash, Bool.not_true,
    Bool.false_eq_true, if_false]

theorem planInsertAnswer_inserted (fits : alternates (s.plan.entries.insertIdx i (State.inserted x).val) = true) :
    planInsertAnswer i x s =
      let t := (s.setEntries (s.plan.entries.insertIdx i (State.inserted x).val)).relink
        fun j => some (afterInsert i j)
      ⟨t, okOr (State.inserted x).adjusted, entryData t i⟩ := by
  simp only [planInsertAnswer, Nat.not_lt.mpr h, Nat.not_le.mpr room, free, fits, Bool.not_true,
    Bool.false_eq_true, if_false, if_true]

end Insert

/-- A link that every entry's new place is known for. -/
theorem bind_afterInsert (i : Nat) (link : Option Nat) :
    (link.bind fun j => some (afterInsert i j)) = link.map fun j => if i ≤ j then j + 1 else j := by
  cases link <;> rfl

/-- The state after an insert on a request with this body. -/
abbrev inserting (l : Connector) (body : List Byte) (s : State) (i : Nat) (entries : List Entry) : State :=
  ((s.takeSlot l body).setEntries entries).relink fun j => some (afterInsert i j)

theorem inserting_changes (l : Connector) (body : List Byte) (s : State) (i : Nat) (entries : List Entry) :
    changesOnly [.plan, .prog, .chan .a, .chan .b] (s.takeSlot l body) (inserting l body s i entries) :=
  ((setEntries_changes _ _).mono (by simp)).andThen (relink_changes _ _) (by simp)

/-- Settles O17: the five answers of PLAN_INSERT, each by its own check. -/
theorem planInserts : Obligations.PlanInserts := by
  intro l i x s h
  have passes := houseRequest_passes (requestBody (.planInsert i x)) h (planInsertAnswer i.toNat x)
  refine ⟨fun beyond => ?_, fun le full => ?_, fun le room => ⟨fun blocked => ?_, fun free clash => ?_,
    fun free fits => ?_⟩⟩
  · exact repliesOnly_of h.2 (passes.trans (planInsertAnswer_noEntry beyond))
  · exact repliesOnly_of h.2 (passes.trans (planInsertAnswer_tableFull le full))
  · exact repliesOnly_of h.2 (passes.trans (planInsertAnswer_locked le room ((not_all_movable_iff s _).mpr blocked)))
  all_goals
    have movable : (s.plan.entries.drop i.toNat).all (fun e => e.state.movable) = true :=
      Bool.not_eq_false _ ▸ fun locked => free ((not_all_movable_iff s _).mp locked)
    have placed := insertIdx_eq_take_cons_drop s.plan.entries i.toNat (State.inserted x).val le
  · exact repliesOnly_of h.2 (passes.trans (planInsertAnswer_conflict le room movable (placed ▸ clash)))
  · have inserted : (s.plan.entries.insertIdx i.toNat (State.inserted x).val)[i.toNat]? =
        some (State.inserted x).val := by simp [List.getElem?_insertIdx, le]
    refine grants_of h.2
      (inserting l (requestBody (.planInsert i x)) s i.toNat (s.plan.entries.insertIdx i.toNat (State.inserted x).val))
      ((passes.trans (planInsertAnswer_inserted le room movable (placed ▸ fits))).trans ?_)
      (notified_nil fun m => (inserting_changes l _ s _ _).links m (by simp)) ⟨?_, ?_, fun p => ?_⟩
      ((inserting_changes l _ s _ _).mono (List.subset_append_right _ _))
    · simp only [entryData, State.entryAt, plan_relink, plan_setEntries, plan_takeSlot, inserted, byte_toNat]
      rfl
    · rw [plan_relink, plan_setEntries, placed]
      rfl
    · rw [prog_relink]
      simp only [bind_afterInsert]
      rfl
    · rw [chanOf_relink, bind_afterInsert]
      rfl

/-! ### PLAN_DELETE (R12) -/

section Delete

variable {s : State} {i : Nat} {e : Entry}

theorem planDeleteAnswer_noEntry (h : s.entryAt i = none) : planDeleteAnswer i s = s.answer .noEntry := by
  simp only [planDeleteAnswer, h]

/-- R12: PLAN_DELETE finds the entry locked. -/
theorem planDeleteAnswer_locked (h : s.entryAt i = some e)
    (locked : e.state.removable = false ∨ s.prog.position = some i) :
    planDeleteAnswer i s = s.answer .locked := by
  rcases locked with locked | locked <;> simp [planDeleteAnswer, h, locked]

variable (h : s.entryAt i = some e) (free : e.state.removable = true) (away : s.prog.position ≠ some i)

include h free away

theorem planDeleteAnswer_conflict (clash : alternates (s.plan.entries.eraseIdx i) = false) :
    planDeleteAnswer i s = s.answer .planConflict := by simp [planDeleteAnswer, h, free, away, clash]

theorem planDeleteAnswer_deleted (fits : alternates (s.plan.entries.eraseIdx i) = true) :
    planDeleteAnswer i s =
      let t := (((s.releaseChannel i).setEntries (s.plan.entries.eraseIdx i)).relink (afterDelete i)).testExhausted
        false
      ⟨t, .ok, [byte i, byte t.plan.entries.length]⟩ := by simp [planDeleteAnswer, h, free, away, fits]

end Delete

/-- R15: where a link stands once the entry at index i is deleted. -/
def linkAfterDelete (i : Nat) : Option Nat → Option Nat
  | none => none
  | some j => if j < i then some j else if j = i then none else some (j - 1)

theorem bind_afterDelete (i : Nat) (link : Option Nat) : link.bind (afterDelete i) = linkAfterDelete i link := by
  cases link with
  | none => rfl
  | some j =>
    simp only [Option.bind_some, afterDelete, linkAfterDelete]
    rcases Nat.lt_trichotomy j i with lt | rfl | gt
    · simp [lt, lt.ne, lt.not_gt]
    · simp
    · simp [gt, gt.ne', gt.not_gt]

/-- The state after a delete on a request with this body, before the exhaustion test. -/
abbrev deleting (l : Connector) (body : List Byte) (s : State) (i : Nat) : State :=
  (replacing l body s i (s.plan.entries.eraseIdx i)).relink (afterDelete i)

theorem deleting_changes (l : Connector) (body : List Byte) (s : State) (i : Nat) :
    changesOnly [.plan, .prog, .chan .a, .chan .b] (s.takeSlot l body) (deleting l body s i) :=
  ((replacing_changes _ _ _ _ _).mono (by simp)).andThen (relink_changes _ _) (by simp)

/-- Settles O18: the four answers of PLAN_DELETE, each by its own check. -/
theorem planDeletes : Obligations.PlanDeletes := by
  intro l i s h
  have passes := houseRequest_passes (requestBody (.planDelete i)) h (planDeleteAnswer i.toNat)
  refine ⟨fun none => repliesOnly_of h.2 (passes.trans (planDeleteAnswer_noEntry none)), fun e found => ?_⟩
  refine ⟨fun blocked => ?_, fun free clash => ?_, fun free fits => ?_⟩
  · refine repliesOnly_of h.2 (passes.trans (planDeleteAnswer_locked found (blocked.imp_left fun state => ?_)))
    exact Bool.eq_false_iff.mpr fun removable => state ((EntryState.removable_iff _).mp removable)
  all_goals
    obtain ⟨removable, away⟩ := not_or.mp free
    have removable := (EntryState.removable_iff _).mpr (not_not.mp removable)
    have erased := List.eraseIdx_eq_take_drop_succ s.plan.entries i.toNat
  · exact repliesOnly_of h.2 (passes.trans (planDeleteAnswer_conflict found removable away (erased ▸ clash)))
  · refine grants_of h.2 (deleting l _ s i.toNat)
      ((passes.trans (planDeleteAnswer_deleted found removable away (erased ▸ fits))).trans ?_)
      (notified_nil fun m => (deleting_changes l _ s _).links m (by simp)) ⟨?_, ?_, fun p => ?_⟩
      ((deleting_changes l _ s _).mono (List.subset_append_right _ _))
    · simp only [byte_toNat]
      rfl
    · rw [plan_relink, plan_replacing, erased]
    · rw [prog_relink, prog_setEntries, prog_releaseChannel]
      simp only [bind_afterDelete]
      rfl
    · rw [chanOf_relink, chanOf_replacing]
      split
      · rfl
      · rw [bind_afterDelete]
        rfl

end Sys2Proof.Machine
end

section
/-! PROOF. PLAN_SKIP (R13) and PLAN_HEADER (R16). -/

namespace Sys2Proof.Machine

section Skip

variable {s : State} {i : Nat} {e : Entry}

theorem planSkipAnswer_noEntry (h : s.entryAt i = none) : planSkipAnswer i s = s.answer .noEntry := by
  simp only [planSkipAnswer, h]

variable (h : s.entryAt i = some e)

include h

theorem planSkipAnswer_locked (locked : e.state = .armed ∨ e.state = .running ∨ e.state = .done) :
    planSkipAnswer i s = s.answer .locked := by
  rcases locked with hs | hs | hs <;> simp only [planSkipAnswer, h, hs]

theorem planSkipAnswer_skipped (skipped : e.state = .skipped) : planSkipAnswer i s = ⟨s, .ok, [byte i, 5]⟩ := by
  simp only [planSkipAnswer, h, skipped, skipData]
  rfl

theorem planSkipAnswer_conflict (free : e.state = .pending ∨ e.state = .threaded)
    (clash : alternates (s.plan.entries.set i { e with state := .skipped }) = false) :
    planSkipAnswer i s = s.answer .planConflict := by
  rcases free with hs | hs <;> simp only [planSkipAnswer, h, hs, clash, Bool.false_eq_true, if_false]

theorem planSkipAnswer_made (free : e.state = .pending ∨ e.state = .threaded)
    (fits : alternates (s.plan.entries.set i { e with state := .skipped }) = true) :
    planSkipAnswer i s =
      let t := ((s.releaseChannel i).setEntries (s.plan.entries.set i { e with state := .skipped })).testExhausted
        false
      ⟨t, .ok, [byte i, 5]⟩ := by
  have lt : i < s.plan.entries.length := (List.getElem?_eq_some_iff.mp h).1
  have found : ((s.releaseChannel i).setEntries
      (s.plan.entries.set i { e with state := .skipped })).entryAt i = some { e with state := .skipped } := by
    simp [State.entryAt, lt]
  have sent : ∀ t : State, t.entryAt i = some { e with state := .skipped } → skipData t i = [byte i, 5] := by
    intro t ht
    simp only [skipData, ht]
    rfl
  rw [← sent _ (entryAt_testExhausted found (by simp) false)]
  rcases free with hs | hs <;> simp only [planSkipAnswer, h, hs, fits, if_true]

end Skip

/-! ### PLAN_HEADER -/

theorem restarts_iff (s : State) :
    (decide (s.prog.state = .ended) && !s.plan.entries.any (fun e => decide (e.state = .running))) = true ↔
      s.prog.state = .ended ∧ ∀ e ∈ s.plan.entries, e.state ≠ .running := by simp

theorem planHeaderAnswer_counts {s : State}
    (h : ¬(s.prog.state = .ended ∧ ∀ e ∈ s.plan.entries, e.state ≠ .running)) (count : Nat) :
    planHeaderAnswer count s =
      let t := s.setPlan { s.plan with repeatCount := count }
      ⟨t, .ok, headerData t⟩ := by
  unfold planHeaderAnswer State.writeHeader
  rw [if_neg (mt (restarts_iff s).mp h)]

theorem planHeaderAnswer_restarts {s : State}
    (h : s.prog.state = .ended ∧ ∀ e ∈ s.plan.entries, e.state ≠ .running) (count : Nat) :
    planHeaderAnswer count s =
      let t := (s.setPlan { s.plan with repeatCount := count }).restartPlan
      ⟨t, .ok, headerData t⟩ := by
  unfold planHeaderAnswer State.writeHeader
  rw [if_pos ((restarts_iff s).mpr h)]

/-- The state after a PLAN_HEADER that restarts the plan, on a request with this body. -/
abbrev restarting (l : Connector) (body : List Byte) (s : State) (count : Nat) : State :=
  ((s.takeSlot l body).setPlan { s.plan with repeatCount := count }).restartPlan

theorem restarting_changes (l : Connector) (body : List Byte) (s : State) (count : Nat) :
    changesOnly [.plan, .prog, .chan .a, .chan .b] (s.takeSlot l body) (restarting l body s count) :=
  ((setPlan_changes _ _).mono (by simp)).andThen (restartPlan_changes _) (List.Subset.refl _)

/-- Settles O19: PLAN_SKIP by the state of the entry, PLAN_HEADER by whether it restarts the plan. -/
theorem planSkipsAndHeaders : Obligations.PlanSkipsAndHeaders := by
  refine ⟨fun l i s h => ?_, fun l n s h => ?_⟩
  · have passes := houseRequest_passes (requestBody (.planSkip i)) h (planSkipAnswer i.toNat)
    refine ⟨fun none => repliesOnly_of h.2 (passes.trans (planSkipAnswer_noEntry none)), fun e found => ?_⟩
    refine ⟨fun locked => ?_, fun skipped => ?_, fun free clash => ?_, fun free fits => ?_⟩
    · exact repliesOnly_of h.2 (passes.trans (planSkipAnswer_locked found locked))
    · refine repliesOnly_of h.2 ((passes.trans (planSkipAnswer_skipped found skipped)).trans ?_)
      simp only [byte_toNat]
    · exact repliesOnly_of h.2 (passes.trans (planSkipAnswer_conflict found free clash))
    · refine grants_of h.2 (replacing l _ s i.toNat _)
        ((passes.trans (planSkipAnswer_made found free fits)).trans ?_)
        (notified_replacing _ _ _ _ _) ⟨plan_replacing _ _ _ _ _, chanOf_replacing _ _ _ _ _⟩
        ((replacing_changes _ _ _ _ _).mono (List.subset_append_right _ _))
      simp only [byte_toNat]
      rfl
  · have passes := houseRequest_passes (requestBody (.planHeader n)) h (planHeaderAnswer n.toNat)
    refine ⟨fun kept => ?_, fun restarts => ?_⟩
    · exact grants_of h.2 ((s.takeSlot l _).setPlan { s.plan with repeatCount := n.toNat })
        (passes.trans (planHeaderAnswer_counts (s := s.takeSlot l _) kept _)) (notified_nil fun _ => rfl) rfl
        ((setPlan_changes _ _).mono (by simp))
    · refine grants_of h.2 (restarting l _ s n.toNat)
        (passes.trans (planHeaderAnswer_restarts (s := s.takeSlot l _) restarts _))
        (notified_nil fun m => (restarting_changes l _ s _).links m (by simp)) ⟨?_, ?_, fun p => ?_⟩
        ((restarting_changes l _ s _).mono (List.subset_append_right _ _))
      · rw [plan_restartPlan]
        rfl
      · rw [prog_restartPlan]
        rfl
      · rw [chanOf_restartPlan]
        rfl

end Sys2Proof.Machine
end

section
/-! PROOF. More footprints: the blocks of the state that a start of the show, a heat reading, a fire source and a
command of the dimmer bus can change. -/

namespace Sys2Proof.Machine

/-! ### The start of the show (R154) -/

theorem showStarted_changes (s : State) (byPanel : Bool) :
    changesOnly ([.prog, .lights, .freeCount] ++ everyLink) s (s.showStarted byPanel) := by
  unfold State.showStarted
  dsimp only
  split
  · exact (setProg_changes _ _).mono (by simp)
  · exact ((setProg_changes s _).mono (by simp)).andThen (applyRestore_changes _) (by simp)
  · split
    · split
      · exact ((notify_changes s _ _ _).mono (by simp)).andThen (setProg_changes _ _) (by simp)
      · exact (((notify_changes s _ _ _).mono (by simp)).andThen (setProg_changes _ _) (by simp)).andThen
          (freeUsed_changes _) (by simp)
    · exact (setProg_changes _ _).mono (by simp)
  all_goals exact changesOnly_refl _ _

/-! ### Heat readings (R107) -/

theorem compareHeat_changes (s : State) (p : Projector) : changesOnly [.heat p] s (s.compareHeat p) := by
  unfold State.compareHeat
  dsimp only
  split
  · split
    · exact setHeat_changes _ _ _
    · exact changesOnly_refl _ _
  all_goals first
    | exact setHeat_changes _ _ _
    | split <;> exact setHeat_changes _ _ _

/-! ### What fire entry can reach (R112, R113) -/

/-- The blocks that a fire source can reach: the fire record, the arcs, the shutters and the show; never the inputs, the
heat monitors, the bus, the routing table or the motion count. -/
abbrev fireBlocks : List Block :=
  [.fire, .arc .a, .arc .b, .shutter .portA, .shutter .portB, .shutter .obs1, .shutter .obs2] ++ showBlocks

theorem showBlocks_subset_fireBlocks : showBlocks ⊆ fireBlocks := List.subset_append_right _ _

theorem putOut_inFire (s : State) (p : Projector) (cause : ArcCause) : changesOnly fireBlocks s (s.putOut p cause) :=
  (putOut_changes s p cause).mono (by cases p <;> simp)

theorem dropForFire_inFire (s : State) (sh : Shutter) : changesOnly fireBlocks s (s.dropForFire sh) := by
  unfold State.dropForFire
  split
  · exact (shutterTo_changes s sh _ _).mono (by cases sh <;> simp)
  · exact changesOnly_refl _ _

theorem foldl_dropForFire_inFire (shutters : List Shutter) (s : State) :
    changesOnly fireBlocks s (shutters.foldl (fun t sh => t.dropForFire sh) s) := by
  induction shutters generalizing s with
  | nil => exact changesOnly_refl _ _
  | cons sh rest ih => exact (dropForFire_inFire s sh).trans (ih _)

theorem fireNotice_inFire (s : State) (x : Source) (added : Byte) :
    changesOnly fireBlocks s (s.fireNotice x added) := (notify_changes _ _ _ _).mono (by simp)

theorem setFire_inFire (s : State) (x : FireRec) : changesOnly fireBlocks s (s.setFire x) :=
  (setFire_changes s x).mono (by simp)

theorem makeSafe_inFire (s : State) (p : Projector) (cause : HaltCause) :
    changesOnly fireBlocks s (s.makeSafe p cause) := (makeSafe_inShow s p cause).mono showBlocks_subset_fireBlocks

theorem fireEntry_inFire (s : State) (x : Source) : changesOnly fireBlocks s (s.fireEntry x) := by
  have stopped (t : State) (y : Lighting) (z : Progress) : changesOnly fireBlocks t ((t.setLights y).setProg z) :=
    ((setLights_changes t y).mono (by simp)).andThen (setProg_changes _ z) (by simp)
  exact ((((((setFire_inFire s _).trans (makeSafe_inFire _ .a .fire)).trans (makeSafe_inFire _ .b .fire)).trans
    (stopped _ _ _)).trans ((fireNotice_inFire _ x 0).trans (foldl_dropForFire_inFire _ _))).trans
    (putOut_inFire _ .a _)).trans (putOut_inFire _ .b _)

/-- R112, R113: a fire source stays inside these blocks. -/
theorem fireSource_inFire (s : State) (x : Source) : changesOnly fireBlocks s (s.fireSource x) := by
  unfold State.fireSource
  split
  · split
    · exact changesOnly_refl _ _
    · exact (setFire_inFire s _).trans (fireNotice_inFire _ _ _)
  · exact fireEntry_inFire s x

/-! ### The dimmer bus (R136 to R146) -/

/-- The blocks that a bus command can change. -/
abbrev busBlocks : List Block := [.bus, .lights, .par, .motionCount] ++ everyLink

theorem setBus_inBus (s : State) (b : Bus) : changesOnly busBlocks s (s.setBus b) :=
  (setBus_changes s b).mono (by simp)

theorem notify_inBus (s : State) (kind : NoticeKind) (subject : Byte) (data : List Byte) :
    changesOnly busBlocks s (s.notify kind subject data) := (notify_changes s _ _ _).mono (by simp)

theorem fadeStepOn_inBus (s : State) (g : Group) : changesOnly busBlocks s (s.fadeStepOn g) := by
  have stepped (x : Lighting) : changesOnly busBlocks s (s.setLights x) := (setLights_changes s x).mono (by simp)
  unfold State.fadeStepOn
  dsimp only
  split
  · exact (stepped _).andThen (route_changes _ _) (by simp)
  · exact stepped _

theorem fadeStep_inBus (s : State) : changesOnly busBlocks s s.fadeStep :=
  (((fadeStepOn_inBus s _).trans (fadeStepOn_inBus _ _)).trans (fadeStepOn_inBus _ _)).trans (fadeStepOn_inBus _ _)

theorem cycleStart_inBus (s : State) : changesOnly busBlocks s s.cycleStart :=
  ((((passTo_changes s _).mono (by simp)).andThen (setPar_changes _ _) (by simp)).trans
    (fadeStep_inBus _)).trans (setBus_inBus _ _)

theorem sendPacket_inBus (s : State) : changesOnly busBlocks s s.sendPacket := by
  unfold State.sendPacket
  dsimp only
  split
  · exact changesOnly_refl _ _
  · split
    · exact changesOnly_refl _ _
    · split <;> exact setBus_inBus _ _

theorem packMisses_inBus (s : State) (x : Pack) : changesOnly busBlocks s (s.packMisses x) := by
  unfold State.packMisses
  dsimp only
  split
  · exact (setBus_inBus s _).trans (notify_inBus _ _ _ _)
  · exact setBus_inBus _ _

theorem packAnswers_inBus (s : State) (loadFail : Bool) (x : Pack) :
    changesOnly busBlocks s (s.packAnswers loadFail x) := by
  unfold State.packAnswers
  dsimp only
  split
  · exact setBus_inBus _ _
  · exact (setBus_inBus s _).trans (notify_inBus _ _ _ _)

theorem windowEnds_inBus (s : State) (reply : List Byte) : changesOnly busBlocks s (s.windowEnds reply) := by
  unfold State.windowEnds
  split
  · exact changesOnly_refl _ _
  · dsimp only
    split
    · exact setBus_inBus _ _
    · split
      · exact (setBus_inBus s _).trans (packAnswers_inBus _ _ _)
      · exact (setBus_inBus s _).trans (packMisses_inBus _ _)

theorem roundWon_inBus (s : State) (serial : Serial) : changesOnly busBlocks s (s.roundWon serial) := by
  unfold State.roundWon
  split
  · exact (setBus_inBus s _).trans (notify_inBus _ _ _ _)
  · split <;> exact (setBus_inBus s _).trans (notify_inBus _ _ _ _)

theorem roundVoid_inBus (s : State) (serial : Serial) : changesOnly busBlocks s (s.roundVoid serial) := by
  unfold State.roundVoid
  dsimp only
  split
  · exact changesOnly_refl _ _
  · exact setBus_inBus _ _

theorem roundAnswered_inBus (s : State) (contenders : List Serial) (ack : List Byte) :
    changesOnly busBlocks s (s.roundAnswered contenders ack) := by
  unfold State.roundAnswered
  dsimp only
  split
  · exact (setBus_inBus s _).trans (roundWon_inBus _ _)
  · exact (setBus_inBus s _).trans (roundVoid_inBus _ _)

theorem enumerated_inBus (s : State) (complete : Bool) : changesOnly busBlocks s (s.enumerated complete) :=
  (setBus_inBus s _).trans (notify_inBus _ _ _ _)

theorem countRound_inBus (s : State) (answered : Bool) : changesOnly busBlocks s (s.countRound answered) := by
  unfold State.countRound
  split
  · dsimp only
    split
    · exact (setBus_inBus s _).trans (enumerated_inBus _ _)
    · split
      · exact (setBus_inBus s _).trans (enumerated_inBus _ _)
      · exact setBus_inBus _ _
  · exact changesOnly_refl _ _

theorem roundEnds_inBus (s : State) (contenders : List Serial) (ack : List Byte) :
    changesOnly busBlocks s (s.roundEnds contenders ack) := by
  unfold State.roundEnds
  split
  · dsimp only
    split
    · exact (setBus_inBus s _).trans (countRound_inBus _ _)
    · exact ((setBus_inBus s _).trans (roundAnswered_inBus _ _ _)).trans (countRound_inBus _ _)
  · exact changesOnly_refl _ _

theorem breakEnds_inBus (s : State) : changesOnly busBlocks s s.breakEnds := by
  unfold State.breakEnds
  split
  · exact ((passTo_changes s _).mono (by simp)).trans (setBus_inBus _ _)
  · exact changesOnly_refl _ _

end Sys2Proof.Machine
end

section
/-! PROOF. POWER_ON (R118): the power-on values of every block, the first heat readings, and the fire inputs. -/

namespace Sys2Proof.Machine

@[simp] theorem inputs_fireSource (s : State) (x : Source) : (s.fireSource x).inputs = s.inputs :=
  fireSource_inFire s x .inputs (by simp)

/-! ### The fire inputs at power-on -/

/-- R111: a fire input is open. -/
def Inputs.isOpen (x : Inputs) : FireInput → Bool
  | .pull1 => x.pull1
  | .pull2 => x.pull2
  | .loop => x.loop

theorem testFireInput_eq (s : State) (x : FireInput) :
    s.testFireInput x =
      (if s.inputs.isOpen x then [Source.input x] else []).foldl (fun t y => t.fireSource y) s := by
  have active : s.sourceActive (Source.input x) = s.inputs.isOpen x := by cases x <;> rfl
  unfold State.testFireInput
  rw [active]
  split <;> rfl

@[simp] theorem inputs_testFireInput (s : State) (x : FireInput) : (s.testFireInput x).inputs = s.inputs := by
  unfold State.testFireInput
  split <;> simp

/-- R118: the fire inputs tested one after the other are the sources that are open, entered in that order. -/
theorem testFireInputs_eq (s : State) :
    ((s.testFireInput .pull1).testFireInput .pull2).testFireInput .loop =
      ((if s.inputs.pull1 then [Source.pull1] else []) ++ (if s.inputs.pull2 then [Source.pull2] else []) ++
        if s.inputs.loop then [Source.loop] else []).foldl (fun t x => t.fireSource x) s := by
  rw [testFireInput_eq _ .loop, inputs_testFireInput, inputs_testFireInput, testFireInput_eq _ .pull2,
    inputs_testFireInput, testFireInput_eq s .pull1, List.foldl_append, List.foldl_append]
  rfl

/-! ### The first heat readings -/

/-- R107: a calm monitor enters its first stage where the reading is above the threshold. -/
theorem heatOf_compareHeat {s : State} {p : Projector} (h : s.heatOf p = ⟨.normal, none, 0⟩) :
    (s.compareHeat p).heatOf p =
      if s.held p .heatThreshold < s.inputs.heat.get p then ⟨.stage1Wait, some 0, s.inputs.heat.get p⟩
      else ⟨.normal, none, 0⟩ := by
  simp only [State.compareHeat, h]
  split
  · exact State.heatOf_setHeat_self _ _ _
  · exact h

/-- R118: the state before the fire inputs are tested. -/
abbrev poweredUpHeated (s : State) : State := (s.poweredUp.compareHeat .a).compareHeat .b

theorem poweredUpHeated_changes (s : State) :
    changesOnly [.heat .a, .heat .b] s.poweredUp (poweredUpHeated s) :=
  ((compareHeat_changes _ .a).mono (by simp)).andThen (compareHeat_changes _ .b) (by simp)

theorem heatOf_poweredUpHeated (s : State) (p : Projector) :
    (poweredUpHeated s).heatOf p =
      if 150 < s.inputs.heat.get p then ⟨.stage1Wait, some 0, s.inputs.heat.get p⟩ else ⟨.normal, none, 0⟩ := by
  have calm (p : Projector) : s.poweredUp.heatOf p = ⟨.normal, none, 0⟩ := by cases p <;> rfl
  have threshold (p : Projector) : s.poweredUp.held p .heatThreshold = 150 := by cases p <;> rfl
  have same := compareHeat_changes s.poweredUp .a
  cases p with
  | a =>
    have later := compareHeat_changes (s.poweredUp.compareHeat .a) .b (.heat .a) (by simp)
    refine (later.trans (heatOf_compareHeat (calm .a))).trans ?_
    rw [threshold]
    rfl
  | b =>
    have par : (s.poweredUp.compareHeat .a).held .b .heatThreshold = 150 := by
      rw [← threshold .b, State.held, same .par (by simp)]
      rfl
    have inputs : (s.poweredUp.compareHeat .a).inputs = s.inputs := same .inputs (by simp)
    have calmB : (s.poweredUp.compareHeat .a).heatOf .b = ⟨.normal, none, 0⟩ :=
      (same (.heat .b) (by simp)).trans (calm .b)
    rw [heatOf_compareHeat calmB, par, inputs]

theorem shutterOf_poweredUp (s : State) (sh : Shutter) :
    s.poweredUp.shutterOf sh =
      ⟨if s.inputs.closedSense.atShutter sh = true then .down else .jammed, none, false, false, .none⟩ := by
  cases sh <;> rfl

/-- R178: the default masks. -/
theorem maskOf_poweredUp (s : State) (k : NoticeKind) :
    s.poweredUp.maskOf k = if k = .lightsDone ∨ k = .packEvent ∨ k = .busResetDone then 4 else 7 := by
  cases k <;> rfl

/-- Settles O46: the heat readings change the monitors alone, so every other block is as `poweredUp` writes it. -/
theorem powersOn : Obligations.PowersOn := by
  intro s
  have kept := poweredUpHeated_changes s
  have inputs : (poweredUpHeated s).inputs = s.inputs := kept .inputs (by simp)
  have par : (poweredUpHeated s).par = s.poweredUp.par := kept .par (by simp)
  have lights : (poweredUpHeated s).lights = s.poweredUp.lights := kept .lights (by simp)
  obtain ⟨token, sound⟩ := kept .token (by simp)
  refine ⟨poweredUpHeated s, ?_, kept .plan (by simp), kept .prog (by simp), token, sound, fun p => ⟨?_, ?_, ?_,
    heatOf_poweredUpHeated s p, ?_⟩, ?_, fun sh => ?_, kept .fire (by simp), fun g => ?_, ?_, ?_, kept .bus (by simp),
    fun l => ?_, fun k => ?_, inputs, kept .motionCount (by simp), kept .queue (by simp)⟩
  · change State.completed _ = _
    rw [testFireInputs_eq, inputs]
    rfl
  · refine (kept (.motion p) (by simp)).trans ?_
    cases p <;> rfl
  · refine (kept (.chan p) (by simp)).trans ?_
    cases p <;> rfl
  · refine (kept (.arc p) (by simp)).trans ?_
    cases p <;> rfl
  · rw [par]
    cases p <;> rfl
  · rw [par]
    rfl
  · exact (kept (.shutter sh) (by simp)).trans (shutterOf_poweredUp s sh)
  · rw [lights]
    cases g <;> rfl
  · rw [lights]
    rfl
  · rw [lights]
    rfl
  · refine (kept (.link l) (by simp)).trans ?_
    cases l <;> rfl
  · rw [State.maskOf, kept .routing (by simp)]
    exact maskOf_poweredUp s k

end Sys2Proof.Machine
end

section
/-! PROOF. The plan law (R4, R5, R8, R40), channel by channel: what one channel's link to its entry says, and how it
fares when entries are replaced, inserted, deleted and brought back. -/

namespace Sys2Proof.Machine

/-! ### One channel's link -/

/-- R4: the states of an entry that has a channel. -/
def EntryState.prepared : EntryState → Bool
  | .threaded | .armed | .running => true
  | .pending | .done | .skipped => false

theorem EntryState.prepared_iff (x : EntryState) :
    x.prepared = true ↔ x = .threaded ∨ x = .armed ∨ x = .running := by cases x <;> simp [EntryState.prepared]

theorem ChannelState.prepared_entryState {x : ChannelState} {y : EntryState} (h : x.entryState = some y) :
    y.prepared = true := by
  cases x <;> cases h <;> rfl

/-- R4, R5, R40: the link of projector p's channel, in state x: outside IDLE it names an entry of p, in the state that
goes with x, and it names every entry of p that is prepared. -/
structure Laced (entries : List Entry) (p : Projector) (x : ChannelState) (link : Option Nat) : Prop where
  idle : link = none → x.entryState = none
  names : ∀ i, link = some i → ∃ e, entries[i]? = some e ∧ e.projector = p ∧ x.entryState = some e.state
  owns : ∀ i e, entries[i]? = some e → e.projector = p → e.state.prepared = true → link = some i

namespace Laced

variable {entries entries' : List Entry} {p q : Projector} {x y : ChannelState} {link : Option Nat} {i : Nat}
  {e : Entry}

/-- A channel outside IDLE names an entry. -/
theorem linked (h : Laced entries p x link) (away : x.entryState ≠ none) : ∃ i, link = some i := by
  cases link with
  | none => exact absurd (h.idle rfl) away
  | some i => exact ⟨i, rfl⟩

/-- A channel in IDLE names none. -/
theorem unlinked (h : Laced entries p x link) (idle : x.entryState = none) : link = none := by
  cases link with
  | none => rfl
  | some i =>
    obtain ⟨e, -, -, state⟩ := h.names i rfl
    cases idle.symm.trans state

/-- A channel is linked to no entry that is not prepared. -/
theorem ne_of_unprepared (h : Laced entries p x link) (at_i : entries[i]? = some e)
    (free : e.state.prepared = false) : link ≠ some i := by
  intro hi
  obtain ⟨e', at_i', -, state⟩ := h.names i hi
  cases at_i.symm.trans at_i'
  rw [ChannelState.prepared_entryState state] at free
  cases free

/-- A channel is linked to no entry of the other projector. -/
theorem ne_of_foreign (h : Laced entries p x link) (at_i : entries[i]? = some e) (foreign : e.projector ≠ p) :
    link ≠ some i := by
  intro hi
  obtain ⟨e', at_i', own, -⟩ := h.names i hi
  cases at_i.symm.trans at_i'
  exact foreign own

/-- Channel states that go with one entry state. -/
theorem congr (h : Laced entries p x link) (same : y.entryState = x.entryState) : Laced entries p y link :=
  ⟨fun hn => same ▸ h.idle hn, fun i hi => same ▸ h.names i hi, h.owns⟩

theorem of_unprepared (none_prepared : ∀ e ∈ entries, e.state.prepared = false) : Laced entries p .idle none := by
  refine ⟨fun _ => rfl, fun _ h => (by cases h), fun i e at_i _ prepared => ?_⟩
  rw [none_prepared e (List.mem_of_getElem? at_i)] at prepared
  cases prepared

/-- Entries brought back for another showing: the prepared ones are left, and no other becomes prepared. -/
theorem map (h : Laced entries p x link) {f : Entry → Entry} (left : ∀ e, e.state.prepared = true → f e = e)
    (unprepared : ∀ e, e.state.prepared = false → (f e).state.prepared = false) :
    Laced (entries.map f) p x link := by
  refine ⟨h.idle, fun i hi => ?_, fun i e' at_i own prepared => ?_⟩
  · obtain ⟨e, at_i, own, state⟩ := h.names i hi
    refine ⟨e, ?_, own, state⟩
    rw [List.getElem?_map, at_i, Option.map_some, left e (ChannelState.prepared_entryState state)]
  · rw [List.getElem?_map, Option.map_eq_some_iff] at at_i
    obtain ⟨e, at_i, rfl⟩ := at_i
    cases he : e.state.prepared with
    | true =>
      rw [left e he] at own
      exact h.owns i e at_i own he
    | false =>
      rw [unprepared e he] at prepared
      cases prepared

section Replace

variable (agree : ∀ j, j ≠ i → entries'[j]? = entries[j]?)

include agree

/-- An entry that the channel does not name is replaced by one that is not its own or not prepared. -/
theorem replace (h : Laced entries p x link) (other : link ≠ some i)
    (free : ∀ e, entries'[i]? = some e → e.projector = p → e.state.prepared = false) : Laced entries' p x link := by
  refine ⟨h.idle, fun j hj => ?_, fun j e at_j own prepared => ?_⟩
  · have ne : j ≠ i := fun hji => other (hji ▸ hj)
    rw [agree j ne]
    exact h.names j hj
  · by_cases hj : j = i
    · subst hj
      rw [free e at_j own] at prepared
      cases prepared
    · exact h.owns j e (agree j hj ▸ at_j) own prepared

/-- The entry that the channel names is replaced by one that is not prepared, and the channel released. -/
theorem release (h : Laced entries p x (some i))
    (free : ∀ e, entries'[i]? = some e → e.projector = p → e.state.prepared = false) :
    Laced entries' p .idle none := by
  refine ⟨fun _ => rfl, fun _ hj => (by cases hj), fun j e at_j own prepared => ?_⟩
  by_cases hj : j = i
  · subst hj
    rw [free e at_j own] at prepared
    cases prepared
  · have named := h.owns j e (agree j hj ▸ at_j) own prepared
    exact absurd (Option.some.inj named).symm hj

/-- The channel comes to a state, or an entry, with the entry in the state that goes with it. -/
theorem settle (h : Laced entries p x link) (hl : link = none ∨ link = some i) (at_i : entries'[i]? = some e)
    (own : e.projector = p) (state : y.entryState = some e.state) : Laced entries' p y (some i) := by
  refine ⟨fun hn => (by cases hn), fun j hj => ?_, fun j e' at_j own' prepared => ?_⟩
  · cases hj
    exact ⟨e, at_i, own, state⟩
  · by_cases hj : j = i
    · rw [hj]
    · have named := h.owns j e' (agree j hj ▸ at_j) own' prepared
      rcases hl with hl | hl
      · cases hl.symm.trans named
      · exact hl ▸ named

end Replace

/-- R11, R15: an entry that is not prepared is inserted. -/
theorem insert (h : Laced entries p x link) (le : i ≤ entries.length) (free : e.state.prepared = false) :
    Laced (entries.insertIdx i e) p x (link.map (afterInsert i)) := by
  refine ⟨fun hn => h.idle (by simpa using hn), fun j hj => ?_, fun j e' at_j own prepared => ?_⟩
  · obtain ⟨k, hk, rfl⟩ := Option.map_eq_some_iff.mp hj
    obtain ⟨e', at_k, rest⟩ := h.names k hk
    refine ⟨e', ?_, rest⟩
    rw [List.getElem?_insertIdx, afterInsert]
    by_cases hik : i ≤ k
    · rw [if_pos hik, if_neg (by omega), if_neg (by omega), Nat.add_sub_cancel, at_k]
    · rw [if_neg hik, if_pos (by omega), at_k]
  · rw [List.getElem?_insertIdx] at at_j
    rcases Nat.lt_trichotomy j i with lt | rfl | gt
    · rw [if_pos lt] at at_j
      rw [h.owns j e' at_j own prepared, Option.map_some, afterInsert, if_neg (by omega)]
    · rw [if_neg (by omega), if_pos rfl, if_pos le] at at_j
      cases at_j
      rw [free] at prepared
      cases prepared
    · rw [if_neg (by omega), if_neg (by omega)] at at_j
      rw [h.owns (j - 1) e' at_j own prepared, Option.map_some, afterInsert, if_pos (by omega)]
      congr 1
      omega

/-- R12, R15: an entry that is not prepared is deleted. -/
theorem erase (h : Laced entries p x link) (at_i : entries[i]? = some e) (free : e.state.prepared = false) :
    Laced (entries.eraseIdx i) p x (link.bind (afterDelete i)) := by
  have ne := h.ne_of_unprepared at_i free
  rw [bind_afterDelete]
  refine ⟨fun hn => ?_, fun j hj => ?_, fun j e' at_j own prepared => ?_⟩
  · cases link with
    | none => exact h.idle rfl
    | some k =>
      have hk : k ≠ i := fun hk => ne (hk ▸ rfl)
      simp only [linkAfterDelete, if_neg hk] at hn
      split at hn <;> cases hn
  · cases link with
    | none => cases hj
    | some k =>
      have hk : k ≠ i := fun hk => ne (hk ▸ rfl)
      obtain ⟨e', at_k, rest⟩ := h.names k rfl
      refine ⟨e', ?_, rest⟩
      simp only [linkAfterDelete, if_neg hk] at hj
      rw [List.getElem?_eraseIdx]
      split at hj <;> cases hj
      · next lt => rw [if_pos lt, at_k]
      · next le => rw [if_neg (by omega), Nat.sub_add_cancel (by omega), at_k]
  · rw [List.getElem?_eraseIdx] at at_j
    by_cases lt : j < i
    · rw [if_pos lt] at at_j
      rw [h.owns j e' at_j own prepared, linkAfterDelete, if_pos lt]
    · rw [if_neg lt] at at_j
      rw [h.owns (j + 1) e' at_j own prepared, linkAfterDelete, if_neg (by omega), if_neg (by omega),
        Nat.add_sub_cancel]

end Laced

/-! ### The plan law of a state -/

namespace State

/-- R2, R4, R5, R6, R8, R40: both channels' links and the plan's entries. -/
structure PlanKept (s : State) : Prop where
  laced : ∀ p, Laced s.plan.entries p (s.chanOf p).state (s.chanOf p).entry
  fit : PlanFit s.plan.entries

theorem linkLaw_iff (s : State) :
    s.linkLaw ↔ ∀ p, Laced s.plan.entries p (s.chanOf p).state (s.chanOf p).entry := by
  have both (p : Projector) : p ∈ Projector.both := by cases p <;> simp
  constructor
  · rintro ⟨matching, linked, prepared⟩
    have names (p : Projector) (i : Nat) (hi : (s.chanOf p).entry = some i) : ∃ e, s.plan.entries[i]? = some e ∧
        e.projector = p ∧ (s.chanOf p).state.entryState = some e.state := by
      have found : s.entryOf p = s.plan.entries[i]? := by rw [entryOf, hi]; rfl
      have present : (s.plan.entries[i]?).isSome = true := by rw [← found, ← linked p (both p), hi]; rfl
      obtain ⟨e, at_i⟩ := Option.isSome_iff_exists.mp present
      have state := matching p (both p)
      rw [found, at_i, Option.map_some, eq_comm, Option.map_eq_some_iff] at state
      obtain ⟨x, hx, pair⟩ := state
      obtain ⟨rfl, rfl⟩ := Prod.mk.inj pair
      exact ⟨e, at_i, rfl, hx⟩
    refine fun p => ⟨fun hn => ?_, names p, fun i e at_i own hp => ?_⟩
    · have state := matching p (both p)
      rw [entryOf, hn] at state
      exact Option.map_eq_none_iff.mp state.symm
    · have lt := (List.getElem?_eq_some_iff.mp at_i).1
      have found := prepared i (List.mem_range.mpr lt) e at_i ((EntryState.prepared_iff _).mp hp)
      obtain ⟨q, hq⟩ := Option.isSome_iff_exists.mp found
      obtain ⟨e', at_i', own', -⟩ := names q i (linkedTo_entry hq)
      cases at_i.symm.trans at_i'
      obtain rfl : p = q := own.symm.trans own'
      exact linkedTo_entry hq
  · intro laced
    refine ⟨fun p _ => ?_, fun p _ => ?_, fun i _ e at_i hp => ?_⟩
    · cases hl : (s.chanOf p).entry with
      | none => rw [entryOf, hl, (laced p).idle hl]; rfl
      | some i =>
        obtain ⟨e, at_i, own, state⟩ := (laced p).names i hl
        have found : s.entryOf p = some e := by rw [entryOf, hl]; exact at_i
        rw [found, state, Option.map_some, Option.map_some, own]
    · cases hl : (s.chanOf p).entry with
      | none => rw [entryOf, hl]; rfl
      | some i =>
        obtain ⟨e, at_i, -⟩ := (laced p).names i hl
        have found : s.entryOf p = some e := by rw [entryOf, hl]; exact at_i
        rw [found]; rfl
    · have named := (laced e.projector).owns i e at_i rfl ((EntryState.prepared_iff _).mpr hp)
      cases hq : e.projector <;> rw [hq] at named <;> simp [linkedTo, named]
      split <;> rfl

theorem planLaw_iff (s : State) : s.planLaw ↔ s.PlanKept := by
  refine ⟨fun ⟨links, ⟨size, alternate⟩, ranges⟩ => ⟨(linkLaw_iff s).mp links, size, alternate, ranges⟩, ?_⟩
  rintro ⟨laced, size, alternate, ranges⟩
  exact ⟨(linkLaw_iff s).mpr laced, ⟨size, alternate⟩, ranges⟩

end State

end Sys2Proof.Machine
end

section
/-! PROOF. The law that every step keeps, and the shared moves of a channel with its entry. -/

namespace Sys2Proof.Machine

/-- R41: the token names a channel that is ON_SCREEN or DARK. -/
def State.TokenHeld (s : State) : Prop := ∀ p, s.token = some p → (s.chanOf p).state.holding = true

/-- The plan law, with what R41 says of the token: what every operation of a step keeps. -/
structure State.Steady (s : State) : Prop where
  kept : s.PlanKept
  held : s.TokenHeld

/-- R4, R42: the channel's entry is RUNNING. -/
abbrev State.plays (s : State) (p : Projector) : Prop := (s.chanOf p).state.entryState = some .running

theorem ChannelState.plays_of_holding {x : ChannelState} (h : x.holding = true) : x.entryState = some .running := by
  cases x <;> first | rfl | cases h

theorem ChannelState.plays_of_running {x : ChannelState} (h : x.running = true) : x.entryState = some .running := by
  cases x <;> first | rfl | cases h

theorem Projector.eq_other {p q : Projector} (h : q ≠ p) : q = p.other := by
  cases p <;> cases q <;> first | rfl | exact absurd rfl h

namespace State

variable {s t : State} {p : Projector}

theorem Steady.of_laws (booth : s.boothLaw) (plan : s.planLaw) : s.Steady := by
  obtain ⟨⟨token, -⟩, -⟩ := booth
  exact ⟨(planLaw_iff s).mp plan, fun p hp => (token p (by cases p <;> simp)).mp hp⟩

theorem Steady.planLaw (h : s.Steady) : s.planLaw := (planLaw_iff s).mpr h.kept

/-- R41: the holder's entry is RUNNING. -/
theorem Steady.plays_of_token (h : s.Steady) (token : s.token = some p) : s.plays p :=
  ChannelState.plays_of_holding (h.held p token)

/-- R41: a channel neither ON_SCREEN nor DARK does not hold the token. -/
theorem Steady.token_ne (h : s.Steady) (away : (s.chanOf p).state.holding = false) : s.token ≠ some p := by
  intro token
  rw [h.held p token] at away
  cases away

/-! ### Changes elsewhere -/

theorem PlanKept.of_view (h : s.PlanKept) (entries : t.plan.entries = s.plan.entries)
    (link : ∀ p, (t.chanOf p).entry = (s.chanOf p).entry)
    (state : ∀ p, (t.chanOf p).state.entryState = (s.chanOf p).state.entryState) : t.PlanKept := by
  refine ⟨fun p => ?_, entries ▸ h.fit⟩
  rw [entries, link]
  exact (h.laced p).congr (state p)

/-- The blocks that the law is about. -/
abbrev planBlocks : List Block := [.plan, .chan .a, .chan .b, .token]

/-- What changes other blocks keeps the law. -/
theorem Steady.of_changes {blocks : List Block} (h : s.Steady) (k : changesOnly blocks s t)
    (away : ∀ b ∈ planBlocks, b ∉ blocks) : t.Steady := by
  have plan : t.plan = s.plan := k .plan (away _ (by simp))
  have chan (p : Projector) : t.chanOf p = s.chanOf p := k (.chan p) (away _ (by cases p <;> simp))
  have token : t.token = s.token := (k .token (away _ (by simp))).1
  refine ⟨h.kept.of_view (by rw [plan]) (fun p => by rw [chan]) fun p => by rw [chan], fun p hp => ?_⟩
  rw [chan]
  exact h.held p (token ▸ hp)

theorem Steady.notify (h : s.Steady) (kind : NoticeKind) (subject : Byte) (data : List Byte) :
    (s.notify kind subject data).Steady := h.of_changes (notify_changes _ _ _ _) (by decide)

theorem Steady.setProg (h : s.Steady) (x : Progress) : (s.setProg x).Steady :=
  h.of_changes (setProg_changes _ _) (by decide)

theorem Steady.setMotion (h : s.Steady) (m : Motion) : (s.setMotion p m).Steady :=
  h.of_changes (setMotion_changes _ _ _) (by simp)

theorem Steady.setArc (h : s.Steady) (x : Arc) : (s.setArc p x).Steady :=
  h.of_changes (setArc_changes _ _ _) (by simp)

theorem Steady.setLink (h : s.Steady) (l : Connector) (k : Link) : (s.setLink l k).Steady :=
  h.of_changes (setLink_changes _ _ _) (by simp)

theorem Steady.setHeat (h : s.Steady) (m : HeatMonitor) : (s.setHeat p m).Steady :=
  h.of_changes (setHeat_changes _ _ _) (by simp)

theorem Steady.setFire (h : s.Steady) (x : FireRec) : (s.setFire x).Steady :=
  h.of_changes (setFire_changes _ _) (by decide)

theorem Steady.setLights (h : s.Steady) (x : Lighting) : (s.setLights x).Steady :=
  h.of_changes (setLights_changes _ _) (by decide)

theorem Steady.setBus (h : s.Steady) (x : Bus) : (s.setBus x).Steady :=
  h.of_changes (setBus_changes _ _) (by decide)

theorem Steady.setPar (h : s.Steady) (x : Params) : (s.setPar x).Steady :=
  h.of_changes (setPar_changes _ _) (by decide)

theorem Steady.setInputs (h : s.Steady) (x : Inputs) : (s.setInputs x).Steady :=
  h.of_changes (setInputs_changes _ _) (by decide)

theorem Steady.passTo (h : s.Steady) (n : Nat) : (s.passTo n).Steady :=
  h.of_changes (passTo_changes _ _) (by decide)

theorem Steady.passToDue (h : s.Steady) (due : Option Nat) : (s.passToDue due).Steady :=
  h.of_changes (passToDue_changes _ _) (by decide)

theorem Steady.applyAction (h : s.Steady) (x : Option LightAction) (source : FadeSource) :
    (s.applyAction x source).Steady := h.of_changes (applyAction_changes _ _ _) (by decide)

theorem Steady.pictureLost (h : s.Steady) : s.pictureLost.Steady := h.of_changes (pictureLost_changes _) (by decide)

theorem Steady.pictureRegained (h : s.Steady) : s.pictureRegained.Steady :=
  h.of_changes (pictureRegained_changes _) (by decide)

theorem Steady.showPictureEnd (h : s.Steady) (i : Nat) (brk : BreakAfter) : (s.showPictureEnd i brk).Steady :=
  h.of_changes (showPictureEnd_changes _ _ _) (by decide)

theorem Steady.promoteProj (h : s.Steady) (point : TakeEffect) : (s.promoteProj p point).Steady :=
  h.of_changes (promoteProj_changes _ _ _) (by decide)

theorem Steady.finish (h : s.Steady) : s.finish.Steady := h.of_changes (finish_changes _) (by decide)

/-! ### A channel that moves by itself -/

/-- A channel's record changes, its link and the state of its entry staying as they are. -/
theorem PlanKept.setChan (h : s.PlanKept) {c : Channel} (link : c.entry = (s.chanOf p).entry)
    (state : c.state.entryState = (s.chanOf p).state.entryState) : (s.setChan p c).PlanKept := by
  refine h.of_view rfl (fun q => ?_) fun q => ?_
  all_goals
    rw [chanOf_setChan]
    split
    · next hq => simp only [hq, link, state]
    · rfl

theorem Steady.setChan (h : s.Steady) {c : Channel} (state : c.state.entryState = (s.chanOf p).state.entryState)
    (token : s.token = some p → c.state.holding = true) (link : c.entry = (s.chanOf p).entry := by rfl) :
    (s.setChan p c).Steady := by
  refine ⟨h.kept.setChan link state, fun q hq => ?_⟩
  rw [chanOf_setChan]
  split
  · next hqp => exact token (hqp ▸ hq)
  · exact h.held q hq

/-- A channel's record changes, its state and link staying as they are. -/
theorem Steady.setChan_same (h : s.Steady) {c : Channel} (state : c.state = (s.chanOf p).state := by rfl)
    (link : c.entry = (s.chanOf p).entry := by rfl) : (s.setChan p c).Steady :=
  h.setChan (by rw [state]) (fun token => state ▸ h.held p token) link

theorem PlanKept.setToken_none (h : s.PlanKept) : (s.setToken none).Steady :=
  ⟨h.of_view rfl (fun _ => rfl) fun _ => rfl, fun _ hp => (by cases hp)⟩

/-- R41, R42: a channel takes the screen. -/
theorem PlanKept.takeScreen (h : s.PlanKept) (plays : s.plays p) : (s.takeScreen p).Steady := by
  have kept : (s.setChan p { s.chanOf p with state := .onScreen, douser := true }).PlanKept :=
    h.setChan rfl plays.symm
  refine ⟨kept.of_view rfl (fun _ => rfl) fun _ => rfl, fun q hq => ?_⟩
  cases hq
  change ((s.setChan p _).chanOf p).state.holding = true
  rw [chanOf_setChan_self]
  rfl

theorem PlanKept.leaveScreen (h : s.PlanKept) (plays : s.plays p) (deferred : Bool) :
    (s.leaveScreen p deferred).PlanKept := h.setChan rfl plays.symm

theorem plays_leaveScreen {q : Projector} (plays : s.plays q) (deferred : Bool) :
    (s.leaveScreen p deferred).plays q := by
  unfold State.plays State.leaveScreen
  rw [modChan_eq, chanOf_setChan]
  split
  · rfl
  · exact plays

/-! ### A channel that moves with its entry -/

theorem getElem?_modify_away (entries : List Entry) (f : Entry → Entry) {i : Nat} (j : Nat) (hj : j ≠ i) :
    (entries.modify i f)[j]? = entries[j]? := List.getElem?_modify_ne f entries hj.symm

/-- An entry and the channel p that goes with it change together, the channel not being the token holder. -/
theorem Steady.together {i : Nat} {e : Entry} {f : Entry → Entry} (h : s.Steady)
    (other : t.chanOf p.other = s.chanOf p.other) (token : t.token = s.token) (away : s.token ≠ some p)
    (entries : t.plan.entries = s.plan.entries.modify i f) (at_i : s.plan.entries[i]? = some e)
    (own : e.projector = p) (written : (f e).asWritten = e.asWritten)
    (laced : Laced t.plan.entries p (t.chanOf p).state (t.chanOf p).entry) : t.Steady := by
  have projector : (f e).projector = p := (congrArg Entry.projector written).trans own
  have fit : PlanFit t.plan.entries := entries ▸ h.kept.fit.modify fun e' at_i' => by
    cases at_i.symm.trans at_i'
    exact written
  have foreign : Laced t.plan.entries p.other (s.chanOf p.other).state (s.chanOf p.other).entry := by
    rw [entries]
    have old := h.kept.laced p.other
    refine old.replace (getElem?_modify_away _ _) (old.ne_of_foreign at_i (by simp [own])) fun e' at_i' own' => ?_
    rw [List.getElem?_modify_eq, at_i] at at_i'
    cases at_i'
    exact absurd (own'.symm.trans projector) (Projector.other_ne p)
  refine ⟨⟨fun q => ?_, fit⟩, fun q hq => ?_⟩
  · by_cases hp : q = p
    · exact hp ▸ laced
    · rw [Projector.eq_other hp, other]
      exact foreign
  · have hp : q ≠ p := fun hp => away (hp ▸ token ▸ hq)
    rw [Projector.eq_other hp, other]
    exact Projector.eq_other hp ▸ h.held q (token ▸ hq)

/-- The entries after `setLinkedState` on a linked channel. -/
theorem setLinkedState_eq {i : Nat} (link : (s.chanOf p).entry = some i) (x : EntryState) :
    s.setLinkedState p x = s.setEntryState i x := by
  unfold setLinkedState
  rw [link]

/-- R46 to R51: a linked channel and its entry come to states that go together. -/
theorem Steady.restate (h : s.Steady) {x : EntryState} {c : Channel} (linked : (s.chanOf p).state.entryState ≠ none)
    (away : s.token ≠ some p) (link : c.entry = (s.chanOf p).entry) (state : c.state.entryState = some x) :
    ((s.setLinkedState p x).setChan p c).Steady := by
  have old := h.kept.laced p
  obtain ⟨i, hi⟩ := old.linked linked
  obtain ⟨e, at_i, own, was⟩ := old.names i hi
  have prepared (y : EntryState) (hy : y.prepared = true) : y ≠ .skipped := by
    rintro rfl
    cases hy
  have at_i' : (s.plan.entries.modify i fun e => { e with state := x })[i]? = some { e with state := x } := by
    rw [List.getElem?_modify_eq, at_i]
    rfl
  rw [setLinkedState_eq hi]
  refine h.together (chanOf_setChan_other _ _ _) rfl away rfl at_i own ?_ ?_
  · exact Entry.asWritten_eq (prepared _ (ChannelState.prepared_entryState was))
      (prepared _ (ChannelState.prepared_entryState state))
  · rw [chanOf_setChan_self, link, hi]
    exact old.settle (getElem?_modify_away _ _) (.inr hi) at_i' own state

/-- R46, R72, R73: a linked channel returns to IDLE, and its entry to a state without a channel. -/
theorem Steady.unlink (h : s.Steady) {i : Nat} {c : Channel} {f : Entry → Entry}
    (hi : (s.chanOf p).entry = some i) (away : s.token ≠ some p) (token : t.token = s.token)
    (other : t.chanOf p.other = s.chanOf p.other) (entries : t.plan.entries = s.plan.entries.modify i f)
    (chan : t.chanOf p = c) (idle : c.state = .idle) (none : c.entry = none)
    (free : ∀ e, (f e).state.prepared = false)
    (written : ∀ e, e.state.prepared = true → (f e).asWritten = e.asWritten) : t.Steady := by
  have old := h.kept.laced p
  obtain ⟨e, at_i, own, was⟩ := old.names i hi
  refine h.together other token away entries at_i own (written e (ChannelState.prepared_entryState was)) ?_
  rw [chan, idle, none, entries]
  refine (hi ▸ old).release (getElem?_modify_away _ _) fun e' at_i' _ => ?_
  rw [List.getElem?_modify_eq, at_i] at at_i'
  cases at_i'
  exact free e

end State

end Sys2Proof.Machine
end

section
/-! PROOF. The changeover, the exhaustion test and the ends of reels keep the plan law (R41 to R73, R161, R162). -/

namespace Sys2Proof.Machine.State

variable {s t : State} {p q : Projector}

/-! ### The end of the plan (R161, R162) -/

theorem rolled_prepared {e : Entry} (h : e.state.prepared = true) : e.rolled = e := by
  unfold Entry.rolled
  split
  · next done =>
    rw [done] at h
    cases h
  · rfl

theorem rolled_unprepared {e : Entry} (h : e.state.prepared = false) : e.rolled.state.prepared = false := by
  unfold Entry.rolled
  split
  · rfl
  · exact h

theorem asWritten_rolled (e : Entry) : e.rolled.asWritten = e.asWritten := by
  unfold Entry.rolled
  split
  · next done => exact Entry.asWritten_eq (by simp [done]) (by simp)
  · rfl

/-- R162: the DONE entries brought back. -/
theorem PlanKept.rolled (h : s.PlanKept) (entries : t.plan.entries = s.plan.entries.map Entry.rolled)
    (chan : ∀ p, t.chanOf p = s.chanOf p) : t.PlanKept := by
  refine ⟨fun p => ?_, entries ▸ h.fit.map fun e _ => asWritten_rolled e⟩
  rw [entries, chan]
  exact (h.laced p).map (fun _ => rolled_prepared) fun _ => rolled_unprepared

/-- R161, R162: the exhaustion test. -/
theorem Steady.testExhausted (h : s.Steady) (atReelDone : Bool) : (s.testExhausted atReelDone).Steady := by
  have changes := testExhausted_changes s atReelDone
  have chan (p : Projector) : (s.testExhausted atReelDone).chanOf p = s.chanOf p :=
    changes (.chan p) (by simp)
  have token : (s.testExhausted atReelDone).token = s.token := (changes .token (by simp)).1
  refine ⟨?_, fun p hp => ?_⟩
  · rcases testExhausted_entries s atReelDone with same | rolled
    · exact h.kept.of_view same (fun p => by rw [chan]) fun p => by rw [chan]
    · exact h.kept.rolled rolled chan
  · rw [chan]
    exact h.held p (token ▸ hp)

/-! ### Halts and motor starts (R49 to R51, R69, R70) -/

theorem Steady.stopMotor (h : s.Steady) : (s.stopMotor p).Steady :=
  Steady.setMotion h.setChan_same _

theorem Steady.haltNotice (h : s.Steady) (cause : HaltCause) (before : State) :
    (s.haltNotice p cause before).Steady := h.of_changes (haltNotice_changes _ _ _ _) (by decide)

/-- R69: the channel's own part of a halt, and the token where it held it. -/
theorem Steady.toHalted (h : s.Steady) (plays : s.plays p) :
    (if decide (s.token = some p) then (s.toHalted p).setToken none else s.toHalted p).Steady := by
  have stopped : (s.stopMotor p).plays p := by
    change ((s.setChan p _).chanOf p).state.entryState = _
    rw [chanOf_setChan_self]
    exact plays
  by_cases token : s.token = some p
  · rw [decide_eq_true token, if_pos rfl]
    exact PlanKept.setToken_none ((h.stopMotor (p := p)).kept.setChan rfl stopped.symm)
  · rw [decide_eq_false token, if_neg Bool.false_ne_true]
    exact (h.stopMotor (p := p)).setChan stopped.symm fun held => absurd held token

theorem Steady.halt (h : s.Steady) (cause : HaltCause) : (s.halt p cause).Steady := by
  unfold State.halt
  split
  · next running =>
    have halted := (h.toHalted (ChannelState.plays_of_running running)).haltNotice (p := p) cause s
    dsimp only
    split
    · exact halted.pictureLost
    · exact halted
  · exact h

/-- R50, R70, R72: a linked channel that does not hold the token returns to THREADED. -/
theorem Steady.disarmChannel (h : s.Steady) (linked : (s.chanOf p).state.entryState ≠ none)
    (away : (s.chanOf p).state.holding = false) : (s.disarmChannel p).Steady := by
  have same : (s.setLinkedState p .threaded).chanOf p = s.chanOf p := setLinkedState_changes s p _ (.chan p) (by simp)
  exact h.restate linked (h.token_ne away) (by rw [same]) rfl

theorem Steady.makeSafe (h : s.Steady) (cause : HaltCause) : (s.makeSafe p cause).Steady := by
  unfold State.makeSafe
  split
  · next armed => exact h.disarmChannel (by simp [armed, ChannelState.entryState]) (by rw [armed]; rfl)
  · exact h.halt cause

/-- R51: a motor start of an ARMED channel. -/
theorem Steady.motorRuns (h : s.Steady) (armed : (s.chanOf p).state = .armed) : (s.motorRuns p).Steady := by
  have promoted := h.promoteProj (p := p) .nextStart
  have same : ((s.promoteProj p .nextStart).setLinkedState p .running).chanOf p = s.chanOf p :=
    setLinkedState_changes _ p _ (.chan p) (by simp)
  refine Steady.setMotion (promoted.restate ?_ ?_ ?_ rfl) _
  · change (s.chanOf p).state.entryState ≠ none
    simp [armed, ChannelState.entryState]
  · exact h.token_ne (by rw [armed]; rfl)
  · rw [same]
    rfl

theorem Steady.filmAtStart (h : s.Steady) : (s.filmAtStart p).Steady := by
  unfold State.filmAtStart
  split
  · exact h
  · exact h.halt _

theorem Steady.startMotor (h : s.Steady) (armed : (s.chanOf p).state = .armed) : (s.startMotor p).Steady :=
  (h.motorRuns armed).filmAtStart

theorem Steady.lateStart (h : s.Steady) : (s.lateStart p).Steady := by
  unfold State.lateStart
  split
  · next due =>
    simp only [Bool.and_eq_true, decide_eq_true_eq] at due
    exact h.startMotor due.1.1
  · exact h

/-! ### The picture (R58 to R68) -/

theorem Steady.positionTo (h : s.Steady) : (s.positionTo p).Steady := h.setProg _

theorem Steady.applyStart (h : s.Steady) : (s.applyStart p).Steady := h.applyAction _ _

theorem Steady.swapNotice (h : s.Steady) (kind : SwapKind) (before : State) :
    (s.swapNotice p q kind before).Steady := by
  cases kind <;> exact h.notify _ _ _

/-- R60: a swap from a channel whose reel runs to another. -/
theorem Steady.swap (h : s.Steady) (out : s.plays p) (inc : s.plays q) (kind : SwapKind) :
    (s.swap p q kind).Steady := by
  have swapped := ((((h.kept.leaveScreen out false).takeScreen (plays_leaveScreen inc false)).positionTo
    (p := q)).swapNotice (p := p) (q := q) kind s).applyStart (p := q)
  unfold State.swap
  dsimp only
  split
  · exact swapped.pictureRegained
  · exact swapped

/-- R68: open on ready. -/
theorem Steady.openScreen (h : s.Steady) (plays : s.plays p) : (s.openScreen p).Steady :=
  Steady.lateStart ((h.kept.takeScreen plays).setChan_same)

/-- R66: a recovery. -/
theorem Steady.recover (h : s.Steady) (plays : s.plays p) : (s.recover p).Steady :=
  (((h.kept.takeScreen plays).positionTo.notify _ _ _).pictureRegained).lateStart

theorem Steady.becomesReady (h : s.Steady) (plays : s.plays p) : (s.becomesReady p).Steady := by
  unfold State.becomesReady
  split
  · next token =>
    split
    · exact h.swap (h.plays_of_token token) plays _
    · exact h
  · split
    · exact h.openScreen plays
    · split
      · exact h.recover plays
      · exact h

/-- R52: the speed is reached. -/
theorem Steady.speedReached (h : s.Steady) : (s.speedReached p).Steady := by
  unfold State.speedReached
  split
  · next starting =>
    have ready (c : Channel) (link : c.entry = (s.chanOf p).entry) (state : c.state = .ready) :
        (s.setChan p c).Steady :=
      h.setChan (by rw [starting, state]; rfl) (fun token => absurd token (h.token_ne (by rw [starting]; rfl))) link
    have noticed := (ready { s.chanOf p with state := .ready, runup := .none, runupDue := none } rfl rfl).notify
      .atSpeed p.code (half (s.motionOf p).speed10 ++ [byte (s.tenthsSinceStart p)])
    dsimp only
    split
    · refine noticed.becomesReady ?_
      change ((s.setChan p _).chanOf p).state.entryState = _
      rw [chanOf_setChan_self]
      rfl
    · exact noticed
  · exact h

theorem Steady.goDark (h : s.Steady) (plays : s.plays p) : (s.goDark p).Steady :=
  Steady.pictureLost (h.setChan plays.symm fun _ => rfl)

theorem Steady.leaveDark (h : s.Steady) (plays : s.plays p) : (s.leaveDark p).Steady :=
  Steady.pictureRegained (Steady.notify
    (h.setChan (c := { s.chanOf p with state := .onScreen, douser := true }) plays.symm fun _ => rfl) _ _ _)

/-- R43, R64, R65: a report that a picture condition has changed. -/
theorem Steady.conditionsReported (h : s.Steady) : (s.conditionsReported p).Steady := by
  unfold State.conditionsReported
  dsimp only
  split
  · next state => split <;> [exact h; exact h.goDark (by rw [State.plays, state]; rfl)]
  · next state => split <;> [exact h.leaveDark (by rw [State.plays, state]; rfl); exact h]
  · next state => split <;> [exact h.becomesReady (by rw [State.plays, state]; rfl); exact h]
  all_goals exact h

/-! ### Cues (R53 to R59, R62) -/

theorem Steady.pictureEnd (h : s.Steady) (plays : s.plays p) : (s.pictureEnd p).Steady := by
  have left := (h.kept.leaveScreen plays (s.chanOf p).deferred).setToken_none
  unfold State.pictureEnd
  dsimp only
  split
  · exact left.showPictureEnd _ _
  · exact left

theorem Steady.runOut (h : s.Steady) (plays : s.plays p) : (s.runOut p).Steady :=
  ((h.kept.leaveScreen plays true).setToken_none.notify _ _ _).pictureLost

theorem Steady.reelEnds (h : s.Steady) (plays : s.plays p) : (s.reelEnds p).Steady := by
  unfold State.reelEnds
  split
  · exact h.pictureEnd plays
  · exact h.runOut plays

theorem Steady.noIncoming (h : s.Steady) : (s.noIncoming p).Steady := h.notify _ _ _

theorem Steady.takeMotorCue (h : s.Steady) (cause : CueCause) : (s.takeMotorCue p cause).Steady := by
  have taken (kind : NoticeKind) (data : List Byte) :
      ((s.setChan p { s.chanOf p with motorCueTaken := true }).notify kind p.code data).Steady :=
    Steady.notify h.setChan_same _ _ _
  unfold State.takeMotorCue
  dsimp only
  split
  · exact taken _ _
  · split
    · split
      · next armed => exact (taken _ _).startMotor armed
      · exact taken _ _
      · exact taken _ _
      all_goals exact (taken _ _).noIncoming
    · exact (taken _ _).noIncoming

theorem Steady.defer (h : s.Steady) : (s.defer p).Steady := by
  have deferred : (s.setChan p { s.chanOf p with deferred := true }).Steady := h.setChan_same
  unfold State.defer
  dsimp only
  split
  · split
    · next armed => exact deferred.startMotor armed
    · exact deferred
  · exact deferred

theorem plays_of_readyForPicture (h : s.readyForPicture p = true) : s.plays p := by
  simp only [readyForPicture, Bool.and_eq_true, decide_eq_true_eq] at h
  rw [State.plays, h.1]
  rfl

/-- R58, R59: the changeover point of a channel whose reel runs. -/
theorem Steady.takeChange (h : s.Steady) (plays : s.plays p) (cause : CueCause) : (s.takeChange p cause).Steady := by
  have taken (kind : NoticeKind) (data : List Byte) :
      ((s.setChan p { s.chanOf p with changeTaken := true }).notify kind p.code data).Steady :=
    Steady.notify h.setChan_same _ _ _
  have playing (kind : NoticeKind) (data : List Byte) :
      ((s.setChan p { s.chanOf p with changeTaken := true }).notify kind p.code data).plays p := by
    change ((s.setChan p _).chanOf p).state.entryState = _
    rw [chanOf_setChan_self]
    exact plays
  unfold State.takeChange
  dsimp only
  split
  · exact (taken _ _).pictureEnd (playing _ _)
  · split
    · split
      · next ready => exact (taken _ _).swap (playing _ _) (plays_of_readyForPicture ready) _
      · exact (taken _ _).defer
    · exact (taken _ _).defer

theorem Steady.strayFoil (h : s.Steady) : (s.strayFoil p).Steady := h.notify _ _ _

/-- R53 to R56: a foil event of a channel whose reel runs. -/
theorem Steady.foilEvent (h : s.Steady) (plays : s.plays p) : (s.foilEvent p).Steady := by
  have counted : (s.setChan p { s.chanOf p with foilCount := min ((s.chanOf p).foilCount + 1) 255 }).Steady :=
    h.setChan_same
  have playing : (s.setChan p { s.chanOf p with foilCount := min ((s.chanOf p).foilCount + 1) 255 }).plays p := by
    rw [State.plays, chanOf_setChan_self]
    exact plays
  unfold State.foilEvent
  dsimp only
  split
  · exact counted
  · split
    · exact counted
    · split <;> [skip; split]
      · exact counted.takeMotorCue _
      · exact counted.takeChange playing _
      · exact counted.strayFoil
    · split <;> [skip; split]
      · exact counted.takeMotorCue _
      · exact counted.takeChange playing _
      · exact counted.strayFoil

/-- R53 to R56, R59, R62: a footage point of a channel whose reel runs. -/
theorem Steady.footagePoint (h : s.Steady) (plays : s.plays p) (x : FootagePoint) : (s.footagePoint p x).Steady := by
  have missing (which : Byte) : (s.foilMissing p which).Steady := h.notify _ _ _
  unfold State.footagePoint
  dsimp only
  split
  · exact h
  · cases x <;> dsimp only
    · split <;> [exact h.takeMotorCue _; exact h]
    · split <;> [exact (missing 0).takeMotorCue _; exact h]
    · split <;> [exact h.takeChange plays _; exact h]
    · split <;> [exact (missing 1).takeChange plays _; exact h]
    · exact h.reelEnds plays
    · exact h

/-! ### The end of a reel (R72, R73) -/

/-- R72, R73: the reel of a channel that does not hold the token is finished. -/
theorem Steady.finishReel (h : s.Steady) (plays : s.plays p) (away : s.token ≠ some p) : (s.finishReel p).Steady := by
  obtain ⟨i, hi⟩ := (h.kept.laced p).linked (x := (s.chanOf p).state) (by rw [plays]; simp)
  unfold State.finishReel
  simp only [hi]
  refine Steady.testExhausted (Steady.of_changes (blocks := everyLink ++ [.prog]) ?_
    (((notify_changes _ _ _ _).mono (by simp)).andThen (setProg_changes _ _) (by simp)) (by decide)) _
  refine h.unlink hi away rfl (chanOf_setChan_other _ _ _) rfl (chanOf_setChan_self _ _ _) rfl rfl (fun _ => rfl)
    fun e prepared => Entry.asWritten_eq ?_ (by simp)
  intro skipped
  rw [skipped] at prepared
  cases prepared

theorem Steady.reelDone (h : s.Steady) : (s.reelDone p).Steady := by
  unfold State.reelDone
  split
  · next tail =>
    have same : ((s.stopMotor p).chanOf p).state = .tail := by
      change ((s.setChan p _).chanOf p).state = .tail
      rw [chanOf_setChan_self]
      exact tail
    have stopped := h.stopMotor (p := p)
    exact stopped.finishReel (by rw [State.plays, same]; rfl) (stopped.token_ne (by rw [same]; rfl))
  · exact h

end Sys2Proof.Machine.State
end

section
/-! PROOF. The plan edits keep the plan law (R9 to R16). -/

namespace Sys2Proof.Machine

theorem ChannelState.threaded_of_unstarted {x : ChannelState} {y : EntryState} (h : x.entryState = some y)
    (unstarted : y ≠ .armed ∧ y ≠ .running) : x = .threaded := by
  cases x <;> cases h <;> simp at unstarted ⊢

theorem ChannelState.idle_of_unprepared {x : ChannelState} (resting : x.entryState ≠ some .running)
    (unprepared : ¬(x = .threaded ∨ x = .armed)) : x = .idle := by
  cases x <;> first | rfl | exact absurd rfl resting | simp at unprepared

namespace State

variable {s t : State} {p q : Projector} {i : Nat} {e v : Entry}

/-! ### An entry written or skipped, and its channel released (R10, R13, R14) -/

/-- R5: at most one channel is linked to an entry, the entry's own projector's. -/
theorem PlanKept.linkedTo_of_entry (h : s.PlanKept) (hp : (s.chanOf p).entry = some i) : s.linkedTo i = some p := by
  obtain ⟨e, at_i, own, -⟩ := (h.laced p).names i hp
  cases p with
  | a => rw [linkedTo, if_pos hp]
  | b =>
    have other : (s.chanOf .a).entry ≠ some i := (h.laced .a).ne_of_foreign at_i (by simp [own])
    rw [linkedTo, if_neg other, if_pos hp]

/-- R14: with the channel of an entry whose reel is not started released, an entry without a channel may stand in its
place. -/
theorem PlanKept.laced_release (h : s.PlanKept) (at_i : s.plan.entries[i]? = some e)
    (unstarted : e.state ≠ .armed ∧ e.state ≠ .running) (free : v.state.prepared = false) (p : Projector) :
    Laced (s.plan.entries.set i v) p ((s.releaseChannel i).chanOf p).state ((s.releaseChannel i).chanOf p).entry := by
  have agree (j : Nat) (hj : j ≠ i) : (s.plan.entries.set i v)[j]? = s.plan.entries[j]? :=
    List.getElem?_set_ne hj.symm
  have placed (e' : Entry) (he : (s.plan.entries.set i v)[i]? = some e') (_ : e'.projector = p) :
      e'.state.prepared = false := by
    rw [List.getElem?_set_self (List.getElem?_eq_some_iff.mp at_i).1] at he
    cases he
    exact free
  rw [chanOf_releaseChannel]
  by_cases hp : (s.chanOf p).entry = some i
  · obtain ⟨e', at_i', -, state⟩ := (h.laced p).names i hp
    cases at_i.symm.trans at_i'
    rw [if_pos ⟨h.linkedTo_of_entry hp, ChannelState.threaded_of_unstarted state unstarted⟩]
    exact (hp ▸ h.laced p).release agree placed
  · rw [if_neg fun both => hp (linkedTo_entry both.1)]
    exact (h.laced p).replace agree hp placed

/-- R14: a released channel was THREADED, so it did not hold the token. -/
theorem TokenHeld.releaseChannel (h : s.TokenHeld) (i : Nat) : (s.releaseChannel i).TokenHeld := by
  intro p hp
  have token : (s.releaseChannel i).token = s.token := (releaseChannel_changes s i .token (by simp)).1
  have holding := h p (token ▸ hp)
  rw [chanOf_releaseChannel]
  split
  · next both =>
    rw [both.2] at holding
    cases holding
  · exact holding

/-- R10, R13: an entry replaced by one without a channel. -/
theorem Steady.replaced (h : s.Steady) (at_i : s.plan.entries[i]? = some e)
    (unstarted : e.state ≠ .armed ∧ e.state ≠ .running) (free : v.state.prepared = false) (range : v.inRange = true)
    (fits : alternates (s.plan.entries.set i v) = true) :
    ((s.releaseChannel i).setEntries (s.plan.entries.set i v)).Steady := by
  refine ⟨⟨h.kept.laced_release at_i unstarted free, by simpa using h.kept.fit.size, fits, fun e' he => ?_⟩,
    h.held.releaseChannel i⟩
  rcases List.mem_or_eq_of_mem_set he with old | rfl
  · exact h.kept.fit.ranges e' old
  · exact range

theorem not_writeLocked {current : ShowState} (free : writeLocked current e = false) :
    e.state ≠ .armed ∧ e.state ≠ .running := by
  constructor <;> intro hs <;> rw [(writeLocked_iff current e).mpr (by simp [hs])] at free <;> cases free

theorem written_unprepared (x : EntryForm) (e : Entry) : (written x e).val.state.prepared = false := by
  rw [written, takeEntry_state]
  split <;> rfl

/-- R10: PLAN_WRITE. -/
theorem Steady.planWrite (h : s.Steady) (i : Nat) (x : EntryForm) : (planWriteAnswer i x s).state.Steady := by
  cases at_i : s.entryAt i with
  | none =>
    rw [planWriteAnswer_noEntry at_i]
    exact h
  | some e =>
    cases locked : writeLocked s.prog.state e with
    | true =>
      rw [planWriteAnswer_locked at_i locked]
      exact h
    | false =>
      cases fits : alternates (s.plan.entries.set i (written x e).val) with
      | false =>
        rw [planWriteAnswer_conflict at_i locked fits]
        exact h
      | true =>
        rw [planWriteAnswer_written at_i locked fits]
        exact (h.replaced at_i (not_writeLocked locked) (written_unprepared x e) (takeEntry_inRange ..)
          fits).testExhausted _

/-- R13: PLAN_SKIP. -/
theorem Steady.planSkip (h : s.Steady) (i : Nat) : (planSkipAnswer i s).state.Steady := by
  cases at_i : s.entryAt i with
  | none =>
    rw [planSkipAnswer_noEntry at_i]
    exact h
  | some e =>
    have made (free : e.state = .pending ∨ e.state = .threaded) : (planSkipAnswer i s).state.Steady := by
      cases fits : alternates (s.plan.entries.set i { e with state := .skipped }) with
      | false =>
        rw [planSkipAnswer_conflict at_i free fits]
        exact h
      | true =>
        have unstarted : e.state ≠ .armed ∧ e.state ≠ .running := by rcases free with hs | hs <;> simp [hs]
        rw [planSkipAnswer_made at_i free fits]
        have range := h.kept.fit.ranges e (List.mem_of_getElem? at_i)
        exact (h.replaced (v := { e with state := .skipped }) at_i unstarted rfl range fits).testExhausted _
    cases hs : e.state with
    | pending => exact made (.inl hs)
    | threaded => exact made (.inr hs)
    | skipped =>
      rw [planSkipAnswer_skipped at_i hs]
      exact h
    | armed | running | done =>
      rw [planSkipAnswer_locked at_i (by simp [hs])]
      exact h

/-! ### An entry inserted or deleted (R11, R12, R15) -/

theorem Steady.inserted (h : s.Steady) (le : i ≤ s.plan.entries.length) (room : s.plan.entries.length < Config.planSize)
    (free : v.state.prepared = false) (range : v.inRange = true)
    (fits : alternates (s.plan.entries.insertIdx i v) = true) :
    ((s.setEntries (s.plan.entries.insertIdx i v)).relink fun j => some (afterInsert i j)).Steady := by
  refine ⟨⟨fun p => ?_, ?_, fits, fun e he => ?_⟩, fun p hp => ?_⟩
  · rw [chanOf_relink, bind_afterInsert]
    exact (h.kept.laced p).insert le free
  · rw [plan_relink, plan_setEntries, List.length_insertIdx, if_pos le]
    exact room
  · rcases (List.mem_insertIdx le).mp he with rfl | old
    · exact range
    · exact h.kept.fit.ranges e old
  · rw [chanOf_relink]
    exact h.held p hp

/-- R11: PLAN_INSERT. -/
theorem Steady.planInsert (h : s.Steady) (i : Nat) (x : EntryForm) : (planInsertAnswer i x s).state.Steady := by
  rcases Nat.lt_or_ge s.plan.entries.length i with beyond | le
  · rw [planInsertAnswer_noEntry beyond]
    exact h
  rcases Nat.lt_or_ge s.plan.entries.length Config.planSize with room | full
  · cases movable : (s.plan.entries.drop i).all (fun e => e.state.movable) with
    | false =>
      rw [planInsertAnswer_locked le room movable]
      exact h
    | true =>
      cases fits : alternates (s.plan.entries.insertIdx i (State.inserted x).val) with
      | false =>
        rw [planInsertAnswer_conflict le room movable fits]
        exact h
      | true =>
        rw [planInsertAnswer_inserted le room movable fits]
        exact h.inserted le room rfl (takeEntry_inRange ..) fits
  · rw [planInsertAnswer_tableFull le full]
    exact h

theorem Steady.deleted (h : s.Steady) (at_i : s.plan.entries[i]? = some e)
    (unstarted : e.state ≠ .armed ∧ e.state ≠ .running) (fits : alternates (s.plan.entries.eraseIdx i) = true) :
    (((s.releaseChannel i).setEntries (s.plan.entries.eraseIdx i)).relink (afterDelete i)).Steady := by
  have lt := (List.getElem?_eq_some_iff.mp at_i).1
  refine ⟨⟨fun p => ?_, ?_, fits, fun e' he => h.kept.fit.ranges e' (List.mem_of_mem_eraseIdx he)⟩, fun p hp => ?_⟩
  · have released := (h.kept.laced_release (v := { e with state := .pending }) at_i unstarted rfl p).erase
      (List.getElem?_set_self lt) rfl
    rw [List.eraseIdx_set_eq] at released
    rw [chanOf_relink]
    exact released
  · exact (List.length_eraseIdx_le _ _).trans h.kept.fit.size
  · rw [chanOf_relink]
    exact h.held.releaseChannel i p hp

/-- R12: PLAN_DELETE. -/
theorem Steady.planDelete (h : s.Steady) (i : Nat) : (planDeleteAnswer i s).state.Steady := by
  cases at_i : s.entryAt i with
  | none =>
    rw [planDeleteAnswer_noEntry at_i]
    exact h
  | some e =>
    by_cases locked : e.state.removable = false ∨ s.prog.position = some i
    · rw [planDeleteAnswer_locked at_i locked]
      exact h
    · obtain ⟨removable, away⟩ := not_or.mp locked
      have removable : e.state.removable = true := by simpa using removable
      have unstarted : e.state ≠ .armed ∧ e.state ≠ .running := by
        rcases (EntryState.removable_iff _).mp removable with hs | hs <;> simp [hs]
      cases fits : alternates (s.plan.entries.eraseIdx i) with
      | false =>
        rw [planDeleteAnswer_conflict at_i removable away fits]
        exact h
      | true =>
        rw [planDeleteAnswer_deleted at_i removable away fits]
        exact (h.deleted at_i unstarted fits).testExhausted _

/-! ### The restart (R16) -/

/-- R16: with no entry RUNNING, every channel is released. -/
theorem Steady.restartPlan (h : s.Steady) (stopped : ∀ e ∈ s.plan.entries, e.state ≠ .running) :
    s.restartPlan.Steady := by
  have resting (p : Projector) : (s.chanOf p).state.entryState ≠ some .running := by
    intro plays
    obtain ⟨i, hi⟩ := (h.kept.laced p).linked (by simp [plays])
    obtain ⟨e, at_i, -, state⟩ := (h.kept.laced p).names i hi
    exact stopped e (List.mem_of_getElem? at_i) (Option.some.inj (state.symm.trans plays))
  have idle (p : Projector) : (s.restartPlan.chanOf p).state = .idle ∧ (s.restartPlan.chanOf p).entry = none := by
    rw [chanOf_restartPlan]
    split
    · exact ⟨rfl, rfl⟩
    · next unreleased =>
      have state : (s.chanOf p).state = .idle := ChannelState.idle_of_unprepared (resting p) unreleased
      exact ⟨state, (h.kept.laced p).unlinked (by rw [state]; rfl)⟩
  have same : s.restartPlan.plan.entries = s.plan.entries.map
      fun e => if e.state = .skipped then e else e.renewed := by rw [plan_restartPlan]
  refine ⟨⟨fun p => ?_, ?_⟩, fun p hp => ?_⟩
  · rw [(idle p).1, (idle p).2, same]
    refine Laced.of_unprepared fun e he => ?_
    obtain ⟨x, -, rfl⟩ := List.mem_map.mp he
    split
    · next skipped => rw [skipped]; rfl
    · rfl
  · rw [same]
    refine h.kept.fit.map fun e _ => ?_
    split
    · rfl
    · next hs => exact Entry.asWritten_eq hs (by simp)
  · have token : s.restartPlan.token = s.token := (restartPlan_changes s .token (by simp)).1
    exact absurd (h.plays_of_token (token ▸ hp)) (resting p)

theorem Steady.setPlan_header (h : s.Steady) (count pass : Nat) :
    (s.setPlan { s.plan with repeatCount := count, passNumber := pass }).Steady :=
  ⟨h.kept.of_view rfl (fun _ => rfl) fun _ => rfl, h.held⟩

/-- R16: PLAN_HEADER. -/
theorem Steady.planHeader (h : s.Steady) (count : Nat) : (planHeaderAnswer count s).state.Steady := by
  by_cases restarts : s.prog.state = .ended ∧ ∀ e ∈ s.plan.entries, e.state ≠ .running
  · rw [planHeaderAnswer_restarts restarts]
    exact (h.setPlan_header count _).restartPlan restarts.2
  · rw [planHeaderAnswer_counts restarts]
    exact h.setPlan_header count _

end State

end Sys2Proof.Machine
end

section
/-! PROOF. The channel requests and START_SHOW keep the plan law (R45 to R50, R63, R67, R72, R76, R159). -/

namespace Sys2Proof.Machine.State

variable {s t : State} {p q : Projector}

/-! ### THREADED and UNTHREAD (R45, R46) -/

theorem nextFor_entry {i : Nat} (h : s.nextFor p = some i) :
    ∃ e, s.plan.entries[i]? = some e ∧ e.projector = p ∧ e.state = .pending := by
  obtain ⟨-, here, -⟩ := (nextFor_eq_some s p i).mp h
  cases at_i : s.entryAt i with
  | none =>
    rw [at_i] at here
    cases here
  | some e =>
    rw [at_i] at here
    exact ⟨e, at_i, of_decide_eq_true here⟩

/-- R45: the next reel of an IDLE channel is declared laced. -/
theorem Steady.declareThreaded (h : s.Steady) {i : Nat} (idle : (s.chanOf p).state = .idle)
    (next : s.nextFor p = some i) : (s.declareThreaded p i).Steady := by
  obtain ⟨e, at_i, own, pending⟩ := nextFor_entry next
  have old := h.kept.laced p
  have at_i' : (s.plan.entries.modify i fun e => { e with state := .threaded })[i]? =
      some { e with state := .threaded } := by
    rw [List.getElem?_modify_eq, at_i]
    rfl
  refine Steady.setArc (Steady.setMotion ?_ _) _
  refine h.together (chanOf_setChan_other _ _ _) rfl (h.token_ne (by rw [idle]; rfl)) rfl at_i own ?_ ?_
  · exact Entry.asWritten_eq (by simp [pending]) (by simp)
  rw [modChan_eq, chanOf_setChan_self]
  exact old.settle (getElem?_modify_away _ _) (.inl (old.unlinked (by rw [idle]; rfl))) at_i' own rfl

theorem Steady.threadedAnswer (h : s.Steady) (label : Byte) : (threadedAnswer label p s).state.Steady := by
  unfold Machine.threadedAnswer
  split
  · split <;> exact h
  · next idle =>
    split
    · exact h
    · next i next =>
      split
      · exact h
      · split
        · exact h
        · exact h.declareThreaded (not_not.mp idle) next

/-- R46, R72: a linked channel that does not hold the token returns to IDLE, its entry to PENDING. -/
theorem Steady.unlinkPending (h : s.Steady) (linked : (s.chanOf p).state.entryState ≠ none)
    (away : (s.chanOf p).state.holding = false) : (s.unlinkPending p).Steady := by
  obtain ⟨i, hi⟩ := (h.kept.laced p).linked linked
  unfold State.unlinkPending
  rw [setLinkedState_eq hi]
  refine h.unlink hi (h.token_ne away) rfl (chanOf_setChan_other _ _ _) rfl (chanOf_setChan_self _ _ _) rfl rfl
    (fun _ => rfl) fun e prepared => Entry.asWritten_eq ?_ (by simp)
  intro skipped
  rw [skipped] at prepared
  cases prepared

theorem Steady.unthreadAnswer (h : s.Steady) : (unthreadAnswer p s).state.Steady := by
  unfold Machine.unthreadAnswer
  split
  · next state => exact h.unlinkPending (by simp [state, ChannelState.entryState]) (by rw [state]; rfl)
  all_goals exact h

/-! ### ARM, DISARM, STOP and CLEAR (R47 to R50, R71, R72) -/

theorem Steady.armChannel (h : s.Steady) (threaded : (s.chanOf p).state = .threaded) : (s.armChannel p).Steady := by
  have same : (s.setLinkedState p .armed).chanOf p = s.chanOf p := setLinkedState_changes s p _ (.chan p) (by simp)
  refine Steady.lateStart (h.restate (by simp [threaded, ChannelState.entryState])
    (h.token_ne (by rw [threaded]; rfl)) ?_ rfl)
  rw [same]

theorem Steady.armAnswer (h : s.Steady) : (armAnswer p s).state.Steady := by
  unfold Machine.armAnswer
  split
  · next threaded => split <;> [exact h; exact h.armChannel threaded]
  all_goals exact h

theorem Steady.disarmAnswer (h : s.Steady) : (disarmAnswer p s).state.Steady := by
  unfold Machine.disarmAnswer
  split
  · next armed => exact h.disarmChannel (by simp [armed, ChannelState.entryState]) (by rw [armed]; rfl)
  all_goals exact h

theorem Steady.stopAnswer (h : s.Steady) : (stopAnswer p s).state.Steady := by
  unfold Machine.stopAnswer
  split <;> first
    | exact h.halt _
    | exact h

theorem Steady.clearChannel (h : s.Steady) (halted : (s.chanOf p).state = .halted) : (s.clearChannel p).Steady := by
  have linked : (s.chanOf p).state.entryState ≠ none := by simp [halted, ChannelState.entryState]
  have away : (s.chanOf p).state.holding = false := by rw [halted]; rfl
  unfold State.clearChannel
  split
  · exact h.finishReel (by rw [State.plays, halted]; rfl) (h.token_ne away)
  · split
    · exact (h.disarmChannel linked away).testExhausted _
    · exact (h.unlinkPending linked away).testExhausted _

theorem Steady.clearAnswer (h : s.Steady) : (clearAnswer p s).state.Steady := by
  unfold Machine.clearAnswer
  split
  · next halted => exact h.clearChannel halted
  · exact h

/-! ### START_SHOW and CHANGE_NOW (R63, R67, R159) -/

theorem Steady.openShow (h : s.Steady) (byPanel : Bool) : (s.openShow byPanel q).Steady :=
  Steady.applyStart ((h.of_changes (showStarted_changes s byPanel) (by decide)).setChan_same)

theorem state_openShow (s : State) (byPanel : Bool) (q : Projector) :
    ((s.openShow byPanel q).chanOf q).state = (s.chanOf q).state := by
  have opened : (s.openShow byPanel q).chanOf q = { (s.showStarted byPanel).chanOf q with openOnReady := true } := by
    refine (applyStart_changes _ q (.chan q) (by simp)).trans ?_
    rw [modChan_eq, chanOf_setChan_self]
  have started : (s.showStarted byPanel).chanOf q = s.chanOf q := showStarted_changes s byPanel (.chan q) (by simp)
  rw [opened, started]

/-- R67: START_SHOW taken. -/
theorem Steady.startOn (h : s.Steady) (byPanel : Bool) : (s.startOn byPanel q).Steady := by
  have opened := h.openShow (q := q) byPanel
  unfold State.startOn
  dsimp only
  split
  · next armed => exact ((opened.motorRuns ((state_openShow s byPanel q).trans armed)).positionTo).filmAtStart
  · split
    · next ready => exact opened.positionTo.openScreen (plays_of_readyForPicture ready)
    · exact opened.positionTo

theorem Steady.startShowAnswer (h : s.Steady) : (startShowAnswer s).state.Steady := by
  unfold Machine.startShowAnswer
  split
  · exact h.startOn true
  · exact h

theorem Steady.timerExpires (h : s.Steady) : s.timerExpires.Steady := by
  have stopped := h.setProg { s.prog with timer := none }
  unfold State.timerExpires
  dsimp only
  split
  · split
    · exact (stopped.notify _ _ _).startOn false
    · exact stopped.notify _ _ _
  · exact stopped.notify _ _ _

/-- R63: the holder gives the picture over to the next channel. -/
theorem Steady.changeNowAnswer (h : s.Steady) : (changeNowAnswer s).state.Steady := by
  unfold Machine.changeNowAnswer
  split
  · next holder found =>
    obtain ⟨token, ready⟩ := Option.filter_eq_some_iff.mp found
    rw [Bool.and_eq_true] at ready
    exact h.swap (h.plays_of_token token) (plays_of_readyForPicture ready.1) _
  · exact h

end Sys2Proof.Machine.State
end

section
/-! PROOF. What arcs, shutters, heat and fire report to the changeover keeps the plan law (R64 to R70, R76 to R117), and
with it every request. -/

namespace Sys2Proof.Machine.State

variable {s t : State} {p q : Projector}

/-! ### Arcs (R78 to R96) -/

theorem Steady.arcTo (h : s.Steady) (new : ArcState) (cause : ArcCause) : (s.arcTo p new cause).Steady :=
  Steady.conditionsReported (Steady.notify (h.setArc _) _ _ _)

theorem Steady.putOut (h : s.Steady) (cause : ArcCause) : (s.putOut p cause).Steady := by
  unfold State.putOut
  split
  · exact h
  · exact h.arcTo _ _

theorem Steady.exhaustArc (h : s.Steady) : (s.exhaustArc p).Steady := (h.notify _ _ _).arcTo _ _

theorem Steady.failStrike (h : s.Steady) : (s.failStrike p).Steady := (h.notify _ _ _).arcTo _ _

theorem Steady.beginStrike (h : s.Steady) : (s.beginStrike p).Steady :=
  Steady.conditionsReported (Steady.notify (h.setArc _) _ _ _)

theorem Steady.testTouch (h : s.Steady) : (s.testTouch p).Steady := by
  unfold State.testTouch
  split
  · exact h.setArc _
  · exact h

theorem Steady.endDraw (h : s.Steady) : (s.endDraw p).Steady := by
  unfold State.endDraw
  split
  · split
    · exact Steady.arcTo (h.setArc _) _ _
    · exact h.exhaustArc
  · exact h.failStrike

theorem Steady.runningCheck (h : s.Steady) : (s.runningCheck p).Steady := by
  unfold State.runningCheck
  dsimp only
  split
  · exact Steady.setArc (h.notify _ _ _) _
  · exact h

theorem Steady.countInterval (h : s.Steady) : (s.countInterval p).Steady := by
  unfold State.countInterval
  split
  · exact Steady.runningCheck (h.setArc _)
  · exact h.setArc _

theorem Steady.regulate (h : s.Steady) : (s.regulate p).Steady := by
  have fed : (s.feed p).Steady := h.setArc _
  unfold State.regulate
  dsimp only
  split
  · exact h.arcTo _ _
  · split
    · exact fed.exhaustArc
    · split
      · exact Steady.arcTo (fed.setArc _) _ _
      · exact Steady.countInterval (fed.setArc _)

theorem Steady.stubChanged (h : s.Steady) : (s.stubChanged p).Steady := by
  unfold State.stubChanged
  split
  · exact h.exhaustArc
  · exact h

theorem Steady.strikeAnswer (h : s.Steady) : (strikeAnswer p s).state.Steady := by
  unfold Machine.strikeAnswer
  split <;> [exact h; split <;> [exact h; split <;> [exact h; exact h.beginStrike]]]

theorem Steady.loadCarbon (h : s.Steady) (length : Nat) : (s.loadCarbon p length).Steady := by
  unfold State.loadCarbon
  dsimp only
  split
  · exact h.setArc _
  · exact Steady.arcTo (h.setArc _) _ _

theorem Steady.carbonLoadAnswer (h : s.Steady) (length : Nat) : (carbonLoadAnswer length p s).state.Steady := by
  unfold Machine.carbonLoadAnswer
  split <;> first
    | exact h
    | exact h.loadCarbon _

/-! ### Shutters (R99 to R106) -/

theorem Steady.shutterTo (h : s.Steady) (sh : Shutter) (new : ShutterState) (cause : ShutterCause) :
    (s.shutterTo sh new cause).Steady := by
  have moved : ((s.placeShutter sh new cause).shutterNotice sh (s.shutterOf sh).state).Steady :=
    Steady.notify (h.of_changes (setShutter_changes _ _ _) (by simp)) _ _ _
  unfold State.shutterTo
  dsimp only
  split
  · exact moved.conditionsReported
  · exact moved

theorem Steady.shutterRaiseAnswer (h : s.Steady) (sh : Shutter) : (shutterRaiseAnswer sh s).state.Steady := by
  unfold Machine.shutterRaiseAnswer
  split <;> first
    | exact h
    | (split <;> [exact h; exact h.shutterTo _ _ _])

theorem Steady.shutterDropAnswer (h : s.Steady) (sh : Shutter) : (shutterDropAnswer sh s).state.Steady := by
  unfold Machine.shutterDropAnswer
  split <;> first
    | exact h
    | exact h.shutterTo _ _ _

/-! ### Heat and fire (R107 to R117) -/

theorem Steady.fireNotice (h : s.Steady) (x : Source) (added : Byte) : (s.fireNotice x added).Steady :=
  h.notify _ _ _

theorem Steady.dropForFire (h : s.Steady) (sh : Shutter) : (s.dropForFire sh).Steady := by
  unfold State.dropForFire
  split
  · exact h.shutterTo _ _ _
  · exact h

theorem Steady.foldl_dropForFire (h : s.Steady) (shutters : List Shutter) :
    (shutters.foldl (fun t sh => t.dropForFire sh) s).Steady := by
  induction shutters generalizing s with
  | nil => exact h
  | cons sh rest ih => exact ih (h.dropForFire sh)

theorem Steady.fireEntry (h : s.Steady) (x : Source) : (s.fireEntry x).Steady :=
  Steady.putOut (Steady.putOut (Steady.foldl_dropForFire (Steady.fireNotice
    (Steady.setProg (Steady.setLights (((h.setFire _).makeSafe .fire).makeSafe .fire) _) _) x 0) _) .fire) .fire

theorem Steady.fireSource (h : s.Steady) (x : Source) : (s.fireSource x).Steady := by
  unfold State.fireSource
  split
  · split
    · exact h
    · exact (h.setFire _).fireNotice _ _
  · exact h.fireEntry x

theorem Steady.compareHeat (h : s.Steady) : (s.compareHeat p).Steady :=
  h.of_changes (compareHeat_changes s p) (by simp)

theorem Steady.stage1TimerTest (h : s.Steady) : (s.stage1TimerTest p).Steady := by
  rcases stage1TimerTest_cases s p with ⟨-, same⟩ | ⟨-, acts⟩
  · rwa [same]
  · rw [acts]
    exact Steady.makeSafe (Steady.notify (h.setHeat _) _ _ _) .heat

theorem Steady.dousedTimerTest (h : s.Steady) : (s.dousedTimerTest p).Steady := by
  rcases dousedTimerTest_cases s p with ⟨-, same⟩ | ⟨-, acts⟩
  · rwa [same]
  · rw [acts]
    exact Steady.fireSource (h.setHeat _) _

theorem Steady.fireCleared (h : s.Steady) : s.fireCleared.Steady :=
  Steady.notify (Steady.conditionsReported (Steady.conditionsReported (Steady.setProg (Steady.setLights
    (Steady.setHeat (Steady.setHeat (h.setFire _) _) _) _) _))) _ _ _

theorem Steady.fireResetAnswer (h : s.Steady) : (fireResetAnswer s).state.Steady := by
  unfold Machine.fireResetAnswer
  split <;> [exact h; split <;> [exact h; split <;> [exact h; exact h.fireCleared]]]

/-! ### Booth reset (R76) -/

theorem unprepared_free (e : Entry) : (unprepared e).state.prepared = false := by
  unfold unprepared
  split <;> first
    | rfl
    | (next hs => rw [hs]; rfl)

theorem asWritten_unprepared (e : Entry) : (unprepared e).asWritten = e.asWritten := by
  unfold unprepared
  split <;> first
    | rfl
    | (next hs => exact Entry.asWritten_eq (by simp [hs]) (by simp))

/-- R76: both channels IDLE and no entry prepared. -/
theorem PlanKept.unprepared (h : s.PlanKept) (entries : t.plan.entries = s.plan.entries.map unprepared)
    (idle : ∀ p, (t.chanOf p).state = .idle ∧ (t.chanOf p).entry = none) : t.PlanKept := by
  refine ⟨fun p => ?_, entries ▸ h.fit.map fun e _ => asWritten_unprepared e⟩
  rw [(idle p).1, (idle p).2, entries]
  refine Laced.of_unprepared fun e he => ?_
  obtain ⟨x, -, rfl⟩ := List.mem_map.mp he
  exact unprepared_free x

theorem idle_resetChannels (s : State) (p : Projector) :
    (((s.resetChannel .a).resetChannel .b).chanOf p).state = .idle ∧
      (((s.resetChannel .a).resetChannel .b).chanOf p).entry = none := by
  cases p <;> exact ⟨rfl, rfl⟩

theorem Steady.boothReset (h : s.Steady) : s.boothReset.Steady := by
  have idle := idle_resetChannels s
  refine Steady.testExhausted (Steady.setProg (Steady.putOut (Steady.putOut ⟨?_, ?_⟩ .boothReset) .boothReset) _) false
  · exact h.kept.unprepared rfl idle
  · intro p hp
    cases hp

theorem Steady.boothResetAnswer (h : s.Steady) : (boothResetAnswer s).state.Steady := by
  unfold Machine.boothResetAnswer
  split <;> [exact h; exact h.boothReset]

/-! ### Parameters and the other requests -/

theorem Steady.paramActs (h : s.Steady) (x : ParamRef) : (s.paramActs x).Steady := by
  unfold State.paramActs
  split
  · exact h.testTouch
  · exact h.stubChanged
  · exact h.compareHeat
  · exact h.stage1TimerTest.stage1TimerTest
  · exact h.dousedTimerTest.dousedTimerTest
  all_goals exact h

theorem Steady.limitRaised (h : s.Steady) (x : ParamRef) : (s.limitRaised x).1.Steady := by
  unfold State.limitRaised
  split
  · exact h.setPar _
  · exact h

theorem Steady.paramWriteAnswer (h : s.Steady) (value : Half) (x : Option ParamRef) :
    (paramWriteAnswer value x s).state.Steady := by
  cases x with
  | none => exact h
  | some q => exact Steady.paramActs (Steady.limitRaised (h.setPar _) q) q

theorem Steady.identAnswer (h : s.Steady) (l : Connector) (role : Byte) : (identAnswer l role s).state.Steady := by
  unfold Machine.identAnswer
  split
  · exact h
  · split <;> [exact h; split <;> [exact h; exact Steady.notify (h.setLink _ _) _ _ _]]

theorem Steady.statusAnswer (h : s.Steady) (sect : Byte) : (statusAnswer sect s).state.Steady := by
  unfold Machine.statusAnswer
  split <;> [exact h.of_changes (freeUsed_changes _) (by decide); exact h]

theorem Steady.planRead (h : s.Steady) (i : Byte) : (planReadAnswer i s).state.Steady := by
  unfold planReadAnswer
  split <;> [exact h; split <;> exact h]

theorem Steady.lightsAnswer (h : s.Steady) (mask level : Byte) (fade : Half) :
    (lightsAnswer mask level fade s).state.Steady := by
  have used {t : State} (ht : t.Steady) : t.freeUsed.Steady := ht.of_changes (freeUsed_changes _) (by decide)
  unfold Machine.lightsAnswer
  split
  · exact h
  · dsimp only
    split <;> [exact used h; exact used (h.applyAction _ _)]

theorem Steady.busResetAnswer (h : s.Steady) : (busResetAnswer s).state.Steady := by
  unfold Machine.busResetAnswer
  split <;> [exact h.setBus _; exact h]

theorem Steady.packReadAnswer (h : s.Steady) (a : Byte) : (packReadAnswer a s).state.Steady := by
  unfold Machine.packReadAnswer
  split <;> [exact h; split <;> exact h]

theorem Steady.packWriteAnswer (h : s.Steady) (a g top : Byte) : (packWriteAnswer a g top s).state.Steady := by
  unfold Machine.packWriteAnswer
  split <;> [exact h; exact h.setBus _]

theorem Steady.packForgetAnswer (h : s.Steady) (a : Byte) : (packForgetAnswer a s).state.Steady := by
  unfold Machine.packForgetAnswer
  split <;> [exact h; split <;> [exact h; exact h.setBus _]]

theorem Steady.paramReadAnswer (h : s.Steady) (x : Option ParamRef) : (paramReadAnswer x s).state.Steady := by
  cases x <;> exact h

theorem Steady.routeReadAnswer (h : s.Steady) (k : Byte) : (routeReadAnswer k s).state.Steady := by
  unfold Machine.routeReadAnswer
  split <;> exact h

theorem Steady.routeWriteAnswer (h : s.Steady) (mask k : Byte) : (routeWriteAnswer mask k s).state.Steady := by
  unfold Machine.routeWriteAnswer
  split <;> [exact h; exact h.of_changes (setMask_changes _ _ _) (by decide)]

theorem Steady.intermissionExtendAnswer (h : s.Steady) (seconds : Half) :
    (intermissionExtendAnswer seconds s).state.Steady := by
  unfold Machine.intermissionExtendAnswer
  split <;> [exact h.setProg _; exact h]

/-! ### Every request -/

/-- R171: a request that LNK's checks stop changes nothing. -/
theorem Steady.screen {α : Type} {owner : α → State → Answer} (h : s.Steady)
    (owns : ∀ x, (owner x s).state.Steady) (l : Connector) (subject : Option α) (rights : Rights α) :
    (screen l subject rights owner s).state.Steady := by
  unfold Machine.screen
  split
  · exact h
  · split
    · exact h
    · split <;> [exact owns _; exact h]

theorem Steady.requestAnswer (h : s.Steady) (l : Connector) (r : Request) : (requestAnswer l r s).state.Steady := by
  cases r with
  | ident role => exact h.identAnswer l role
  | status sect => exact h.screen (fun _ => h.statusAnswer sect) _ _ _
  | planRead i => exact h.screen (fun _ => h.planRead i) _ _ _
  | planWrite i x => exact h.screen (fun _ => h.planWrite i.toNat x) _ _ _
  | planInsert i x => exact h.screen (fun _ => h.planInsert i.toNat x) _ _ _
  | planDelete i => exact h.screen (fun _ => h.planDelete i.toNat) _ _ _
  | planSkip i => exact h.screen (fun _ => h.planSkip i.toNat) _ _ _
  | planHeader n => exact h.screen (fun _ => h.planHeader n.toNat) _ _ _
  | threaded p label => exact h.screen (fun _ => h.threadedAnswer label) _ _ _
  | unthread p => exact h.screen (fun _ => h.unthreadAnswer) _ _ _
  | arm p => exact h.screen (fun _ => h.armAnswer) _ _ _
  | disarm p => exact h.screen (fun _ => h.disarmAnswer) _ _ _
  | stop p => exact h.screen (fun _ => h.stopAnswer) _ _ _
  | clear p => exact h.screen (fun _ => h.clearAnswer) _ _ _
  | startShow => exact h.screen (fun _ => h.startShowAnswer) _ _ _
  | changeNow => exact h.screen (fun _ => h.changeNowAnswer) _ _ _
  | strike p => exact h.screen (fun _ => h.strikeAnswer) _ _ _
  | arcOff p => exact h.screen (fun _ => h.putOut _) _ _ _
  | carbonLoad p n => exact h.screen (fun _ => h.carbonLoadAnswer n.toNat) _ _ _
  | shutterRaise sh => exact h.screen (fun x => h.shutterRaiseAnswer x) _ _ _
  | shutterDrop sh => exact h.screen (fun x => h.shutterDropAnswer x) _ _ _
  | lights mask level fade => exact h.screen (fun _ => h.lightsAnswer mask level fade) _ _ _
  | fireReset => exact h.screen (fun _ => h.fireResetAnswer) _ _ _
  | boothReset => exact h.screen (fun _ => h.boothResetAnswer) _ _ _
  | busReset => exact h.screen (fun _ => h.busResetAnswer) _ _ _
  | packRead a => exact h.screen (fun _ => h.packReadAnswer a) _ _ _
  | packWrite a g top => exact h.screen (fun _ => h.packWriteAnswer a g top) _ _ _
  | packForget a => exact h.screen (fun _ => h.packForgetAnswer a) _ _ _
  | paramRead x p => exact h.screen (fun x => h.paramReadAnswer x) _ _ _
  | paramWrite x p v => exact h.screen (fun x => h.paramWriteAnswer v x) _ _ _
  | routeRead k => exact h.screen (fun _ => h.routeReadAnswer k) _ _ _
  | routeWrite k mask => exact h.screen (fun _ => h.routeWriteAnswer mask k) _ _ _
  | intermissionExtend n => exact h.screen (fun _ => h.intermissionExtendAnswer n) _ _ _

end Sys2Proof.Machine.State
end

section
/-! PROOF. Every step keeps the plan law: frames and bytes, film motion, the dimmer bus, and each command of the
table. -/

namespace Sys2Proof.Machine

namespace State

variable {s t : State} {p q : Projector}

/-! ### Requests, frames and bytes (R168 to R176) -/

theorem Steady.modLink (h : s.Steady) (l : Connector) (f : Link → Link) : (s.modLink l f).Steady := h.setLink _ _

theorem Steady.takeRequest (h : s.Steady) {answer : State → Answer} (l : Connector) (kind : Byte) (params : List Byte)
    (owns : ∀ t : State, t.Steady → (answer t).state.Steady) : (s.takeRequest l kind params answer).Steady := by
  unfold State.takeRequest
  split
  · exact h
  · split
    · exact h.setLink _ _
    · exact Steady.setLink (owns _ (h.setLink _ _)) _ _

theorem Steady.request (h : s.Steady) (l : Connector) (r : Request) : (s.request l r).Steady :=
  h.takeRequest l _ _ fun _ ht => ht.requestAnswer l r

theorem Steady.frame (h : s.Steady) (l : Connector) (kind : Byte) (params : List Byte) :
    (s.frame l kind params).Steady := by
  unfold State.frame
  split
  · exact h.request l _
  · refine h.takeRequest l _ _ fun t ht => ?_
    unfold malformedAnswer
    split <;> exact ht

theorem Steady.discardFrame (h : s.Steady) (l : Connector) : (s.discardFrame l).Steady := h.modLink l _

theorem Steady.checkFrame (h : s.Steady) (l : Connector) (assembly : List Byte) : (s.checkFrame l assembly).Steady := by
  unfold State.checkFrame
  split
  · dsimp only
    split <;> [exact (h.modLink l _).frame l _ _; exact h.modLink l _]
  · exact h.discardFrame l

theorem Steady.receiveByte (h : s.Steady) (l : Connector) (b : Byte) (framingError : Bool) :
    (s.receiveByte l b framingError).Steady := by
  have lengthByte : (s.lengthByte l b).Steady := by
    unfold State.lengthByte
    split <;> [exact h.modLink l _; exact h.discardFrame l]
  have bodyByte : (s.bodyByte l b).Steady := by
    unfold State.bodyByte
    dsimp only
    split <;> [exact h.modLink l _; exact h.checkFrame l _]
  unfold State.receiveByte
  split
  · split <;> [exact h.modLink l _; exact h]
  · split <;> [exact h.discardFrame l; exact lengthByte]
  · split <;> [exact h.discardFrame l; exact bodyByte]
  · exact h

theorem Steady.gap (h : s.Steady) (l : Connector) : (s.gap l).Steady := by
  unfold State.gap
  split <;> first
    | exact h
    | exact h.discardFrame l

theorem Steady.linkReset (h : s.Steady) (l : Connector) : (s.linkReset l).Steady := by
  unfold State.linkReset
  dsimp only
  split <;> [exact Steady.notify (h.setLink _ _) _ _ _; exact h.setLink _ _]

theorem Steady.markReturns (h : s.Steady) (l : Connector) : (s.markReturns l).Steady := by
  unfold State.markReturns
  split <;> [exact h.modLink l _; exact h]

theorem Steady.frameSent (h : s.Steady) (l : Connector) : (s.frameSent l).Steady := by
  unfold State.frameSent
  split <;> first
    | exact h
    | exact h.modLink l _

theorem Steady.frameBody (h : s.Steady) (l : Connector) (body : List Byte) : (s.frameBody l body).Steady := by
  unfold State.frameBody
  split
  · exact h
  · split
    · exact h.discardFrame l
    · split <;> [exact h.frame l _ _; exact h.discardFrame l]

/-! ### Film motion (R23 to R36) -/

theorem Steady.modMotion (h : s.Steady) (p : Projector) (f : Motion → Motion) : (s.modMotion p f).Steady :=
  h.setMotion _

theorem Steady.testSpeed (h : s.Steady) : (s.testSpeed p).Steady := by
  unfold State.testSpeed
  dsimp only
  split
  · exact ((h.modMotion p _).modMotion p _).speedReached
  · exact h.modMotion p _

theorem Steady.tryPoint (h : s.Steady) (x : FootagePoint) : (s.tryPoint p x).Steady := by
  unfold State.tryPoint
  split
  · next due =>
    simp only [Bool.and_eq_true] at due
    exact (h.modMotion p _).footagePoint (ChannelState.plays_of_holding due.1.1) x
  · exact h

theorem Steady.foldl_tryPoint (h : s.Steady) (points : List FootagePoint) :
    (points.foldl (State.tryPoint p) s).Steady := by
  induction points generalizing s with
  | nil => exact h
  | cons x rest ih => exact ih (h.tryPoint x)

theorem Steady.tryTailEnd (h : s.Steady) : (s.tryTailEnd p).Steady := by
  unfold State.tryTailEnd
  split <;> [exact (h.modMotion p _).reelDone; exact h]

theorem Steady.testPoints (h : s.Steady) : (s.testPoints p).Steady := by
  unfold State.testPoints
  split <;> first
    | exact h
    | exact h.foldl_tryPoint _
    | exact h.tryTailEnd

theorem Steady.countFrame (h : s.Steady) : (s.countFrame p).Steady := by
  unfold State.countFrame
  split <;> [exact (h.modMotion p _).testPoints; exact h]

theorem Steady.pulse (h : s.Steady) : (s.pulse p).Steady := by
  unfold State.pulse
  split <;> [exact h; exact ((h.modMotion p _).testSpeed).countFrame]

theorem Steady.foilActivation (h : s.Steady) : (s.foilActivation p).Steady := by
  unfold State.foilActivation
  split
  · next due =>
    rw [Bool.and_eq_true] at due
    exact (h.modMotion p _).foilEvent (ChannelState.plays_of_holding due.1)
  · exact h

theorem Steady.filmGone (h : s.Steady) : (s.filmGone p).Steady := by
  unfold State.filmGone
  split <;> first
    | exact h
    | exact h.halt _
    | exact h.reelDone

/-! ### The dimmer bus (R136 to R146) -/

theorem Steady.of_busBlocks (h : s.Steady) (k : changesOnly busBlocks s t) : t.Steady := h.of_changes k (by decide)

/-! ### Power-on -/

theorem steady_poweredUp (s : State) : s.poweredUp.Steady := by
  refine ⟨⟨fun p => ?_, Nat.zero_le _, rfl, fun e he => ?_⟩, fun p hp => ?_⟩
  · cases p <;> exact Laced.of_unprepared fun e he => (by cases he)
  · cases he
  · cases hp

theorem Steady.testFireInput (h : s.Steady) (x : FireInput) : (s.testFireInput x).Steady := by
  unfold State.testFireInput
  split <;> [exact h.fireSource _; exact h]

end State

end Sys2Proof.Machine
end

section
/-! PROOF. Each command of the table, and the step. -/

namespace Sys2Proof.Machine

/-- An outcome whose next state, where it has one, keeps the law. -/
abbrev EndsSteady (o : Host.Outcome State Fault Refusal) : Prop := ∀ t, o = .next t → t.Steady

section

variable {s : State} (h : s.Steady)

include h

theorem endsSteady_completed : EndsSteady s.completed := by
  intro t ht
  cases ht
  exact h.finish

/-! ### Film motion -/

theorem endsSteady_ringTimeout (p : Projector) : EndsSteady (execRingTimeout p s) := by
  unfold execRingTimeout
  split <;> [exact endsSteady_completed (h.modMotion p _); exact endsSteady_completed h]

theorem endsSteady_stallTimeout (p : Projector) : EndsSteady (execStallTimeout p s) := by
  unfold execStallTimeout
  split
  · exact endsSteady_completed h
  · split <;> [exact endsSteady_completed ((h.modMotion p _).halt _); exact endsSteady_completed h]

theorem endsSteady_foilInputChange (p : Projector) (active : Bool) : EndsSteady (execFoilInputChange p active s) := by
  unfold execFoilInputChange
  split
  · exact endsSteady_completed h
  · dsimp only
    split <;> first
      | exact endsSteady_completed ((h.setInputs _).modMotion p _)
      | exact endsSteady_completed (h.setInputs _)

theorem endsSteady_foilQualifyExpiry (p : Projector) : EndsSteady (execFoilQualifyExpiry p s) := by
  unfold execFoilQualifyExpiry
  split
  · exact endsSteady_completed ((h.passToDue _).modMotion p _).foilActivation
  · exact endsSteady_completed h

theorem endsSteady_foilReleaseExpiry (p : Projector) : EndsSteady (execFoilReleaseExpiry p s) := by
  unfold execFoilReleaseExpiry
  split <;> [exact endsSteady_completed ((h.passToDue _).modMotion p _); exact endsSteady_completed h]

theorem endsSteady_filmSwitchChange (p : Projector) (closed : Bool) :
    EndsSteady (execFilmSwitchChange p closed s) := by
  unfold execFilmSwitchChange
  split <;> [exact endsSteady_completed h; exact endsSteady_completed ((h.setInputs _).modMotion p _)]

theorem endsSteady_filmFilterExpiry (p : Projector) : EndsSteady (execFilmFilterExpiry p s) := by
  unfold execFilmFilterExpiry
  split
  · exact endsSteady_completed h
  · split
    · dsimp only
      split <;> [exact endsSteady_completed (h.modMotion p _).filmGone; exact endsSteady_completed (h.modMotion p _)]
    · exact endsSteady_completed h

theorem endsSteady_runupStage1Expiry (p : Projector) : EndsSteady (execRunupStage1Expiry p s) := by
  unfold execRunupStage1Expiry
  split
  · exact endsSteady_completed (State.Steady.setChan_same ((h.passToDue _).notify _ _ _))
  · exact endsSteady_completed h

theorem endsSteady_runupStage2Expiry (p : Projector) : EndsSteady (execRunupStage2Expiry p s) := by
  unfold execRunupStage2Expiry
  split <;> [exact endsSteady_completed ((h.passToDue _).halt _); exact endsSteady_completed h]

/-! ### Arcs -/

theorem endsSteady_touchTimerExpiry (p : Projector) : EndsSteady (execTouchTimerExpiry p s) := by
  unfold execTouchTimerExpiry
  split <;> [exact endsSteady_completed (h.passToDue _).failStrike; exact endsSteady_completed h]

theorem endsSteady_drawTimerExpiry (p : Projector) (voltage : Byte) :
    EndsSteady (execDrawTimerExpiry p voltage s) := by
  unfold execDrawTimerExpiry
  split
  · exact endsSteady_completed (State.Steady.endDraw ((h.passToDue _).setInputs _))
  · exact endsSteady_completed h

theorem endsSteady_regulationInterval (p : Projector) (voltage : Byte) :
    EndsSteady (execRegulationInterval p voltage s) := by
  have sensed (n : Nat) (x : Arc) (y : Inputs) :
      ((((s.passTo n).setArc p x).promoteProj p .nextInterval).setInputs y).Steady :=
    (((h.passTo n).setArc x).promoteProj _).setInputs y
  unfold execRegulationInterval
  dsimp only
  split
  · exact endsSteady_completed (State.Steady.regulate ((sensed _ _ _).setArc _))
  · exact endsSteady_completed (sensed _ _ _)

theorem endsSteady_strikeElapsedTick (p : Projector) : EndsSteady (execStrikeElapsedTick p s) := by
  unfold execStrikeElapsedTick
  split <;> [exact endsSteady_completed (h.setArc _); exact endsSteady_completed h]

/-! ### Shutters -/

theorem endsSteady_openSenseChange (sh : Shutter) (made : Bool) : EndsSteady (execOpenSenseChange sh made s) := by
  unfold execOpenSenseChange
  dsimp only
  split <;> first
    | exact endsSteady_completed ((h.setInputs _).shutterTo _ _ _)
    | exact endsSteady_completed (h.setInputs _)

theorem endsSteady_closedSenseChange (sh : Shutter) (made : Bool) :
    EndsSteady (execClosedSenseChange sh made s) := by
  unfold execClosedSenseChange
  dsimp only
  split <;> first
    | exact endsSteady_completed ((h.setInputs _).shutterTo _ _ _)
    | exact endsSteady_completed (h.setInputs _)

theorem endsSteady_raiseTimeout (sh : Shutter) : EndsSteady (execRaiseTimeout sh s) := by
  unfold execRaiseTimeout
  split <;> [exact endsSteady_completed ((h.passToDue _).shutterTo _ _ _); exact endsSteady_completed h]

theorem endsSteady_dropTimeout (sh : Shutter) : EndsSteady (execDropTimeout sh s) := by
  unfold execDropTimeout
  split <;> [exact endsSteady_completed ((h.passToDue _).shutterTo _ _ _); exact endsSteady_completed h]

/-! ### The show -/

theorem endsSteady_intermissionExpiry : EndsSteady (execIntermissionExpiry s) := by
  unfold execIntermissionExpiry
  split
  · split <;> [exact endsSteady_completed h.timerExpires; exact endsSteady_completed (h.setProg _)]
  · exact endsSteady_completed h

theorem endsSteady_showClockTick : EndsSteady (execShowClockTick s) := by
  have tenth : s.clockTenth.Steady := by
    unfold State.clockTenth
    split <;> exact h.setProg _
  unfold execShowClockTick
  split <;> [exact endsSteady_completed tenth; exact endsSteady_completed h]

omit h in
/-- R118: POWER_ON, from any state. -/
theorem endsSteady_powerOn (s : State) : EndsSteady (execPowerOn s) :=
  endsSteady_completed (((((State.steady_poweredUp s).compareHeat.compareHeat).testFireInput _).testFireInput
    _).testFireInput _)

/-- Every command keeps the law. -/
theorem endsSteady_exec (c : Instr) : EndsSteady (exec c s) := by
  cases c with
  | powerOn => exact endsSteady_powerOn s
  | frameReceived l body => exact endsSteady_completed (h.frameBody l body)
  | interbyteGapTimeout l => exact endsSteady_completed (h.gap l)
  | linkBreak l => exact endsSteady_completed (h.linkReset l)
  | linkMarkReturn l => exact endsSteady_completed (h.markReturns l)
  | transmitFrameEnd l => exact endsSteady_completed (h.frameSent l)
  | unknownRequestKind l kind rest => exact endsSteady_completed (h.frameBody l (kind :: rest))
  | byteReceived l b framingError => exact endsSteady_completed (h.receiveByte l b framingError)
  | ident | status | planRead | planWrite | planInsert | planDelete | planSkip | planHeader | threaded | unthread
  | arm | disarm | stop | clear | startShow | changeNow | boothReset | strike | arcOff | carbonLoad | shutterRaise
  | shutterDrop | fireReset | lights | busReset | packRead | packWrite | packForget | paramRead | paramWrite
  | routeRead | routeWrite | intermissionExtend => exact endsSteady_completed (h.request _ _)
  | tachPulse p instant => exact endsSteady_completed (h.passTo instant).pulse
  | ringTimeout p => exact endsSteady_ringTimeout h p
  | stallTimeout p => exact endsSteady_stallTimeout h p
  | foilInputChange p active => exact endsSteady_foilInputChange h p active
  | foilQualifyExpiry p => exact endsSteady_foilQualifyExpiry h p
  | foilReleaseExpiry p => exact endsSteady_foilReleaseExpiry h p
  | filmSwitchChange p closed => exact endsSteady_filmSwitchChange h p closed
  | filmFilterExpiry p => exact endsSteady_filmFilterExpiry h p
  | runupStage1Expiry p => exact endsSteady_runupStage1Expiry h p
  | runupStage2Expiry p => exact endsSteady_runupStage2Expiry h p
  | arcCurrentChange p current => exact endsSteady_completed (h.setInputs _).testTouch
  | touchTimerExpiry p => exact endsSteady_touchTimerExpiry h p
  | drawTimerExpiry p voltage => exact endsSteady_drawTimerExpiry h p voltage
  | regulationInterval p voltage => exact endsSteady_regulationInterval h p voltage
  | strikeElapsedTick p => exact endsSteady_strikeElapsedTick h p
  | openSenseChange sh made => exact endsSteady_openSenseChange h sh made
  | closedSenseChange sh made => exact endsSteady_closedSenseChange h sh made
  | raiseTimeout sh => exact endsSteady_raiseTimeout h sh
  | dropTimeout sh => exact endsSteady_dropTimeout h sh
  | heatReadingChange p reading => exact endsSteady_completed (h.setInputs _).compareHeat
  | heatStage1Expiry p => exact endsSteady_completed h.stage1TimerTest
  | dousedWaitExpiry p => exact endsSteady_completed h.dousedTimerTest
  | heatStageTimerTick p => exact endsSteady_completed (h.setHeat _)
  | fireSourceOpen x => exact endsSteady_completed ((h.setInputs _).fireSource _)
  | fireSourceClose x => exact endsSteady_completed (h.setInputs _)
  | keySwitchChange turnedOn => exact endsSteady_completed (h.setInputs _)
  | dimmerCycleStart => exact endsSteady_completed (h.of_busBlocks (cycleStart_inBus s))
  | busBreakEnd => exact endsSteady_completed (h.of_busBlocks (breakEnds_inBus s))
  | levelPacketSent => exact endsSteady_completed (h.of_busBlocks (sendPacket_inBus s))
  | levelReplyWindowEnd reply => exact endsSteady_completed (h.of_busBlocks (windowEnds_inBus s reply))
  | identifyRoundEnd contenders ack =>
    exact endsSteady_completed (h.of_busBlocks (roundEnds_inBus s contenders ack))
  | intermissionTimerTick => exact endsSteady_completed (h.of_changes (timerFalls_changes s) (by decide))
  | intermissionExpiry => exact endsSteady_intermissionExpiry h
  | showClockTick => exact endsSteady_showClockTick h

end

/-- A step on an empty queue moves the motion count alone; any other runs the command at the front. -/
theorem State.Steady.step {s t : State} (h : s.Steady) (ran : step s = .next t) : t.Steady := by
  unfold Machine.step at ran
  split at ran
  · cases ran
    exact h.of_changes (tick_changes s) (by decide)
  · next c rest _ =>
    have popped : ({ s with pending := rest } : State).Steady :=
      ⟨h.kept.of_view rfl (fun _ => rfl) fun _ => rfl, h.held⟩
    exact endsSteady_exec popped c t ran

/-- Settles O57: the plan law, with the token's place that the booth law gives, is kept by every command. -/
theorem planLawKept : Obligations.PlanLawKept := fun _ _ booth plan ran =>
  ((State.Steady.of_laws booth plan).step ran).planLaw

end Sys2Proof.Machine
end

section
/-! PROOF. The step (R22), the measured speed (R25), and the values that are computed whenever they are read: the burn
rate and the carbon time (R90, R91), the remaining frames and time (R28, R29). -/

namespace Sys2Proof.Machine

/-! ### The step -/

theorem step_of_empty {s : State} (empty : s.pending = []) : step s = .next s.tick := by rw [step, empty]

theorem tick_eq (s : State) : s.tick = { s with motionCount := s.motionCount + 1 } := by
  simp [State.tick, State.passTo]

/-- Settles O1: the command at the front is run on the rest of the queue, and an empty queue lets one count pass. -/
theorem stepRunsFront : Obligations.StepRunsFront :=
  ⟨fun _ _ _ => rfl, fun s empty => by rw [step_of_empty empty, tick_eq]⟩

/-! ### The measured speed (R25) -/

/-- R25: the periods of a full ring sum to 800 to 524280 counts. -/
theorem fullRing_sum {ring : List Nat} (full : ring.length = 8) (inRange : ∀ x ∈ ring, 100 ≤ x ∧ x ≤ 65535) :
    800 ≤ ring.sum ∧ ring.sum ≤ 524280 := by
  have low := List.card_nsmul_le_sum ring 100 fun x hx => (inRange x hx).1
  have high := List.sum_le_card_nsmul ring 65535 fun x hx => (inRange x hx).2
  rw [full] at low high
  exact ⟨low, high⟩

theorem speed10_full {m : Motion} (full : m.ring.length = 8) : m.speed10 = 800000 / m.ring.sum := if_pos full

theorem speed10_short {m : Motion} (short : m.ring.length < 8) : m.speed10 = 0 := if_neg short.ne

/-- R25: a full ring of periods in range measures between 1 and 1000 tenths. -/
theorem speed10_full_bounds {m : Motion} (full : m.ring.length = 8) (inRange : ∀ x ∈ m.ring, 100 ≤ x ∧ x ≤ 65535) :
    1 ≤ m.speed10 ∧ m.speed10 ≤ 1000 := by
  obtain ⟨low, high⟩ := fullRing_sum full inRange
  rw [speed10_full full]
  constructor
  · rw [Nat.le_div_iff_mul_le (by omega)]
    omega
  · exact Nat.div_le_of_le_mul (by omega)

/-- Settles O31: the sum of a full ring bounds its quotient. -/
theorem measuredSpeed : Obligations.MeasuredSpeed := by
  intro m most
  refine ⟨speed10_full, speed10_short, fun inRange => ⟨fun full => (fullRing_sum full inRange).1, ?_⟩,
    fun slowest => ?_⟩
  · rcases most.lt_or_eq with short | full
    · simp [speed10_short short, short]
    · have := speed10_full_bounds full inRange
      omega
  · rw [speed10_full (by simp [slowest]), slowest]
    decide

/-! ### The burn rate, the carbon time and the remaining time (R28, R29, R90, R91) -/

theorem lt_ceilDiv_iff {n d : Nat} (k : Nat) (pos : 0 < d) : k < ceilDiv n d ↔ k * d < n := by
  rw [ceilDiv, Nat.lt_iff_add_one_le, Nat.le_div_iff_mul_le pos, Nat.succ_mul]
  omega

/-- Settles O40: the rounded quotient is the least that is not below its own value. -/
theorem carbonAndReelTimes : Obligations.CarbonAndReelTimes := by
  intro p s x b stub speed per
  have burn : s.burnRate p = b := rfl
  have carbon : s.carbonTime p = if x.carbon ≤ stub then 0 else if b = 0 then 65535 else
      min ((x.carbon - stub) * 600 / b) 65535 := rfl
  refine ⟨burn, fun spent => ?_, fun left still => ?_, fun left burns => ?_, fun unlinked => ?_, fun e linked => ?_⟩
  · rw [carbon, if_pos spent]
  · rw [carbon, if_neg (by omega), if_pos still]
  · rw [carbon, if_neg (by omega), if_neg (by omega)]
  · simp [State.remaining, State.remainingTime, unlinked]
  · let rf := e.frames - (s.motionOf p).frames
    have remaining : s.remaining p = some rf := by simp [State.remaining, linked, rf]
    refine ⟨rf, min (ceilDiv (rf * 100) per) 65535, remaining, ?_, ?_, by omega, fun pos short => ?_,
      fun pos held => ?_⟩
    · rw [State.remainingTime, remaining]
      rfl
    · have frames : e.frames = e.feet * 16 := rfl
      omega
    · have unheld : min (ceilDiv (rf * 100) per) 65535 = ceilDiv (rf * 100) per := by omega
      rw [unheld]
      refine ⟨?_, fun some => (lt_ceilDiv_iff _ pos).mp (by omega)⟩
      have most := lt_ceilDiv_iff (n := rf * 100) (ceilDiv (rf * 100) per) pos
      omega
    · exact (lt_ceilDiv_iff _ pos).mp (by omega)

end Sys2Proof.Machine
end

section
/-! PROOF. The tables of the part, block by block: what is in range in a record, and that the operations on the record
keep it (R24, R90, R122, R137, R139, R159, R163). -/

namespace Sys2Proof.Machine

/-! ### The plan's entries (R2, R6) -/

/-- R2, R6: every entry in range. -/
def EntriesInRange (entries : List Entry) : Prop := ∀ e ∈ entries, e.inRange = true

namespace EntriesInRange

variable {entries : List Entry}

theorem map (h : EntriesInRange entries) {f : Entry → Entry} (same : ∀ e, (f e).inRange = e.inRange) :
    EntriesInRange (entries.map f) := by
  intro e he
  obtain ⟨x, hx, rfl⟩ := List.mem_map.mp he
  rw [same]
  exact h x hx

theorem modify (h : EntriesInRange entries) (i : Nat) {f : Entry → Entry} (same : ∀ e, (f e).inRange = e.inRange) :
    EntriesInRange (entries.modify i f) := by
  intro e he
  obtain ⟨j, hj⟩ := List.mem_iff_getElem?.mp he
  rw [List.getElem?_modify] at hj
  obtain ⟨x, hx, rfl⟩ := Option.map_eq_some_iff.mp hj
  have old := h x (List.mem_of_getElem? hx)
  split <;> [exact (same x).trans old; exact old]

theorem set (h : EntriesInRange entries) (i : Nat) {e : Entry} (he : e.inRange = true) :
    EntriesInRange (entries.set i e) := by
  intro x hx
  rcases List.mem_or_eq_of_mem_set hx with old | rfl
  · exact h x old
  · exact he

theorem insertIdx (h : EntriesInRange entries) (i : Nat) {e : Entry} (he : e.inRange = true) :
    EntriesInRange (entries.insertIdx i e) := by
  intro x hx
  rcases List.eq_or_mem_of_mem_insertIdx hx with rfl | old
  · exact he
  · exact h x old

theorem eraseIdx (h : EntriesInRange entries) (i : Nat) : EntriesInRange (entries.eraseIdx i) :=
  fun x hx => h x (List.mem_of_mem_eraseIdx hx)

end EntriesInRange

/-! ### The show (R159, R163) -/

/-- R159, R160, R163: the intermission timer and the show clock. -/
def Progress.InRange (x : Progress) : Prop :=
  (∀ n ∈ x.timer, n ≤ Config.timerLimit) ∧ x.clock ≤ 65535 ∧ x.tenths ≤ 9

/-- The counts of the show: the timer, the seconds and the tenths. -/
def Progress.counts (x : Progress) : Option Nat × Nat × Nat := (x.timer, x.clock, x.tenths)

theorem Progress.inRange_of_counts {x : Progress} {timer : Option Nat} {clock tenths : Nat}
    (counts : x.counts = (timer, clock, tenths)) (timed : ∀ n ∈ timer, n ≤ Config.timerLimit) (seconds : clock ≤ 65535)
    (part : tenths ≤ 9) : x.InRange := by
  obtain ⟨rfl, rfl, rfl⟩ : x.timer = timer ∧ x.clock = clock ∧ x.tenths = tenths := by
    simpa [Progress.counts] using counts
  exact ⟨timed, seconds, part⟩

theorem Progress.InRange.of_counts {x y : Progress} (h : x.InRange) (same : y.counts = x.counts) : y.InRange :=
  Progress.inRange_of_counts same h.1 h.2.1 h.2.2

/-! ### The capture and bucket rings (R24, R25, R90) -/

/-- R23, R24: the periods of a capture ring. -/
def Motion.InRange (m : Motion) : Prop :=
  m.ring.length ≤ Config.ringSize ∧ ∀ x ∈ m.ring, Config.minPeriod ≤ x ∧ x ≤ Config.maxPeriod

theorem Motion.inRange_of_empty {m : Motion} (empty : m.ring = []) : m.InRange := by simp [Motion.InRange, empty]

/-- R23, R24: an accepted period joins the ring, held at the longest. -/
theorem Motion.InRange.captured {m m' : Motion} (h : m.InRange) {period : Nat} (accepted : Config.minPeriod ≤ period)
    (ring : m'.ring = Machine.captured m.ring (min period Config.maxPeriod)) : m'.InRange := by
  obtain ⟨size, periods⟩ := h
  rw [Motion.InRange, ring, Machine.captured]
  refine ⟨?_, fun x hx => ?_⟩
  · simp only [List.length_append, List.length_drop, List.length_singleton, Config.ringSize] at size ⊢
    omega
  · rcases List.mem_append.mp hx with old | new
    · exact periods x (List.mem_of_mem_drop old)
    · rw [List.mem_singleton.mp new]
      exact ⟨le_min accepted (by decide), min_le_right _ _⟩

/-- R90: the bucket ring. -/
def Arc.InRange (x : Arc) : Prop := x.ring.length ≤ Config.bucketRing

/-! ### Fades (R121, R122) -/

/-- R122: a fading group's level lies between the fade's ends, and the fade has steps left. -/
def GroupRec.InRange (g : GroupRec) : Prop :=
  g.active = true → g.k < g.n ∧ min g.start g.target ≤ g.level ∧ g.level ≤ max g.start g.target

theorem GroupRec.inRange_of_still {g : GroupRec} (still : g.active = false) : g.InRange := by
  intro active
  rw [still] at active
  cases active

/-- R121: a fade begins at the level it finds. -/
theorem GroupRec.inRange_applied (g : GroupRec) (level fade : Nat) (source : FadeSource) :
    (g.applied level fade source).InRange := by
  intro active
  have fades : fade ≠ 0 := by simpa [GroupRec.applied] using active
  simp only [GroupRec.applied, Config.cyclesPerTenth, if_neg fades]
  omega

/-- R122: the level of a fade stays between its ends. -/
theorem fadeLevel_between (start target : Nat) {k n : Nat} (h : k < n) :
    min start target ≤ fadeLevel start target k n ∧ fadeLevel start target k n ≤ max start target := by
  have share (d : Nat) : 0 ≤ ((d : Int) * k).tdiv n ∧ ((d : Int) * k).tdiv n ≤ d := by
    rw [Int.tdiv_eq_ediv_of_nonneg (by positivity)]
    refine ⟨by positivity, Int.ediv_le_of_le_mul (by omega) ?_⟩
    exact_mod_cast Nat.mul_le_mul_left d h.le
  unfold fadeLevel
  rcases le_total start target with rises | falls
  · have whole : (target : Int) - start = ((target - start : Nat) : Int) := by omega
    have := share (target - start)
    rw [whole]
    omega
  · have whole : (target : Int) - start = -((start - target : Nat) : Int) := by omega
    have := share (start - target)
    rw [whole, neg_mul, Int.neg_tdiv]
    omega

/-- R122: one fade step. -/
theorem GroupRec.InRange.stepped {g : GroupRec} (h : g.InRange) : g.stepped.InRange := by
  unfold GroupRec.stepped
  split
  · dsimp only
    split
    · next more => exact fun _ => ⟨more, fadeLevel_between _ _ more⟩
    · exact inRange_of_still rfl
  · exact h

/-- R122: every group. -/
def Lighting.InRange (x : Lighting) : Prop := ∀ g, (x.groupAt g).InRange

namespace Lighting.InRange

variable {x : Lighting}

theorem setGroup (h : x.InRange) (g : Group) {r : GroupRec} (hr : r.InRange) : (x.setGroup g r).InRange := by
  intro g'
  by_cases same : g' = g
  · subst same
    rw [Lighting.setGroup, Lighting.groupAt, groupOf_set_self]
    exact hr
  · rw [Lighting.setGroup, Lighting.groupAt, groupOf_set_ne _ _ same]
    exact h g'

theorem actOn (h : x.InRange) (clock level fade : Nat) (source : FadeSource) (g : Group) :
    (x.actOn clock level fade source g).InRange := by
  have applied := h.setGroup g ((x.groupAt g).inRange_applied level fade source)
  unfold Lighting.actOn
  dsimp only
  split <;> exact applied

/-- An action on the groups, one after the other, each or not. -/
theorem foldl_groups (h : x.InRange) {f : Lighting → Group → Lighting} (keeps : ∀ y g, InRange y → InRange (f y g)) :
    (Group.all.foldl f x).InRange :=
  List.foldlRecOn (motive := InRange) Group.all f h fun y hy g _ => keeps y g hy

/-- R121. -/
theorem act (h : x.InRange) (clock : Nat) (mask : BitVec 4) (level fade : Nat) (source : FadeSource) :
    (x.act clock mask level fade source).InRange := by
  unfold Lighting.act
  split
  · exact h
  · refine h.foldl_groups fun y g hy => ?_
    split <;> [exact hy.actOn _ _ _ _ _; exact hy]

/-- R126. -/
theorem breakAction (h : x.InRange) (clock : Nat) (mask : BitVec 4) (level fade : Nat) :
    (x.breakAction clock mask level fade).InRange := by
  unfold Lighting.breakAction
  split
  · exact h
  · refine h.foldl_groups fun y g hy => ?_
    split
    · exact actOn (hy.setGroup g (r := { y.groupAt g with save := some _ }) (hy g)) _ _ _ _ _
    · exact hy

/-- R127. -/
theorem restoreAction (h : x.InRange) (clock fade : Nat) : (x.restoreAction clock fade).InRange := by
  unfold Lighting.restoreAction
  split
  · exact h
  · refine h.foldl_groups fun y g hy => ?_
    unfold Lighting.restoreOn
    split
    · exact hy
    · next level _ =>
      have acted := hy.actOn clock level fade .restore g
      exact acted.setGroup g (acted g)

/-- R129: no group fades in emergency. -/
theorem enterEmergency (x : Lighting) : x.enterEmergency.InRange := by
  intro g
  cases g <;> exact GroupRec.inRange_of_still rfl

end Lighting.InRange

/-! ### The pack table (R137, R139, R144) -/

/-- R137: distinct addresses of 1 to 15, and distinct serials. -/
structure PacksInRange (packs : List Pack) : Prop where
  within : ∀ x ∈ packs, 1 ≤ x.address ∧ x.address ≤ Config.packLimit
  addresses : (packs.map (·.address)).Nodup
  serials : (packs.map (·.serial)).Nodup

namespace PacksInRange

variable {packs : List Pack}

/-- R137: with distinct addresses there is room for 15 entries. -/
theorem length_le (h : PacksInRange packs) : packs.length ≤ Config.packLimit := by
  have sub : packs.map (·.address) ⊆ List.range' 1 Config.packLimit := by
    intro a ha
    obtain ⟨x, hx, rfl⟩ := List.mem_map.mp ha
    obtain ⟨low, high⟩ := h.within x hx
    rw [List.mem_range'_1]
    omega
  simpa using (h.addresses.subperm sub).length_le

theorem perm {ys : List Pack} (h : PacksInRange packs) (p : packs.Perm ys) : PacksInRange ys :=
  ⟨fun x hx => h.within x (p.mem_iff.mpr hx), (p.map _).nodup_iff.mp h.addresses, (p.map _).nodup_iff.mp h.serials⟩

theorem sublist {ys : List Pack} (h : PacksInRange packs) (sub : ys.Sublist packs) : PacksInRange ys :=
  ⟨fun x hx => h.within x (sub.subset hx), h.addresses.sublist (sub.map _), h.serials.sublist (sub.map _)⟩

/-- An entry with an address and a serial of its own. -/
theorem cons {x : Pack} (h : PacksInRange packs) (within : 1 ≤ x.address ∧ x.address ≤ Config.packLimit)
    (address : ∀ y ∈ packs, y.address ≠ x.address) (serial : ∀ y ∈ packs, y.serial ≠ x.serial) :
    PacksInRange (x :: packs) where
  within := by simpa [within] using h.within
  addresses := by simpa [h.addresses] using address
  serials := by simpa [h.serials] using serial

/-- Entries that keep their addresses and serials. -/
theorem map (h : PacksInRange packs) {f : Pack → Pack}
    (same : ∀ x ∈ packs, (f x).address = x.address ∧ (f x).serial = x.serial) : PacksInRange (packs.map f) := by
  have addresses : (packs.map f).map (·.address) = packs.map (·.address) := by
    rw [List.map_map]
    exact List.map_congr_left fun x hx => (same x hx).1
  have serials : (packs.map f).map (·.serial) = packs.map (·.serial) := by
    rw [List.map_map]
    exact List.map_congr_left fun x hx => (same x hx).2
  refine ⟨fun y hy => ?_, addresses ▸ h.addresses, serials ▸ h.serials⟩
  obtain ⟨x, hx, rfl⟩ := List.mem_map.mp hy
  rw [(same x hx).1]
  exact h.within x hx

end PacksInRange

theorem insertPack_perm (x : Pack) (packs : List Pack) : (insertPack x packs).Perm (x :: packs) := by
  induction packs with
  | nil => exact .refl _
  | cons y ys ih =>
    unfold insertPack
    split
    · exact .refl _
    · exact (ih.cons y).trans (.swap x y ys)

/-- R137, R139: the pack table and the pointer. -/
def Bus.InRange (b : Bus) : Prop := PacksInRange b.packs ∧ b.pointer ≤ Config.packLimit

/-- The pack table and the pointer of a bus. -/
def Bus.table (b : Bus) : List Pack × Nat := (b.packs, b.pointer)

theorem Bus.InRange.of_table {b c : Bus} (h : b.InRange) (same : c.table = b.table) : c.InRange := by
  obtain ⟨packs, pointer⟩ : c.packs = b.packs ∧ c.pointer = b.pointer := by simpa [Bus.table] using same
  rwa [Bus.InRange, packs, pointer]

theorem Bus.packAt_address {b : Bus} {a : Nat} {x : Pack} (h : b.packAt a = some x) : x ∈ b.packs ∧ x.address = a :=
  ⟨List.mem_of_find?_eq_some h, by simpa using List.find?_some h⟩

theorem Bus.packOf_serial {b : Bus} {serial : Serial} {x : Pack} (h : b.packOf serial = some x) :
    x ∈ b.packs ∧ x.serial = serial :=
  ⟨List.mem_of_find?_eq_some h, by simpa using List.find?_some h⟩

/-- R144: the address given is one of 1 to 15, and no entry's. -/
theorem Bus.freeAddress_free {b : Bus} {a : Nat} (h : b.freeAddress = some a) :
    (1 ≤ a ∧ a ≤ Config.packLimit) ∧ ∀ y ∈ b.packs, y.address ≠ a := by
  have member := List.mem_of_find?_eq_some h
  have free := List.find?_some h
  simp only [List.mem_map, List.mem_range] at member
  simp only [Bus.packAt, Bool.and_eq_true, Option.isNone_iff_eq_none, List.find?_eq_none, decide_eq_true_eq] at free
  obtain ⟨i, hi, rfl⟩ := member
  exact ⟨by omega, free.1⟩

namespace Bus.InRange

variable {b : Bus}

theorem modPack (h : b.InRange) (a : Nat) {f : Pack → Pack}
    (same : ∀ x ∈ b.packs, x.address = a → (f x).address = x.address ∧ (f x).serial = x.serial) :
    (b.modPack a f).InRange := by
  refine ⟨h.1.map fun x hx => ?_, h.2⟩
  split
  · next at_a => exact same x hx at_a
  · exact ⟨rfl, rfl⟩

/-- An entry of the table rewritten, its address and serial kept. -/
theorem replace (h : b.InRange) {x y : Pack} (member : x ∈ b.packs) (address : y.address = x.address)
    (serial : y.serial = x.serial) : (b.modPack x.address fun _ => y).InRange := by
  refine h.modPack x.address fun z hz at_x => ?_
  have same : z = x := List.inj_on_of_nodup_map h.1.addresses hz member at_x
  rw [same]
  exact ⟨address, serial⟩

/-- R144: a new entry, of a serial that no entry has, at a free address. -/
theorem insertFresh (h : b.InRange) {serial : Serial} {a : Nat} (new : b.packOf serial = none)
    (free : b.freeAddress = some a) : ({ b with packs := insertPack (Pack.fresh serial a) b.packs } : Bus).InRange := by
  obtain ⟨within, apart⟩ := freeAddress_free free
  have unknown : ∀ y ∈ b.packs, y.serial ≠ serial := by simpa [Bus.packOf] using new
  exact ⟨(h.1.cons (x := Pack.fresh serial a) within apart unknown).perm (insertPack_perm _ _).symm, h.2⟩

/-- R139: the pointer moves to an address of the scan. -/
theorem planPackets (h : b.InRange) (budget : Nat) : (b.planPackets budget).InRange := by
  have scanned (a : Nat) (ha : a ∈ b.chosenPacks budget) : a ≤ Config.packLimit := by
    have inScan := List.mem_of_mem_filter (List.mem_of_mem_take ha)
    obtain ⟨i, -, rfl⟩ := List.mem_map.mp inScan
    exact Nat.mod_lt _ (by decide)
  refine ⟨h.1, ?_⟩
  change (b.chosenPacks budget).getLastD b.pointer ≤ _
  rcases List.eq_nil_or_concat' (b.chosenPacks budget) with none | ⟨init, last, some⟩
  · rw [none]
    exact h.2
  · rw [some, List.getLastD_concat]
    exact scanned last (by simp [some])

/-- R136, steps 1 to 4: a cycle start ages every entry, and a pending reset drops them all. -/
theorem cycleBegins (h : b.InRange) (now : Nat) (levels : Quad Nat) : (b.cycleBegins now levels).InRange := by
  have aged {packs : List Pack} (hp : PacksInRange packs) :
      PacksInRange (packs.map fun x => { x with since := min (x.since + 1) 255 }) := hp.map fun _ _ => ⟨rfl, rfl⟩
  unfold Bus.cycleBegins
  dsimp only
  split
  · exact ⟨aged (h.1.map fun _ _ => ⟨rfl, rfl⟩), h.2⟩
  · exact ⟨aged h.1, h.2⟩

/-- R136, steps 5 and 6. -/
theorem cyclePlanned (h : b.InRange) : b.cyclePlanned.InRange := by
  have left : b.leaveBreak.InRange := by
    unfold Bus.leaveBreak
    split <;> exact h
  unfold Bus.cyclePlanned
  dsimp only
  split
  · split <;> exact left.planPackets _
  · split <;> exact left.planPackets _
  · exact left
  · exact left

end Bus.InRange

end Sys2Proof.Machine
end

section
/-! PROOF. The parameter store: what a promotion and a write make of a record (R184 to R189), and the two laws of the
store that both keep: the ranges of R185, and R189's T_r2. -/

namespace Sys2Proof.Machine

/-! ### Records of the store -/

@[simp] theorem ProjParams.get_set_self (x : ProjParams) (q : ProjParam) (r : ParamRec) : (x.set q r).get q = r := by
  cases q <;> rfl

theorem ProjParams.get_set_ne (x : ProjParams) {q q' : ProjParam} (r : ParamRec) (h : q' ≠ q) :
    (x.set q r).get q' = x.get q' := by
  cases q <;> cases q' <;> first | rfl | exact absurd rfl h

@[simp] theorem DevParams.get_set_self (x : DevParams) (q : DevParam) (r : ParamRec) : (x.set q r).get q = r := by
  cases q <;> rfl

theorem DevParams.get_set_ne (x : DevParams) {q q' : DevParam} (r : ParamRec) (h : q' ≠ q) :
    (x.set q r).get q' = x.get q' := by
  cases q <;> cases q' <;> first | rfl | exact absurd rfl h

@[simp] theorem ParamRec.promoted_promoted (r : ParamRec) : r.promoted.promoted = r.promoted := rfl

/-- R188: a promotion of the parameters of a list reaches those of its point, and no other. -/
theorem ProjParams.get_foldl_promoted (point : TakeEffect) (qs : List ProjParam) (x : ProjParams) (q : ProjParam) :
    (qs.foldl (fun y q => if q.row.point = point then y.set q (y.get q).promoted else y) x).get q =
      if q ∈ qs ∧ q.row.point = point then (x.get q).promoted else x.get q := by
  induction qs generalizing x with
  | nil => simp
  | cons r rest ih =>
    rw [List.foldl_cons, ih]
    by_cases same : q = r
    · subst same
      by_cases at_point : q.row.point = point <;> simp [at_point]
    · by_cases at_point : r.row.point = point <;> simp [at_point, same, get_set_ne]

theorem ProjParams.get_promote (x : ProjParams) (point : TakeEffect) (q : ProjParam) :
    (x.promote point).get q = if q.row.point = point then (x.get q).promoted else x.get q := by
  have listed : q ∈ ProjParam.all := by cases q <;> decide
  simp [ProjParams.promote, get_foldl_promoted, listed]

theorem DevParams.get_promote (x : DevParams) (point : TakeEffect) (q : DevParam) :
    (x.promote point).get q = if q.row.point = point then (x.get q).promoted else x.get q := by
  cases point <;> cases q <;> rfl

@[simp] theorem ParamRec.held_placed (r : ParamRec) (v : Nat) : (r.placed v).held = r.held := by
  unfold ParamRec.placed
  split <;> [rfl; split <;> rfl]

/-- R187, R189: the effective value is the one last placed. -/
@[simp] theorem ParamRec.effective_placed (r : ParamRec) (v : Nat) : (r.placed v).effective = v := by
  unfold ParamRec.placed
  split
  · next same => simp [ParamRec.effective, same]
  · split
    · next same => simp [ParamRec.effective, same]
    · rfl

/-! ### The laws of the store -/

/-- A condition on the store that power-on meets, and that promotions (R188) and writes (R186, R189) keep. -/
structure Params.Law (law : Params → Prop) : Prop where
  power : law State.reset.par
  promoteProj : ∀ x p point, law x → law { x with proj := x.proj.set p ((x.proj.get p).promote point) }
  promoteCycle : ∀ x, law x → law { x with dev := x.dev.promote .nextCycle }
  write : ∀ (s : State) (ref : ParamRef) (value : Nat), law s.par →
    law ((s.placeParam ref (s.constrained ref (ref.inRange value)).val).limitRaised ref).1.par

/-! ### The ranges (R184, R185) -/

/-- R184: every record within its row of R185. -/
def Params.InRange (x : Params) : Prop := ∀ ref : ParamRef, (x.recOf ref).within ref.row

theorem Params.inRange_reset : State.reset.par.InRange := by
  intro ref
  cases ref with
  | proj p q => cases p <;> cases q <;> decide
  | dev q => cases q <;> decide

namespace Params.InRange

variable {x : Params}

theorem setProj (h : x.InRange) (p : Projector) {y : ProjParams} (hy : ∀ q, (y.get q).within q.row) :
    ({ x with proj := x.proj.set p y } : Params).InRange := by
  intro ref
  cases ref with
  | proj p' q =>
    by_cases same : p' = p
    · subst same
      rw [Params.recOf, Pair.get_set_self]
      exact hy q
    · rw [Params.recOf, Pair.get_set_ne _ _ same]
      exact h (.proj p' q)
  | dev q => exact h (.dev q)

theorem setDev (h : x.InRange) {y : DevParams} (hy : ∀ q, (y.get q).within q.row) :
    ({ x with dev := y } : Params).InRange := by
  intro ref
  cases ref with
  | proj p q => exact h (.proj p q)
  | dev q => exact hy q

/-- A projector's record within its row, put in place of the held one. -/
theorem set_within {y : ProjParams} (h : ∀ q, (y.get q).within q.row) {q : ProjParam} {r : ParamRec}
    (hr : r.within q.row) (q' : ProjParam) : ((y.set q r).get q').within q'.row := by
  by_cases same : q' = q
  · subst same
    rwa [ProjParams.get_set_self]
  · rw [ProjParams.get_set_ne _ _ same]
    exact h q'

theorem setRec (h : x.InRange) (ref : ParamRef) {r : ParamRec} (hr : r.within ref.row) : (x.setRec ref r).InRange := by
  cases ref with
  | proj p q => exact h.setProj p fun q' => set_within (fun q'' => h (.proj p q'')) hr q'
  | dev q =>
    refine h.setDev fun q' => ?_
    by_cases same : q' = q
    · subst same
      rwa [DevParams.get_set_self]
    · rw [DevParams.get_set_ne _ _ same]
      exact h (.dev q')

theorem effective_within (h : x.InRange) (ref : ParamRef) :
    ref.row.low ≤ (x.recOf ref).effective ∧ (x.recOf ref).effective ≤ ref.row.high :=
  (ParamRec.within_promoted (h ref)).1

end Params.InRange

theorem ParamRef.low_le_high (ref : ParamRef) : ref.row.low ≤ ref.row.high := by
  cases ref with
  | proj p q =>
    change q.row.low ≤ q.row.high
    cases q <;> decide
  | dev q => cases q <;> decide

/-- R186, step 2: the value taken lies in the range of R185. -/
theorem ParamRef.inRange_within (ref : ParamRef) (v : Nat) :
    ref.row.low ≤ (ref.inRange v).val ∧ (ref.inRange v).val ≤ ref.row.high := by
  have clamped {lo hi : Nat} (h : lo ≤ hi) : lo ≤ (clamp lo hi v).val ∧ (clamp lo hi v).val ≤ hi := by
    rw [clamp_val h]
    omega
  unfold ParamRef.inRange
  split
  · exact ⟨Nat.zero_le _, by change v % 16 ≤ 15; omega⟩
  · exact clamped ref.low_le_high

/-- R189: the effective T_r1 leaves a T_r2 in range. -/
theorem Params.InRange.leastLimit_within {x : Params} (h : x.InRange) (p : Projector) :
    ProjParam.tR2.row.low ≤ leastLimit ((x.proj.get p).get .tR1).effective ∧
      leastLimit ((x.proj.get p).get .tR1).effective ≤ ProjParam.tR2.row.high := by
  obtain ⟨low, high⟩ := h.effective_within (.proj p .tR1)
  simp only [ParamRef.row, ProjParam.row, Params.recOf, leastLimit] at *
  omega

theorem Params.InRange.constrained_within {s : State} (h : s.par.InRange) (ref : ParamRef) (value : Nat) :
    ref.row.low ≤ (s.constrained ref (ref.inRange value)).val ∧
      (s.constrained ref (ref.inRange value)).val ≤ ref.row.high := by
  have taken := ref.inRange_within value
  unfold State.constrained
  split
  · next p =>
    dsimp only
    split
    · exact h.leastLimit_within p
    · exact taken
  · exact taken

/-- The ranges are a law of the store. -/
theorem Params.law_inRange : Params.Law Params.InRange where
  power := Params.inRange_reset
  promoteProj x p point h := by
    refine h.setProj p fun q => ?_
    rw [ProjParams.get_promote]
    split
    · exact ParamRec.within_promoted (h (.proj p q))
    · exact h (.proj p q)
  promoteCycle x h := by
    refine h.setDev fun q => ?_
    rw [DevParams.get_promote]
    split
    · exact ParamRec.within_promoted (h (.dev q))
    · exact h (.dev q)
  write s ref value h := by
    obtain ⟨low, high⟩ := h.constrained_within ref value
    have placed : (s.placeParam ref (s.constrained ref (ref.inRange value)).val).par.InRange :=
      h.setRec ref (ParamRec.within_taken (h ref) low high)
    unfold State.limitRaised
    split
    · next p =>
      obtain ⟨low, high⟩ := placed.leastLimit_within p
      refine placed.setProj p fun q => ?_
      unfold ProjParams.raiseLimit
      split
      · exact Params.InRange.set_within (q := .tR2) (fun q => placed (.proj p q))
          (ParamRec.within_placed (placed (.proj p .tR2)) low high (by decide)) q
      · exact placed (.proj p q)
    · exact placed

/-! ### T_r2 above T_r1 (R189) -/

/-- R189: of a T_r1 and a T_r2, held and effective. -/
def ParamRec.Limits (r1 r2 : ParamRec) : Prop :=
  leastLimit r1.held ≤ r2.held ∧ leastLimit r1.effective ≤ r2.effective

/-- R189, of a projector. -/
def ProjParams.Limited (x : ProjParams) : Prop := (x.get .tR1).Limits (x.get .tR2)

/-- R189: T_r2 of each projector. -/
def Params.Limited (x : Params) : Prop := ∀ p, (x.proj.get p).Limited

theorem Params.Limited.of_proj {x y : Params} (h : x.Limited) (p : Projector)
    (apart : ∀ p', p' ≠ p → y.proj.get p' = x.proj.get p') (hy : (y.proj.get p).Limited) : y.Limited := by
  intro p'
  by_cases same : p' = p
  · rwa [same]
  · rw [apart p' same]
    exact h p'

/-- R189: after the raise T_r2 is limited, whatever T_r1 was written, where its held value is. -/
theorem ProjParams.limited_raiseLimit {x : ProjParams} (held : leastLimit (x.get .tR1).held ≤ (x.get .tR2).held) :
    x.raiseLimit.1.Limited := by
  unfold ProjParams.raiseLimit
  split
  · refine ⟨?_, ?_⟩
    · change leastLimit (x.get .tR1).held ≤ ((x.get .tR2).placed _).held
      rwa [ParamRec.held_placed]
    · change leastLimit (x.get .tR1).effective ≤ ((x.get .tR2).placed _).effective
      rw [ParamRec.effective_placed]
      exact le_rfl
  · next above => exact ⟨held, not_lt.mp above⟩

/-- R188: T_r1 and T_r2 are promoted together. -/
theorem ProjParams.Limited.promote {x : ProjParams} (h : x.Limited) (point : TakeEffect) :
    (x.promote point).Limited := by
  obtain ⟨held, effective⟩ := h
  rw [ProjParams.Limited, ProjParams.get_promote, ProjParams.get_promote]
  change ParamRec.Limits (if TakeEffect.nextStart = point then _ else _) (if TakeEffect.nextStart = point then _ else _)
  split
  · exact ⟨effective, effective⟩
  · exact ⟨held, effective⟩

/-- R186, R189: a write of a projector's parameter at the value that the constraint leaves, and the raise. -/
theorem ProjParams.Limited.write {x : ProjParams} (h : x.Limited) {q : ProjParam} {v : Nat}
    (constrained : q = .tR2 → leastLimit (x.get .tR1).effective ≤ v) :
    if q = .tR1 then (x.set q ((x.get q).taken q.row.point v)).raiseLimit.1.Limited
    else (x.set q ((x.get q).taken q.row.point v)).Limited := by
  obtain ⟨held, effective⟩ := h
  by_cases one : q = .tR1
  · subst one
    refine ProjParams.limited_raiseLimit ?_
    change leastLimit ((x.get .tR1).placed v).held ≤ (x.get .tR2).held
    rwa [ParamRec.held_placed]
  · rw [if_neg one]
    by_cases two : q = .tR2
    · subst two
      refine ⟨?_, ?_⟩
      · change leastLimit (x.get .tR1).held ≤ ((x.get .tR2).placed v).held
        rwa [ParamRec.held_placed]
      · change leastLimit (x.get .tR1).effective ≤ ((x.get .tR2).placed v).effective
        rw [ParamRec.effective_placed]
        exact constrained rfl
    · rw [ProjParams.Limited, get_set_ne _ _ (Ne.symm one), get_set_ne _ _ (Ne.symm two)]
      exact ⟨held, effective⟩

/-- R189 is a law of the store. -/
theorem Params.law_limited : Params.Law Params.Limited where
  power p := by cases p <;> exact ⟨by decide, by decide⟩
  promoteProj x p point h := by
    refine h.of_proj p (fun p' apart => Pair.get_set_ne _ _ apart) ?_
    rw [Pair.get_set_self]
    exact (h p).promote point
  promoteCycle _ h := h
  write s ref value h := by
    cases ref with
    | dev q => exact h
    | proj p q =>
      have written := (h p).write (q := q)
        (v := (s.constrained (.proj p q) ((ParamRef.proj p q).inRange value)).val) (by
        rintro rfl
        simp only [State.constrained]
        split <;> [exact le_rfl; omega])
      by_cases one : q = .tR1
      · subst one
        refine h.of_proj p (fun p' apart => ?_) ?_
        · exact (Pair.get_set_ne _ _ apart).trans (Pair.get_set_ne _ _ apart)
        · simpa [State.limitRaised, State.placeParam, Params.setRec, Params.recOf, ParamRef.row] using written
      · have still (t : State) : t.limitRaised (.proj p q) = (t, false) := by
          cases q <;> first | rfl | exact absurd rfl one
        rw [still]
        rw [if_neg one] at written
        refine h.of_proj p (fun p' apart => Pair.get_set_ne _ _ apart) ?_
        simpa [State.placeParam, Params.setRec, Params.recOf, ParamRef.row] using written

end Sys2Proof.Machine
end

section
/-! PROOF. The tables kept (R24, R90, R122, R137, R139, R159, R163, R184, R189): what is kept of a state, and the
updates that keep it. -/

namespace Sys2Proof

theorem Pair.forall_get_set {α : Type} {good : α → Prop} {x : Pair α} (h : ∀ p, good (x.get p)) (p : Projector) {v : α}
    (hv : good v) (q : Projector) : good ((x.set p v).get q) := by
  by_cases same : q = p
  · subst same
    rwa [Pair.get_set_self]
  · rw [Pair.get_set_ne _ _ same]
    exact h q

namespace Machine

/-- Every table but the parameter store is in range. -/
structure TablesInRange (plan : Plan) (prog : Progress) (motion : Pair Motion) (arc : Pair Arc) (lights : Lighting)
    (bus : Bus) : Prop where
  plan : EntriesInRange plan.entries
  prog : prog.InRange
  motion : ∀ p, (motion.get p).InRange
  arc : ∀ p, (arc.get p).InRange
  lights : lights.InRange
  bus : bus.InRange

/-- The store keeps a law and, where that is asked, the other tables are in range. The blocks are named one by one, so
that an update of any other block keeps this by definition. -/
def State.Tabled (law : Params → Prop) (asked : Prop) (s : State) : Prop :=
  Params.Law law ∧ law s.par ∧ (asked → TablesInRange s.plan s.prog s.motion s.arc s.lights s.bus)

namespace State

variable {law : Params → Prop} {asked : Prop} {s t : State} {p q : Projector}

theorem Tabled.store (h : s.Tabled law asked) : law s.par := h.2.1

theorem Tabled.tables (h : s.Tabled law asked) (ask : asked) :
    TablesInRange s.plan s.prog s.motion s.arc s.lights s.bus := h.2.2 ask

/-! ### The updates of the tables -/

theorem Tabled.setPlan (h : s.Tabled law asked) {x : Plan}
    (hx : EntriesInRange s.plan.entries → EntriesInRange x.entries) : (s.setPlan x).Tabled law asked :=
  ⟨h.1, h.store, fun ask => { h.tables ask with plan := hx (h.tables ask).plan }⟩

theorem Tabled.setProg (h : s.Tabled law asked) {x : Progress} (hx : asked → s.prog.InRange → x.InRange) :
    (s.setProg x).Tabled law asked :=
  ⟨h.1, h.store, fun ask => { h.tables ask with prog := hx ask (h.tables ask).prog }⟩

/-- The show moves, its timer and its clock as they were. -/
theorem Tabled.setProg_same (h : s.Tabled law asked) {x : Progress} (same : x.counts = s.prog.counts) :
    (s.setProg x).Tabled law asked := h.setProg fun _ k => k.of_counts same

/-- The show moves with its timer stopped, its clock as it was. -/
theorem Tabled.setProg_stopped (h : s.Tabled law asked) {x : Progress}
    (stopped : x.counts = (none, s.prog.clock, s.prog.tenths)) : (s.setProg x).Tabled law asked :=
  h.setProg fun _ k => Progress.inRange_of_counts stopped (by simp) k.2.1 k.2.2

/-- R162: the show clock is cleared, the timer as it was. -/
theorem Tabled.setProg_cleared (h : s.Tabled law asked) {x : Progress} (cleared : x.counts = (s.prog.timer, 0, 0)) :
    (s.setProg x).Tabled law asked :=
  h.setProg fun _ k => Progress.inRange_of_counts cleared k.1 (Nat.zero_le _) (Nat.zero_le _)

/-- R157: the timer begins at a duration, or is stopped where that is 0. -/
theorem Tabled.setProg_timed (h : s.Tabled law asked) {x : Progress} {duration : Nat}
    (short : asked → duration ≤ Config.timerLimit)
    (timed : x.counts = (if duration = 0 then none else some duration, s.prog.clock, s.prog.tenths)) :
    (s.setProg x).Tabled law asked := by
  refine h.setProg fun ask k => Progress.inRange_of_counts timed (fun n hn => ?_) k.2.1 k.2.2
  split at hn <;> cases hn
  exact short ask

theorem Tabled.setMotion (h : s.Tabled law asked) {m : Motion} (hm : (s.motionOf p).InRange → m.InRange) :
    (s.setMotion p m).Tabled law asked :=
  ⟨h.1, h.store, fun ask =>
    { h.tables ask with motion := Pair.forall_get_set (h.tables ask).motion p (hm ((h.tables ask).motion p)) }⟩

theorem Tabled.setMotion_same (h : s.Tabled law asked) {m : Motion} (same : m.ring = (s.motionOf p).ring) :
    (s.setMotion p m).Tabled law asked := h.setMotion fun k => by rwa [Motion.InRange, same]

/-- The capture ring is emptied. -/
theorem Tabled.setMotion_emptied (h : s.Tabled law asked) {m : Motion} (empty : m.ring = []) :
    (s.setMotion p m).Tabled law asked := h.setMotion fun _ => Motion.inRange_of_empty empty

theorem Tabled.setArc (h : s.Tabled law asked) {x : Arc} (hx : (s.arcOf p).InRange → x.InRange) :
    (s.setArc p x).Tabled law asked :=
  ⟨h.1, h.store, fun ask =>
    { h.tables ask with arc := Pair.forall_get_set (h.tables ask).arc p (hx ((h.tables ask).arc p)) }⟩

theorem Tabled.setArc_same (h : s.Tabled law asked) {x : Arc} (same : x.ring = (s.arcOf p).ring) :
    (s.setArc p x).Tabled law asked := h.setArc fun k => by rwa [Arc.InRange, same]

/-- R90: a bucket joins the bucket ring, and a full ring loses its oldest. -/
theorem Tabled.setArc_joined (h : s.Tabled law asked) {x : Arc} {bucket : Nat}
    (ring : x.ring = (s.arcOf p).ring.drop ((s.arcOf p).ring.length + 1 - Config.bucketRing) ++ [bucket]) :
    (s.setArc p x).Tabled law asked := by
  refine h.setArc fun k => ?_
  simp only [Arc.InRange, ring, List.length_append, List.length_drop, List.length_singleton, Config.bucketRing] at k ⊢
  omega

theorem Tabled.setLights (h : s.Tabled law asked) {x : Lighting} (hx : s.lights.InRange → x.InRange) :
    (s.setLights x).Tabled law asked :=
  ⟨h.1, h.store, fun ask => { h.tables ask with lights := hx (h.tables ask).lights }⟩

theorem Tabled.setBus (h : s.Tabled law asked) {b : Bus} (hb : s.bus.InRange → b.InRange) :
    (s.setBus b).Tabled law asked :=
  ⟨h.1, h.store, fun ask => { h.tables ask with bus := hb (h.tables ask).bus }⟩

theorem Tabled.setBus_same (h : s.Tabled law asked) {b : Bus} (same : b.table = s.bus.table) :
    (s.setBus b).Tabled law asked := h.setBus fun k => k.of_table same

theorem Tabled.promoteProj (h : s.Tabled law asked) (point : TakeEffect) : (s.promoteProj p point).Tabled law asked :=
  ⟨h.1, h.1.promoteProj _ _ _ h.store, h.tables⟩

theorem Tabled.promoteCycle (h : s.Tabled law asked) : s.promoteCycle.Tabled law asked :=
  ⟨h.1, h.1.promoteCycle _ h.store, h.tables⟩

/-! ### The updates elsewhere -/

theorem Tabled.setChan (h : s.Tabled law asked) (c : Channel) : (s.setChan p c).Tabled law asked := h

theorem Tabled.setToken (h : s.Tabled law asked) (x : Option Projector) : (s.setToken x).Tabled law asked := h

theorem Tabled.setShutter (h : s.Tabled law asked) (sh : Shutter) (x : ShutterRec) :
    (s.setShutter sh x).Tabled law asked := h

theorem Tabled.setHeat (h : s.Tabled law asked) (m : HeatMonitor) : (s.setHeat p m).Tabled law asked := h

theorem Tabled.setFire (h : s.Tabled law asked) (x : FireRec) : (s.setFire x).Tabled law asked := h

theorem Tabled.setLink (h : s.Tabled law asked) (l : Connector) (k : Link) : (s.setLink l k).Tabled law asked := h

theorem Tabled.setInputs (h : s.Tabled law asked) (x : Inputs) : (s.setInputs x).Tabled law asked := h

theorem Tabled.passTo (h : s.Tabled law asked) (n : Nat) : (s.passTo n).Tabled law asked := h

theorem Tabled.passToDue (h : s.Tabled law asked) (due : Option Nat) : (s.passToDue due).Tabled law asked := by
  cases due <;> exact h

theorem Tabled.notify (h : s.Tabled law asked) (kind : NoticeKind) (subject : Byte) (data : List Byte) :
    (s.notify kind subject data).Tabled law asked := h

theorem Tabled.freeUsed (h : s.Tabled law asked) : s.freeUsed.Tabled law asked := h

/-- The close of a step: notices that wait are handed on, and transmitters begin. -/
theorem Tabled.finish (h : s.Tabled law asked) : s.finish.Tabled law asked := by
  have handed : s.handLights.Tabled law asked :=
    List.foldlRecOn (motive := Tabled law asked) _ _ (h.setLights id) fun _ hu _ _ => hu
  exact handed

/-! ### Lighting actions and the show (R121 to R127, R154 to R162) -/

theorem Tabled.applyAction (h : s.Tabled law asked) (x : Option LightAction) (source : FadeSource) :
    (s.applyAction x source).Tabled law asked := by
  cases x with
  | none => exact h
  | some y => exact h.setLights fun k => k.act _ _ _ _ _

theorem Tabled.pictureLost (h : s.Tabled law asked) : s.pictureLost.Tabled law asked := by
  unfold State.pictureLost
  split
  · exact (h.setProg_same (by rfl)).setLights fun k => k.breakAction _ _ _ _
  · exact h

theorem Tabled.pictureRegained (h : s.Tabled law asked) : s.pictureRegained.Tabled law asked := by
  unfold State.pictureRegained
  split
  · exact (h.setProg_same (by rfl)).setLights fun k => k.restoreAction _ _
  · exact h

/-- R157: an intermission's timer is the duration of its entry. -/
theorem Tabled.showPictureEnd (h : s.Tabled law asked) (i : Nat) {brk : BreakAfter}
    (known : asked → brk.inRange = true) : (s.showPictureEnd i brk).Tabled law asked := by
  unfold State.showPictureEnd
  split
  · cases brk with
    | absent => exact h
    | intermission duration action =>
      have short (ask : asked) : duration ≤ Config.timerLimit := by
        have ranged := known ask
        simp only [BreakAfter.inRange, Bool.and_eq_true, decide_eq_true_eq] at ranged
        exact ranged.1.trans (by decide)
      exact ((h.setProg_timed short (by rfl)).applyAction _ _).notify _ _ _
    | ending action => exact ((h.setProg_same (by rfl)).applyAction _ _).notify _ _ _
  · exact h

/-- R162: a rollover clears the clock and brings back the DONE entries. -/
theorem Tabled.decideRollover (h : s.Tabled law asked) : s.decideRollover.Tabled law asked := by
  have planned : (s.setPlan { s.plan with
      passNumber := min (s.plan.passNumber + 1) 255
      entries := s.plan.entries.map fun e => if e.state = .done then e.renewed else e }).Tabled law asked :=
    h.setPlan fun k => k.map fun e => by split <;> rfl
  unfold State.decideRollover
  split
  · exact Tabled.notify (planned.setProg_cleared (by rfl)) _ _ _
  · exact h

/-- R161: the exhaustion test. -/
theorem Tabled.testExhausted (h : s.Tabled law asked) (atReelDone : Bool) :
    (s.testExhausted atReelDone).Tabled law asked := by
  have ended (x : Progress) (data : List Byte) (stopped : x.counts = (none, s.prog.clock, s.prog.tenths)) :
      ((s.setProg x).notify .showEnd (indexByte s.prog.lastDone) data).decideRollover.Tabled law asked :=
    ((Tabled.setProg_stopped h stopped).notify _ _ _).decideRollover
  unfold State.testExhausted
  split
  · split
    · exact ended _ _ (by rfl)
    · exact ended _ _ (by rfl)
    · exact ended _ _ (by rfl)
    · split <;> [exact h.decideRollover; exact h]
    · exact h
    · exact h
  · exact h

/-- R154: what SHW does with a START_SHOW. -/
theorem Tabled.showStarted (h : s.Tabled law asked) (byPanel : Bool) : (s.showStarted byPanel).Tabled law asked := by
  unfold State.showStarted
  dsimp only
  split
  · exact h.setProg_same (by rfl)
  · exact (h.setProg_same (by rfl)).setLights fun k => k.restoreAction _ _
  · split
    · split
      · exact Tabled.setProg_stopped (h.notify _ _ _) (by rfl)
      · exact Tabled.freeUsed (Tabled.setProg_stopped (h.notify _ _ _) (by rfl))
    · exact h.setProg_stopped (by rfl)
  all_goals exact h

end State

end Machine

end Sys2Proof
end

section
/-! PROOF. The changeover keeps the tables (R41 to R73). -/

namespace Sys2Proof.Machine.State

variable {law : Params → Prop} {asked : Prop} {s t : State} {p q : Projector}

/-! ### Halts and motor starts (R49 to R51, R69, R70) -/

theorem Tabled.setEntryState (h : s.Tabled law asked) (i : Nat) (x : EntryState) :
    (s.setEntryState i x).Tabled law asked :=
  h.setPlan fun k => EntriesInRange.modify k i (f := fun e => { e with state := x }) fun _ => rfl

theorem Tabled.setLinkedState (h : s.Tabled law asked) (x : EntryState) : (s.setLinkedState p x).Tabled law asked := by
  unfold State.setLinkedState
  split <;> [exact h.setEntryState _ x; exact h]

theorem Tabled.stopMotor (h : s.Tabled law asked) : (s.stopMotor p).Tabled law asked :=
  Tabled.setMotion_emptied (h.setChan _) (by rfl)

theorem Tabled.halt (h : s.Tabled law asked) (cause : HaltCause) : (s.halt p cause).Tabled law asked := by
  have halted : (s.toHalted p).Tabled law asked := h.stopMotor.setChan _
  have noticed {t : State} (ht : t.Tabled law asked) : (t.haltNotice p cause s).Tabled law asked := by
    cases cause <;> exact ht
  unfold State.halt
  split
  · dsimp only
    split <;> split
    · exact (noticed (halted.setToken none)).pictureLost
    · exact (noticed halted).pictureLost
    · exact noticed (halted.setToken none)
    · exact noticed halted
  · exact h

theorem Tabled.disarmChannel (h : s.Tabled law asked) : (s.disarmChannel p).Tabled law asked :=
  (h.setLinkedState _).setChan _

theorem Tabled.makeSafe (h : s.Tabled law asked) (cause : HaltCause) : (s.makeSafe p cause).Tabled law asked := by
  unfold State.makeSafe
  split <;> [exact h.disarmChannel; exact h.halt cause]

/-- R51, R188: a motor start promotes the NEXT_START values and empties the ring. -/
theorem Tabled.motorRuns (h : s.Tabled law asked) : (s.motorRuns p).Tabled law asked :=
  Tabled.setMotion_emptied (((h.promoteProj .nextStart).setLinkedState .running).setChan _) (by rfl)

theorem Tabled.filmAtStart (h : s.Tabled law asked) : (s.filmAtStart p).Tabled law asked := by
  unfold State.filmAtStart
  split <;> [exact h; exact h.halt _]

theorem Tabled.startMotor (h : s.Tabled law asked) : (s.startMotor p).Tabled law asked := h.motorRuns.filmAtStart

theorem Tabled.lateStart (h : s.Tabled law asked) : (s.lateStart p).Tabled law asked := by
  unfold State.lateStart
  split <;> [exact h.startMotor; exact h]

/-! ### The picture (R58 to R68) -/

theorem Tabled.positionTo (h : s.Tabled law asked) : (s.positionTo p).Tabled law asked := h.setProg_same (by rfl)

theorem Tabled.applyStart (h : s.Tabled law asked) : (s.applyStart p).Tabled law asked := h.applyAction _ _

theorem Tabled.swap (h : s.Tabled law asked) (kind : SwapKind) : (s.swap p q kind).Tabled law asked := by
  have noticed : ((((s.leaveScreen p false).takeScreen q).positionTo q).swapNotice p q kind s).Tabled law asked := by
    have positioned : (((s.leaveScreen p false).takeScreen q).positionTo q).Tabled law asked :=
      Tabled.positionTo (((h.setChan _).setChan _).setToken _)
    cases kind <;> exact positioned.notify _ _ _
  have swapped := noticed.applyStart (p := q)
  unfold State.swap
  dsimp only
  split <;> [exact swapped.pictureRegained; exact swapped]

theorem Tabled.openScreen (h : s.Tabled law asked) : (s.openScreen p).Tabled law asked :=
  Tabled.lateStart (((h.setChan _).setToken _).setChan _)

theorem Tabled.recover (h : s.Tabled law asked) : (s.recover p).Tabled law asked :=
  ((((h.setChan _).setToken _).positionTo.notify _ _ _).pictureRegained).lateStart

theorem Tabled.becomesReady (h : s.Tabled law asked) : (s.becomesReady p).Tabled law asked := by
  unfold State.becomesReady
  split
  · split <;> [exact h.swap _; exact h]
  · split <;> [exact h.openScreen; split <;> [exact h.recover; exact h]]

theorem Tabled.speedReached (h : s.Tabled law asked) : (s.speedReached p).Tabled law asked := by
  have noticed (c : Channel) (data : List Byte) : ((s.setChan p c).notify .atSpeed p.code data).Tabled law asked :=
    (h.setChan c).notify _ _ _
  unfold State.speedReached
  split
  · dsimp only
    split <;> [exact (noticed _ _).becomesReady; exact noticed _ _]
  · exact h

/-- R43, R64, R65: a report that a picture condition has changed. -/
theorem Tabled.conditionsReported (h : s.Tabled law asked) : (s.conditionsReported p).Tabled law asked := by
  have dark : (s.goDark p).Tabled law asked := (h.setChan _).pictureLost
  have lit : (s.leaveDark p).Tabled law asked := ((h.setChan _).notify _ _ _).pictureRegained
  unfold State.conditionsReported
  dsimp only
  split
  · split <;> [exact h; exact dark]
  · split <;> [exact lit; exact h]
  · split <;> [exact h.becomesReady; exact h]
  all_goals exact h

/-! ### Cues (R53 to R59, R62) -/

/-- R3, R6: the break of a linked entry is in range. -/
theorem Tabled.brk_inRange (h : s.Tabled law asked) {e : Entry} (linked : s.entryOf p = some e) (ask : asked) :
    e.brk.inRange = true := by
  obtain ⟨i, -, at_i⟩ := Option.bind_eq_some_iff.mp linked
  have ranged := (h.tables ask).plan e (List.mem_of_getElem? at_i)
  simp only [Entry.inRange, Bool.and_eq_true] at ranged
  exact ranged.2

theorem Tabled.pictureEnd (h : s.Tabled law asked) : (s.pictureEnd p).Tabled law asked := by
  have left : ((s.leaveScreen p (s.chanOf p).deferred).setToken none).Tabled law asked := (h.setChan _).setToken none
  unfold State.pictureEnd
  dsimp only
  split
  · next linked => exact left.showPictureEnd _ (h.brk_inRange linked)
  · exact left

theorem Tabled.reelEnds (h : s.Tabled law asked) : (s.reelEnds p).Tabled law asked := by
  unfold State.reelEnds
  split
  · exact h.pictureEnd
  · exact (((h.setChan _).setToken none).notify _ _ _).pictureLost

theorem Tabled.takeMotorCue (h : s.Tabled law asked) (cause : CueCause) :
    (s.takeMotorCue p cause).Tabled law asked := by
  have taken (c : Channel) (data : List Byte) : ((s.setChan p c).notify .cueMotor p.code data).Tabled law asked :=
    (h.setChan c).notify _ _ _
  unfold State.takeMotorCue
  dsimp only
  split
  · exact taken _ _
  · split
    · split
      · exact (taken _ _).startMotor
      · exact taken _ _
      · exact taken _ _
      all_goals exact (taken _ _).notify _ _ _
    · exact (taken _ _).notify _ _ _

theorem Tabled.defer (h : s.Tabled law asked) : (s.defer p).Tabled law asked := by
  have deferred : (s.modChan p fun c => { c with deferred := true }).Tabled law asked := h.setChan _
  unfold State.defer
  dsimp only
  split
  · split <;> [exact deferred.startMotor; exact deferred]
  · exact deferred

theorem Tabled.takeChange (h : s.Tabled law asked) (cause : CueCause) : (s.takeChange p cause).Tabled law asked := by
  have taken (c : Channel) (data : List Byte) : ((s.setChan p c).notify .cueChange p.code data).Tabled law asked :=
    (h.setChan c).notify _ _ _
  unfold State.takeChange
  dsimp only
  split
  · exact (taken _ _).pictureEnd
  · split
    · split <;> [exact (taken _ _).swap _; exact (taken _ _).defer]
    · exact (taken _ _).defer

theorem Tabled.foilEvent (h : s.Tabled law asked) : (s.foilEvent p).Tabled law asked := by
  have counted : (s.modChan p fun c => { c with foilCount := min (c.foilCount + 1) 255 }).Tabled law asked :=
    h.setChan _
  unfold State.foilEvent
  dsimp only
  split
  · exact counted
  · split
    · exact counted
    all_goals
      split <;> [skip; split]
      · exact counted.takeMotorCue _
      · exact counted.takeChange _
      · exact counted.notify _ _ _

theorem Tabled.footagePoint (h : s.Tabled law asked) (x : FootagePoint) : (s.footagePoint p x).Tabled law asked := by
  have missing (which : Byte) : (s.foilMissing p which).Tabled law asked := h.notify _ _ _
  unfold State.footagePoint
  dsimp only
  split
  · exact h
  · cases x <;> dsimp only
    · split <;> [exact h.takeMotorCue _; exact h]
    · split <;> [exact (missing 0).takeMotorCue _; exact h]
    · split <;> [exact h.takeChange _; exact h]
    · split <;> [exact (missing 1).takeChange _; exact h]
    · exact h.reelEnds
    · exact h

/-! ### The end of a reel (R72, R73) -/

theorem Tabled.finishReel (h : s.Tabled law asked) : (s.finishReel p).Tabled law asked := by
  unfold State.finishReel
  dsimp only
  split
  · exact h
  · next i _ =>
    refine Tabled.testExhausted (Tabled.setProg_same (Tabled.notify (Tabled.setPlan ?_ ?_) _ _ _) (by rfl)) _
    · exact h.setChan _
    · exact fun k => k.modify i fun _ => rfl

theorem Tabled.reelDone (h : s.Tabled law asked) : (s.reelDone p).Tabled law asked := by
  unfold State.reelDone
  split <;> [exact h.stopMotor.finishReel; exact h]

end Sys2Proof.Machine.State
end

section
/-! PROOF. Arcs, shutters, heat and fire keep the tables (R78 to R117). -/

namespace Sys2Proof.Machine.State

variable {law : Params → Prop} {asked : Prop} {s t : State} {p q : Projector}

/-! ### Arcs (R78 to R96) -/

theorem Tabled.arcTo (h : s.Tabled law asked) (new : ArcState) (cause : ArcCause) :
    (s.arcTo p new cause).Tabled law asked :=
  Tabled.conditionsReported (Tabled.notify (h.setArc_same (by rfl)) _ _ _)

theorem Tabled.putOut (h : s.Tabled law asked) (cause : ArcCause) : (s.putOut p cause).Tabled law asked := by
  unfold State.putOut
  split <;> [exact h; exact h.arcTo _ _]

theorem Tabled.exhaustArc (h : s.Tabled law asked) : (s.exhaustArc p).Tabled law asked := (h.notify _ _ _).arcTo _ _

theorem Tabled.failStrike (h : s.Tabled law asked) : (s.failStrike p).Tabled law asked := (h.notify _ _ _).arcTo _ _

theorem Tabled.beginStrike (h : s.Tabled law asked) : (s.beginStrike p).Tabled law asked :=
  Tabled.conditionsReported (Tabled.notify (h.setArc_same (by rfl)) _ _ _)

theorem Tabled.testTouch (h : s.Tabled law asked) : (s.testTouch p).Tabled law asked := by
  unfold State.testTouch
  split <;> [exact h.setArc_same (by rfl); exact h]

/-- R82, R83: a new arc begins with an empty bucket ring. -/
theorem Tabled.endDraw (h : s.Tabled law asked) : (s.endDraw p).Tabled law asked := by
  unfold State.endDraw
  split
  · split
    · exact Tabled.arcTo (h.setArc fun _ => Nat.zero_le _) _ _
    · exact h.exhaustArc
  · exact h.failStrike

/-- R90, R92: a completed bucket joins the ring, and the running check follows. -/
theorem Tabled.completeBucket (h : s.Tabled law asked) : (s.completeBucket p).Tabled law asked := by
  unfold State.completeBucket State.runningCheck
  dsimp only
  split
  · exact Tabled.setArc_same (Tabled.notify (h.setArc_joined (by rfl)) _ _ _) (by rfl)
  · exact h.setArc_joined (by rfl)

theorem Tabled.regulate (h : s.Tabled law asked) : (s.regulate p).Tabled law asked := by
  have fed : (s.feed p).Tabled law asked := h.setArc_same (by rfl)
  have counted {t : State} (ht : t.Tabled law asked) : (t.countInterval p).Tabled law asked := by
    unfold State.countInterval
    split <;> [exact ht.completeBucket; exact ht.setArc_same (by rfl)]
  unfold State.regulate
  dsimp only
  split
  · exact h.arcTo _ _
  · split
    · exact fed.exhaustArc
    · split
      · exact Tabled.arcTo (fed.setArc_same (by rfl)) _ _
      · exact counted (fed.setArc_same (by rfl))

theorem Tabled.stubChanged (h : s.Tabled law asked) : (s.stubChanged p).Tabled law asked := by
  unfold State.stubChanged
  split <;> [exact h.exhaustArc; exact h]

/-! ### Shutters (R99 to R106) -/

theorem Tabled.shutterTo (h : s.Tabled law asked) (sh : Shutter) (new : ShutterState) (cause : ShutterCause) :
    (s.shutterTo sh new cause).Tabled law asked := by
  have moved : ((s.placeShutter sh new cause).shutterNotice sh (s.shutterOf sh).state).Tabled law asked :=
    Tabled.notify (h.setShutter _ _) _ _ _
  unfold State.shutterTo
  dsimp only
  split <;> [exact moved.conditionsReported; exact moved]

/-! ### Heat and fire (R107 to R117) -/

theorem Tabled.dropForFire (h : s.Tabled law asked) (sh : Shutter) : (s.dropForFire sh).Tabled law asked := by
  unfold State.dropForFire
  split <;> [exact h.shutterTo _ _ _; exact h]

/-- R112: fire entry stops the fades and the intermission timer. -/
theorem Tabled.fireEntry (h : s.Tabled law asked) (x : Source) : (s.fireEntry x).Tabled law asked := by
  have halted : (((s.setFire ⟨true, some x, [x], some s.prog.clock, true⟩).makeSafe .a .fire).makeSafe .b
      .fire).Tabled law asked := ((h.setFire _).makeSafe _).makeSafe _
  have dropped {t : State} (ht : t.Tabled law asked) :
      (shutterOrder.foldl (fun u sh => u.dropForFire sh) t).Tabled law asked :=
    List.foldlRecOn (motive := Tabled law asked) _ _ ht fun _ hu sh _ => hu.dropForFire sh
  exact (Tabled.putOut (dropped (Tabled.notify (Tabled.setProg_stopped
    (halted.setLights fun _ => Lighting.InRange.enterEmergency _) (by rfl)) _ _ _)) _).putOut _

theorem Tabled.fireSource (h : s.Tabled law asked) (x : Source) : (s.fireSource x).Tabled law asked := by
  unfold State.fireSource
  split
  · split <;> [exact h; exact (h.setFire _).notify _ _ _]
  · exact h.fireEntry x

theorem Tabled.compareHeat (h : s.Tabled law asked) : (s.compareHeat p).Tabled law asked := by
  unfold State.compareHeat
  dsimp only
  split
  · split <;> [exact h.setHeat _; exact h]
  · split <;> exact h.setHeat _
  · split <;> exact h.setHeat _
  · exact h.setHeat _

theorem Tabled.stage1TimerTest (h : s.Tabled law asked) : (s.stage1TimerTest p).Tabled law asked := by
  rcases stage1TimerTest_cases s p with ⟨-, same⟩ | ⟨-, acts⟩
  · rwa [same]
  · rw [acts]
    exact Tabled.makeSafe ((h.setHeat _).notify _ _ _) _

theorem Tabled.dousedTimerTest (h : s.Tabled law asked) : (s.dousedTimerTest p).Tabled law asked := by
  rcases dousedTimerTest_cases s p with ⟨-, same⟩ | ⟨-, trips⟩
  · rwa [same]
  · rw [trips]
    exact Tabled.fireSource (h.setHeat _) _

theorem Tabled.fireCleared (h : s.Tabled law asked) : s.fireCleared.Tabled law asked := by
  have lit : ((((s.setFire ⟨false, none, [], none, false⟩).calmHeat .a).calmHeat .b).setLights
      s.lights.endEmergency).Tabled law asked :=
    Tabled.setLights (Tabled.setHeat (Tabled.setHeat (h.setFire _) _) _) fun k => k
  have shown (x : ShowState) := (lit.setProg_same (x := { s.prog with state := x }) rfl).conditionsReported (p := .a)
  exact (shown _).conditionsReported.notify _ _ _

end Sys2Proof.Machine.State
end

section
/-! PROOF. Every request keeps the tables (R9 to R19, R45 to R76, R80 to R102, R115, R123, R145 to R149, R160, R172,
R179, R186). -/

namespace Sys2Proof.Machine.State

variable {law : Params → Prop} {asked : Prop} {s t : State} {p q : Projector}

/-! ### The plan (R9 to R16) -/

theorem Tabled.setEntries (h : s.Tabled law asked) {entries : List Entry}
    (ranged : EntriesInRange s.plan.entries → EntriesInRange entries) : (s.setEntries entries).Tabled law asked :=
  h.setPlan ranged

theorem Tabled.releaseChannel (h : s.Tabled law asked) (i : Nat) : (s.releaseChannel i).Tabled law asked := by
  unfold State.releaseChannel
  split
  · split <;> [exact h.setChan _; exact h]
  · exact h

theorem Tabled.relink (h : s.Tabled law asked) (f : Nat → Option Nat) : (s.relink f).Tabled law asked :=
  ((h.setProg_same (by rfl)).setChan _).setChan _

theorem plan_releaseChannel (s : State) (i : Nat) : (s.releaseChannel i).plan = s.plan :=
  releaseChannel_changes s i .plan (by simp)

theorem Tabled.planWrite (h : s.Tabled law asked) (i : Nat) (x : EntryForm) :
    (planWriteAnswer i x s).state.Tabled law asked := by
  unfold planWriteAnswer
  split
  · exact h
  · split
    · exact h
    · dsimp only
      split
      · exact ((h.releaseChannel i).setEntries fun k =>
          (plan_releaseChannel s i ▸ k).set i (takeEntry_inRange _ _ _ _ _ _)).testExhausted _
      · exact h

theorem Tabled.planSkip (h : s.Tabled law asked) (i : Nat) : (planSkipAnswer i s).state.Tabled law asked := by
  unfold planSkipAnswer
  split
  · exact h
  · next e at_i =>
    have skipped : EntriesInRange (s.releaseChannel i).plan.entries →
        EntriesInRange (s.plan.entries.set i { e with state := .skipped }) := fun k => by
      rw [plan_releaseChannel] at k
      exact k.set i (k e (List.mem_of_getElem? at_i))
    split
    · exact h
    · exact h
    · exact h
    · exact h
    all_goals
      dsimp only
      split <;> [exact ((h.releaseChannel i).setEntries skipped).testExhausted _; exact h]

theorem Tabled.planInsert (h : s.Tabled law asked) (i : Nat) (x : EntryForm) :
    (planInsertAnswer i x s).state.Tabled law asked := by
  unfold planInsertAnswer
  split <;> [exact h; skip]
  split <;> [exact h; skip]
  split <;> [exact h; skip]
  dsimp only
  split
  · exact (h.setEntries fun k => k.insertIdx i (takeEntry_inRange _ _ _ _ _ _)).relink _
  · exact h

theorem Tabled.planDelete (h : s.Tabled law asked) (i : Nat) : (planDeleteAnswer i s).state.Tabled law asked := by
  unfold planDeleteAnswer
  split
  · exact h
  · split
    · exact h
    · dsimp only
      split
      · exact (((h.releaseChannel i).setEntries fun k =>
          (plan_releaseChannel s i ▸ k).eraseIdx i).relink _).testExhausted _
      · exact h

theorem Tabled.releaseForRestart (h : s.Tabled law asked) : (s.releaseForRestart p).Tabled law asked := by
  unfold State.releaseForRestart
  split <;> [exact h.setChan _; exact h]

theorem Tabled.planHeader (h : s.Tabled law asked) (count : Nat) :
    (planHeaderAnswer count s).state.Tabled law asked := by
  have counted : (s.setPlan { s.plan with repeatCount := count }).Tabled law asked := h.setPlan id
  change (s.writeHeader count).Tabled law asked
  unfold State.writeHeader
  dsimp only
  split
  · exact Tabled.setProg_cleared (counted.releaseForRestart.releaseForRestart.setPlan fun k =>
      k.map fun e => by split <;> rfl) (by rfl)
  · exact counted

/-! ### The channels (R45 to R76) -/

theorem Tabled.threadedAnswer (h : s.Tabled law asked) (label : Byte) :
    (threadedAnswer label p s).state.Tabled law asked := by
  have declared (i : Nat) : (s.declareThreaded p i).Tabled law asked :=
    Tabled.setArc_same (Tabled.setMotion_same (Tabled.setChan (h.setEntryState i _) _) (by rfl)) (by rfl)
  unfold Machine.threadedAnswer
  split
  · split <;> exact h
  · split
    · exact h
    · split <;> [exact h; split <;> [exact h; exact declared _]]

theorem Tabled.unlinkPending (h : s.Tabled law asked) : (s.unlinkPending p).Tabled law asked :=
  (h.setLinkedState _).setChan _

theorem Tabled.unthreadAnswer (h : s.Tabled law asked) : (unthreadAnswer p s).state.Tabled law asked := by
  unfold Machine.unthreadAnswer
  split <;> first
    | exact h
    | exact h.unlinkPending

theorem Tabled.armAnswer (h : s.Tabled law asked) : (armAnswer p s).state.Tabled law asked := by
  have armed : (s.armChannel p).Tabled law asked := Tabled.lateStart ((h.setLinkedState _).setChan _)
  unfold Machine.armAnswer
  split
  · split <;> [exact h; exact armed]
  all_goals exact h

theorem Tabled.disarmAnswer (h : s.Tabled law asked) : (disarmAnswer p s).state.Tabled law asked := by
  unfold Machine.disarmAnswer
  split <;> first
    | exact h
    | exact h.disarmChannel

theorem Tabled.stopAnswer (h : s.Tabled law asked) : (stopAnswer p s).state.Tabled law asked := by
  unfold Machine.stopAnswer
  split <;> first
    | exact h
    | exact h.halt _

theorem Tabled.clearAnswer (h : s.Tabled law asked) : (clearAnswer p s).state.Tabled law asked := by
  have cleared : (s.clearChannel p).Tabled law asked := by
    unfold State.clearChannel
    split
    · exact h.finishReel
    · split
      · exact h.disarmChannel.testExhausted _
      · exact h.unlinkPending.testExhausted _
  unfold Machine.clearAnswer
  split <;> [exact cleared; exact h]

theorem Tabled.startOn (h : s.Tabled law asked) (byPanel : Bool) : (s.startOn byPanel q).Tabled law asked := by
  have opened : (s.openShow byPanel q).Tabled law asked := Tabled.applyStart ((h.showStarted byPanel).setChan _)
  unfold State.startOn
  dsimp only
  split
  · exact opened.motorRuns.positionTo.filmAtStart
  · split <;> [exact opened.positionTo.openScreen; exact opened.positionTo]

theorem Tabled.startShowAnswer (h : s.Tabled law asked) : (startShowAnswer s).state.Tabled law asked := by
  unfold Machine.startShowAnswer
  split <;> [exact h.startOn true; exact h]

theorem Tabled.changeNowAnswer (h : s.Tabled law asked) : (changeNowAnswer s).state.Tabled law asked := by
  unfold Machine.changeNowAnswer
  split <;> [exact h.swap _; exact h]

theorem inRange_unprepared (e : Entry) : (unprepared e).inRange = e.inRange := by
  unfold unprepared
  split <;> rfl

/-- R76: booth reset clears the rings, the timer and the clock. -/
theorem Tabled.boothResetAnswer (h : s.Tabled law asked) : (boothResetAnswer s).state.Tabled law asked := by
  have rested {t : State} (ht : t.Tabled law asked) (p : Projector) : (t.resetChannel p).Tabled law asked :=
    ht.stopMotor.setChan _
  have emptied : (((s.resetChannel .a).resetChannel .b).setToken none).Tabled law asked :=
    (rested (rested h .a) .b).setToken none
  unfold Machine.boothResetAnswer
  split
  · exact h
  · refine Tabled.testExhausted (Tabled.setProg (Tabled.putOut (Tabled.putOut (emptied.setPlan ?_) _) _) ?_) false
    · exact fun k => k.map inRange_unprepared
    · exact fun _ _ => ⟨by simp, by simp, by simp⟩

/-! ### Arcs, shutters, fire and lights (R80, R93, R100, R102, R115, R123) -/

theorem Tabled.strikeAnswer (h : s.Tabled law asked) : (strikeAnswer p s).state.Tabled law asked := by
  unfold Machine.strikeAnswer
  split <;> [exact h; split <;> [exact h; split <;> [exact h; exact h.beginStrike]]]

theorem Tabled.carbonLoadAnswer (h : s.Tabled law asked) (length : Nat) :
    (carbonLoadAnswer length p s).state.Tabled law asked := by
  have loaded (n : Nat) : (s.loadCarbon p n).Tabled law asked := by
    unfold State.loadCarbon
    dsimp only
    split <;> [exact h.setArc_same (by rfl); exact Tabled.arcTo (h.setArc_same (by rfl)) _ _]
  unfold Machine.carbonLoadAnswer
  split <;> first
    | exact h
    | exact loaded _

theorem Tabled.shutterRaiseAnswer (h : s.Tabled law asked) (sh : Shutter) :
    (shutterRaiseAnswer sh s).state.Tabled law asked := by
  unfold Machine.shutterRaiseAnswer
  split <;> first
    | exact h
    | split <;> [exact h; exact h.shutterTo _ _ _]

theorem Tabled.shutterDropAnswer (h : s.Tabled law asked) (sh : Shutter) :
    (shutterDropAnswer sh s).state.Tabled law asked := by
  unfold Machine.shutterDropAnswer
  split <;> first
    | exact h
    | exact h.shutterTo _ _ _

theorem Tabled.fireResetAnswer (h : s.Tabled law asked) : (fireResetAnswer s).state.Tabled law asked := by
  unfold Machine.fireResetAnswer
  split <;> [exact h; split <;> [exact h; split <;> [exact h; exact h.fireCleared]]]

theorem Tabled.lightsAnswer (h : s.Tabled law asked) (mask level : Byte) (fade : Half) :
    (lightsAnswer mask level fade s).state.Tabled law asked := by
  unfold Machine.lightsAnswer
  split
  · exact h
  · dsimp only
    split <;> [exact h; exact (h.applyAction _ _).freeUsed]

/-! ### The dimmer bus (R145 to R149) -/

theorem Tabled.busResetAnswer (h : s.Tabled law asked) : (busResetAnswer s).state.Tabled law asked := by
  unfold Machine.busResetAnswer
  split <;> [exact h.setBus id; exact h]

theorem Tabled.packReadAnswer (h : s.Tabled law asked) (a : Byte) : (packReadAnswer a s).state.Tabled law asked := by
  unfold Machine.packReadAnswer
  split <;> [exact h; split <;> exact h]

theorem Tabled.packWriteAnswer (h : s.Tabled law asked) (a g top : Byte) :
    (packWriteAnswer a g top s).state.Tabled law asked := by
  unfold Machine.packWriteAnswer
  split
  · exact h
  · exact h.setBus fun k => k.modPack _ fun _ _ _ => ⟨rfl, rfl⟩

theorem Tabled.packForgetAnswer (h : s.Tabled law asked) (a : Byte) :
    (packForgetAnswer a s).state.Tabled law asked := by
  unfold Machine.packForgetAnswer
  split
  · exact h
  · split
    · exact h
    · exact h.setBus fun k => ⟨k.1.sublist List.filter_sublist, k.2⟩

/-! ### Parameters, links and the intermission timer (R160, R172, R179, R182, R186 to R190) -/

theorem Tabled.paramActs (h : s.Tabled law asked) (x : ParamRef) : (s.paramActs x).Tabled law asked := by
  unfold State.paramActs
  split
  · exact h.testTouch
  · exact h.stubChanged
  · exact h.compareHeat
  · exact h.stage1TimerTest.stage1TimerTest
  · exact h.dousedTimerTest.dousedTimerTest
  all_goals exact h

/-- R186, R189: a write reaches the store as the law has it. -/
theorem Tabled.paramWriteAnswer (h : s.Tabled law asked) (value : Half) (x : Option ParamRef) :
    (paramWriteAnswer value x s).state.Tabled law asked := by
  cases x with
  | none => exact h
  | some ref =>
    have written : ((s.placeParam ref (s.constrained ref (ref.inRange value.toNat)).val).limitRaised ref).1.Tabled law
        asked := by
      refine ⟨h.1, h.1.write s ref value.toNat h.store, fun ask => ?_⟩
      have tables := h.tables ask
      unfold State.limitRaised
      split <;> exact tables
    exact written.paramActs ref

theorem Tabled.paramReadAnswer (h : s.Tabled law asked) (x : Option ParamRef) :
    (paramReadAnswer x s).state.Tabled law asked := by cases x <;> exact h

theorem Tabled.routeReadAnswer (h : s.Tabled law asked) (k : Byte) : (routeReadAnswer k s).state.Tabled law asked := by
  unfold Machine.routeReadAnswer
  split <;> exact h

theorem Tabled.routeWriteAnswer (h : s.Tabled law asked) (mask k : Byte) :
    (routeWriteAnswer mask k s).state.Tabled law asked := by
  unfold Machine.routeWriteAnswer
  split <;> exact h

/-- R160: an extension is held at the longest timer. -/
theorem Tabled.intermissionExtendAnswer (h : s.Tabled law asked) (seconds : Half) :
    (intermissionExtendAnswer seconds s).state.Tabled law asked := by
  unfold Machine.intermissionExtendAnswer
  split
  · refine h.setProg fun _ k => ⟨fun n hn => ?_, k.2⟩
    cases hn
    exact min_le_right _ _
  · exact h

theorem Tabled.identAnswer (h : s.Tabled law asked) (l : Connector) (role : Byte) :
    (identAnswer l role s).state.Tabled law asked := by
  unfold Machine.identAnswer
  split <;> [exact h; split <;> [exact h; split <;> [exact h; exact (h.setLink _ _).notify _ _ _]]]

theorem Tabled.statusAnswer (h : s.Tabled law asked) (sect : Byte) : (statusAnswer sect s).state.Tabled law asked := by
  unfold Machine.statusAnswer
  split <;> exact h

theorem Tabled.planReadAnswer (h : s.Tabled law asked) (i : Byte) : (planReadAnswer i s).state.Tabled law asked := by
  unfold Machine.planReadAnswer
  split <;> [exact h; split <;> exact h]

/-! ### Every request -/

theorem Tabled.screen {α : Type} {owner : α → State → Answer} (h : s.Tabled law asked)
    (owns : ∀ x, (owner x s).state.Tabled law asked) (l : Connector) (subject : Option α) (rights : Rights α) :
    (screen l subject rights owner s).state.Tabled law asked := by
  unfold Machine.screen
  split
  · exact h
  · split <;> [exact h; split <;> [exact owns _; exact h]]

theorem Tabled.requestAnswer (h : s.Tabled law asked) (l : Connector) (r : Request) :
    (requestAnswer l r s).state.Tabled law asked := by
  cases r with
  | ident role => exact h.identAnswer l role
  | status sect => exact h.screen (fun _ => h.statusAnswer sect) _ _ _
  | planRead i => exact h.screen (fun _ => h.planReadAnswer i) _ _ _
  | planWrite i x => exact h.screen (fun _ => h.planWrite i.toNat x) _ _ _
  | planInsert i x => exact h.screen (fun _ => h.planInsert i.toNat x) _ _ _
  | planDelete i => exact h.screen (fun _ => h.planDelete i.toNat) _ _ _
  | planSkip i => exact h.screen (fun _ => h.planSkip i.toNat) _ _ _
  | planHeader n => exact h.screen (fun _ => h.planHeader n.toNat) _ _ _
  | threaded p label => exact h.screen (fun _ => h.threadedAnswer label) _ _ _
  | unthread p => exact h.screen (fun _ => h.unthreadAnswer) _ _ _
  | arm p => exact h.screen (fun _ => h.armAnswer) _ _ _
  | disarm p => exact h.screen (fun _ => h.disarmAnswer) _ _ _
  | stop p => exact h.screen (fun _ => h.stopAnswer) _ _ _
  | clear p => exact h.screen (fun _ => h.clearAnswer) _ _ _
  | startShow => exact h.screen (fun _ => h.startShowAnswer) _ _ _
  | changeNow => exact h.screen (fun _ => h.changeNowAnswer) _ _ _
  | strike p => exact h.screen (fun _ => h.strikeAnswer) _ _ _
  | arcOff p => exact h.screen (fun _ => h.putOut _) _ _ _
  | carbonLoad p n => exact h.screen (fun _ => h.carbonLoadAnswer n.toNat) _ _ _
  | shutterRaise sh => exact h.screen (fun x => h.shutterRaiseAnswer x) _ _ _
  | shutterDrop sh => exact h.screen (fun x => h.shutterDropAnswer x) _ _ _
  | lights mask level fade => exact h.screen (fun _ => h.lightsAnswer mask level fade) _ _ _
  | fireReset => exact h.screen (fun _ => h.fireResetAnswer) _ _ _
  | boothReset => exact h.screen (fun _ => h.boothResetAnswer) _ _ _
  | busReset => exact h.screen (fun _ => h.busResetAnswer) _ _ _
  | packRead a => exact h.screen (fun _ => h.packReadAnswer a) _ _ _
  | packWrite a g top => exact h.screen (fun _ => h.packWriteAnswer a g top) _ _ _
  | packForget a => exact h.screen (fun _ => h.packForgetAnswer a) _ _ _
  | paramRead x p => exact h.screen (fun x => h.paramReadAnswer x) _ _ _
  | paramWrite x p v => exact h.screen (fun x => h.paramWriteAnswer v x) _ _ _
  | routeRead k => exact h.screen (fun _ => h.routeReadAnswer k) _ _ _
  | routeWrite k mask => exact h.screen (fun _ => h.routeWriteAnswer mask k) _ _ _
  | intermissionExtend n => exact h.screen (fun _ => h.intermissionExtendAnswer n) _ _ _

end Sys2Proof.Machine.State
end

section
/-! PROOF. Every step keeps the tables: frames and bytes, film motion, the dimmer bus, the timers of the show, and each
command of the table. -/

namespace Sys2Proof.Machine

namespace State

variable {law : Params → Prop} {asked : Prop} {s t : State} {p q : Projector}

/-! ### Requests, frames and bytes (R168 to R176) -/

theorem Tabled.takeRequest (h : s.Tabled law asked) {answer : State → Answer} (l : Connector) (kind : Byte)
    (params : List Byte) (owns : ∀ t : State, t.Tabled law asked → (answer t).state.Tabled law asked) :
    (s.takeRequest l kind params answer).Tabled law asked := by
  unfold State.takeRequest
  split
  · exact h
  · split
    · exact h.setLink _ _
    · exact Tabled.setLink (owns _ (h.setLink _ _)) _ _

theorem Tabled.request (h : s.Tabled law asked) (l : Connector) (r : Request) : (s.request l r).Tabled law asked :=
  h.takeRequest l _ _ fun _ ht => ht.requestAnswer l r

theorem Tabled.frame (h : s.Tabled law asked) (l : Connector) (kind : Byte) (params : List Byte) :
    (s.frame l kind params).Tabled law asked := by
  unfold State.frame
  split
  · exact h.request l _
  · refine h.takeRequest l _ _ fun t ht => ?_
    unfold malformedAnswer
    split <;> exact ht

theorem Tabled.modLink (h : s.Tabled law asked) (l : Connector) (f : Link → Link) :
    (s.modLink l f).Tabled law asked := h

theorem Tabled.checkFrame (h : s.Tabled law asked) (l : Connector) (assembly : List Byte) :
    (s.checkFrame l assembly).Tabled law asked := by
  unfold State.checkFrame
  split
  · dsimp only
    split <;> [exact (h.modLink l _).frame l _ _; exact h.modLink l _]
  · exact h.modLink l _

theorem Tabled.receiveByte (h : s.Tabled law asked) (l : Connector) (b : Byte) (framingError : Bool) :
    (s.receiveByte l b framingError).Tabled law asked := by
  have lengthByte : (s.lengthByte l b).Tabled law asked := by
    unfold State.lengthByte
    split <;> exact h.modLink l _
  have bodyByte : (s.bodyByte l b).Tabled law asked := by
    unfold State.bodyByte
    dsimp only
    split <;> [exact h.modLink l _; exact h.checkFrame l _]
  unfold State.receiveByte
  split
  · split <;> [exact h.modLink l _; exact h]
  · split <;> [exact h.modLink l _; exact lengthByte]
  · split <;> [exact h.modLink l _; exact bodyByte]
  · exact h

theorem Tabled.gap (h : s.Tabled law asked) (l : Connector) : (s.gap l).Tabled law asked := by
  unfold State.gap
  split <;> exact h

theorem Tabled.linkReset (h : s.Tabled law asked) (l : Connector) : (s.linkReset l).Tabled law asked := by
  unfold State.linkReset
  dsimp only
  split <;> [exact (h.setLink l _).notify _ _ _; exact h.setLink l _]

theorem Tabled.markReturns (h : s.Tabled law asked) (l : Connector) : (s.markReturns l).Tabled law asked := by
  unfold State.markReturns
  split <;> [exact h.modLink l _; exact h]

theorem Tabled.frameSent (h : s.Tabled law asked) (l : Connector) : (s.frameSent l).Tabled law asked := by
  unfold State.frameSent
  split <;> exact h

theorem Tabled.frameBody (h : s.Tabled law asked) (l : Connector) (body : List Byte) :
    (s.frameBody l body).Tabled law asked := by
  unfold State.frameBody
  split
  · exact h
  · split
    · exact h.modLink l _
    · split <;> [exact h.frame l _ _; exact h.modLink l _]

/-! ### Film motion (R23 to R36) -/

theorem Tabled.testSpeed (h : s.Tabled law asked) : (s.testSpeed p).Tabled law asked := by
  have tested : (s.modMotion p fun m => { m with atSpeed := s.speedTest p }).Tabled law asked :=
    h.setMotion_same (by rfl)
  unfold State.testSpeed
  dsimp only
  split <;> [exact Tabled.speedReached (tested.setMotion_same (by rfl)); exact tested]

theorem Tabled.tryPoint (h : s.Tabled law asked) (x : FootagePoint) : (s.tryPoint p x).Tabled law asked := by
  unfold State.tryPoint
  split <;> [exact Tabled.footagePoint (h.setMotion_same (by rfl)) x; exact h]

theorem Tabled.testPoints (h : s.Tabled law asked) : (s.testPoints p).Tabled law asked := by
  have tried (points : List FootagePoint) : (points.foldl (State.tryPoint p) s).Tabled law asked :=
    List.foldlRecOn (motive := Tabled law asked) _ _ h fun _ hu x _ => hu.tryPoint x
  have tail : (s.tryTailEnd p).Tabled law asked := by
    unfold State.tryTailEnd
    split <;> [exact Tabled.reelDone (h.setMotion_same (by rfl)); exact h]
  unfold State.testPoints
  split <;> first
    | exact h
    | exact tried _
    | exact tail

/-- R23, R24: an accepted pulse is captured at a period of 100 counts or more. -/
theorem Tabled.pulse (h : s.Tabled law asked) : (s.pulse p).Tabled law asked := by
  have counted {t : State} (ht : t.Tabled law asked) : (t.countFrame p).Tabled law asked := by
    unfold State.countFrame
    split <;> [exact Tabled.testPoints (ht.setMotion_same (by rfl)); exact ht]
  unfold State.pulse
  split
  · exact h
  · next accepted =>
    have captured : (s.capturePulse p).Tabled law asked := h.setMotion fun k => k.captured (not_lt.mp accepted) rfl
    exact counted captured.testSpeed

theorem Tabled.foilActivation (h : s.Tabled law asked) : (s.foilActivation p).Tabled law asked := by
  unfold State.foilActivation
  split <;> [exact Tabled.foilEvent (h.setMotion_same (by rfl)); exact h]

theorem Tabled.filmGone (h : s.Tabled law asked) : (s.filmGone p).Tabled law asked := by
  unfold State.filmGone
  split <;> first
    | exact h
    | exact h.halt _
    | exact h.reelDone

/-! ### The show clock and the intermission timer (R159, R163) -/

theorem Tabled.timerExpires (h : s.Tabled law asked) : s.timerExpires.Tabled law asked := by
  have stopped : (s.setProg { s.prog with timer := none }).Tabled law asked := h.setProg_stopped (by rfl)
  unfold State.timerExpires
  dsimp only
  split
  · split <;> [exact Tabled.startOn (stopped.notify _ _ _) false; exact stopped.notify _ _ _]
  · exact stopped.notify _ _ _

theorem Tabled.timerFalls (h : s.Tabled law asked) : s.timerFalls.Tabled law asked := by
  refine h.setProg fun _ k => ⟨fun n hn => ?_, k.2⟩
  obtain ⟨m, hm, rfl⟩ := Option.map_eq_some_iff.mp hn
  have most := k.1 m hm
  split <;> omega

theorem Tabled.clockTenth (h : s.Tabled law asked) : s.clockTenth.Tabled law asked := by
  unfold State.clockTenth
  split
  · next more => exact h.setProg fun _ k => ⟨k.1, k.2.1, Nat.le_of_lt_succ more⟩
  · exact h.setProg fun _ k => ⟨k.1, min_le_right _ _, Nat.zero_le _⟩

/-! ### The dimmer bus (R136 to R146) -/

theorem Tabled.fadeStep (h : s.Tabled law asked) : s.fadeStep.Tabled law asked := by
  refine List.foldlRecOn (motive := Tabled law asked) _ _ h fun t ht g _ => ?_
  have stepped : (t.setLights (t.lights.setGroup g (t.lights.groupAt g).stepped)).Tabled law asked :=
    ht.setLights fun k => k.setGroup g (k g).stepped
  unfold State.fadeStepOn
  dsimp only
  split <;> exact stepped

theorem Tabled.cycleStart (h : s.Tabled law asked) : s.cycleStart.Tabled law asked :=
  Tabled.setBus (Tabled.promoteCycle (h.passTo _)).fadeStep fun k => (k.cycleBegins _ _).cyclePlanned

theorem Tabled.sendPacket (h : s.Tabled law asked) : s.sendPacket.Tabled law asked := by
  unfold State.sendPacket
  dsimp only
  split
  · exact h
  · split
    · exact h
    · split
      · exact h.setBus_same (by rfl)
      · exact h.setBus fun k => k.modPack _ fun _ _ _ => ⟨rfl, rfl⟩

theorem Tabled.modBus_replace (h : s.Tabled law asked) {x y : Pack} (member : x ∈ s.bus.packs)
    (same : (y.address, y.serial) = (x.address, x.serial)) :
    (s.modBus fun b => b.modPack x.address fun _ => y).Tabled law asked :=
  h.setBus fun k => k.replace member (congrArg Prod.fst same) (congrArg Prod.snd same)

theorem Tabled.windowEnds (h : s.Tabled law asked) (reply : List Byte) : (s.windowEnds reply).Tabled law asked := by
  have closed : (s.setBus { s.bus with window := none, out := [] }).Tabled law asked := h.setBus_same (by rfl)
  unfold State.windowEnds
  split
  · exact h
  · dsimp only
    split
    · exact closed
    · next x found =>
      have rewritten (y : Pack) := closed.modBus_replace (Bus.packAt_address found).1 (y := y)
      split
      · unfold State.packAnswers
        dsimp only
        split <;> [exact rewritten _ (by rfl); exact (rewritten _ (by rfl)).notify _ _ _]
      · unfold State.packMisses
        dsimp only
        split <;> [exact (rewritten _ (by rfl)).notify _ _ _; exact rewritten _ (by rfl)]

theorem Tabled.roundAnswered (h : s.Tabled law asked) (contenders : List Serial) (ack : List Byte) :
    (s.roundAnswered contenders ack).Tabled law asked := by
  have assigned : (s.modBus fun b => { b with
      out := [assignMessage (readSerial contenders) (s.bus.addressFor (readSerial contenders))] }).Tabled law asked :=
    h.setBus_same (by rfl)
  unfold State.roundAnswered
  dsimp only
  split
  · unfold State.roundWon
    split
    · next x known =>
      obtain ⟨member, -⟩ := Bus.packOf_serial known
      exact (assigned.modBus_replace member (by rfl)).notify _ _ _
    · next new =>
      split
      · next free => exact Tabled.notify (assigned.setBus fun k => k.insertFresh new free) _ _ _
      · exact Tabled.notify (assigned.setBus_same (by rfl)) _ _ _
  · unfold State.roundVoid
    dsimp only
    split <;> [exact assigned; exact assigned.setBus_same (by rfl)]

theorem Tabled.countRound (h : s.Tabled law asked) (answered : Bool) : (s.countRound answered).Tabled law asked := by
  have counted : (s.modBus fun b => { b with rounds := b.rounds + 1 }).Tabled law asked := h.setBus_same (by rfl)
  have enumerated (complete : Bool) :
      ((s.modBus fun b => { b with rounds := b.rounds + 1 }).enumerated complete).Tabled law asked :=
    Tabled.notify (counted.setBus_same (by rfl)) _ _ _
  unfold State.countRound
  split
  · dsimp only
    split <;> [exact enumerated _; split <;> [exact enumerated _; exact counted]]
  · exact h

theorem Tabled.roundEnds (h : s.Tabled law asked) (contenders : List Serial) (ack : List Byte) :
    (s.roundEnds contenders ack).Tabled law asked := by
  have due : (s.modBus fun b => { b with roundDue := false, out := [] }).Tabled law asked := h.setBus_same (by rfl)
  unfold State.roundEnds
  split
  · dsimp only
    split <;> [exact due.countRound _; exact (due.roundAnswered _ _).countRound _]
  · exact h

theorem Tabled.breakEnds (h : s.Tabled law asked) : s.breakEnds.Tabled law asked := by
  unfold State.breakEnds
  split <;> [exact Tabled.setBus_same (h.passTo _) (by rfl); exact h]

/-! ### Power-on (R118) -/

theorem tabled_poweredUp (lawful : Params.Law law) (asked : Prop) (s : State) : s.poweredUp.Tabled law asked := by
  refine ⟨lawful, lawful.power, fun _ => ⟨?_, ?_, ?_, ?_, ?_, ?_⟩⟩
  · intro e he
    cases he
  · exact ⟨by simp [poweredUp, State.reset], Nat.zero_le _, Nat.zero_le _⟩
  · intro p
    cases p <;> exact Motion.inRange_of_empty rfl
  · intro p
    cases p <;> exact Nat.zero_le _
  · intro g
    cases g <;> exact GroupRec.inRange_of_still rfl
  · exact ⟨⟨nofun, List.nodup_nil, List.nodup_nil⟩, Nat.zero_le _⟩

theorem Tabled.testFireInput (h : s.Tabled law asked) (x : FireInput) : (s.testFireInput x).Tabled law asked := by
  unfold State.testFireInput
  split <;> [exact h.fireSource _; exact h]

end State

/-! ### Each command -/

/-- An outcome whose next state, where it has one, keeps the tables. -/
abbrev EndsTabled (law : Params → Prop) (asked : Prop) (o : Host.Outcome State Fault Refusal) : Prop :=
  ∀ t, o = .next t → t.Tabled law asked

section

variable {law : Params → Prop} {asked : Prop} {s : State} (h : s.Tabled law asked)

include h

theorem endsTabled_completed : EndsTabled law asked s.completed := by
  intro t ht
  cases ht
  exact h.finish

theorem endsTabled_ringTimeout (p : Projector) : EndsTabled law asked (execRingTimeout p s) := by
  unfold execRingTimeout
  split <;> [exact endsTabled_completed (h.setMotion_emptied (by rfl)); exact endsTabled_completed h]

theorem endsTabled_stallTimeout (p : Projector) : EndsTabled law asked (execStallTimeout p s) := by
  unfold execStallTimeout
  split
  · exact endsTabled_completed h
  · split
    · exact endsTabled_completed (State.Tabled.halt (h.setMotion_same (by rfl)) _)
    · exact endsTabled_completed h

theorem endsTabled_foilInputChange (p : Projector) (active : Bool) :
    EndsTabled law asked (execFoilInputChange p active s) := by
  unfold execFoilInputChange
  split
  · exact endsTabled_completed h
  · dsimp only
    split <;> first
      | exact endsTabled_completed (State.Tabled.setMotion_same (h.setInputs _) (by rfl))
      | exact endsTabled_completed (h.setInputs _)

theorem endsTabled_foilQualifyExpiry (p : Projector) : EndsTabled law asked (execFoilQualifyExpiry p s) := by
  unfold execFoilQualifyExpiry
  split
  · exact endsTabled_completed (State.Tabled.foilActivation (State.Tabled.setMotion_same (h.passToDue _) (by rfl)))
  · exact endsTabled_completed h

theorem endsTabled_foilReleaseExpiry (p : Projector) : EndsTabled law asked (execFoilReleaseExpiry p s) := by
  unfold execFoilReleaseExpiry
  split
  · exact endsTabled_completed (State.Tabled.setMotion_same (h.passToDue _) (by rfl))
  · exact endsTabled_completed h

theorem endsTabled_filmSwitchChange (p : Projector) (closed : Bool) :
    EndsTabled law asked (execFilmSwitchChange p closed s) := by
  unfold execFilmSwitchChange
  split
  · exact endsTabled_completed h
  · exact endsTabled_completed (State.Tabled.setMotion_same (h.setInputs _) (by rfl))

theorem endsTabled_filmFilterExpiry (p : Projector) : EndsTabled law asked (execFilmFilterExpiry p s) := by
  unfold execFilmFilterExpiry
  split
  · exact endsTabled_completed h
  · split
    · dsimp only
      split
      · exact endsTabled_completed (State.Tabled.filmGone (h.setMotion_same (by rfl)))
      · exact endsTabled_completed (h.setMotion_same (by rfl))
    · exact endsTabled_completed h

theorem endsTabled_runupStage1Expiry (p : Projector) : EndsTabled law asked (execRunupStage1Expiry p s) := by
  unfold execRunupStage1Expiry
  split
  · exact endsTabled_completed (State.Tabled.setChan ((h.passToDue _).notify _ _ _) _)
  · exact endsTabled_completed h

theorem endsTabled_runupStage2Expiry (p : Projector) : EndsTabled law asked (execRunupStage2Expiry p s) := by
  unfold execRunupStage2Expiry
  split <;> [exact endsTabled_completed ((h.passToDue _).halt _); exact endsTabled_completed h]

theorem endsTabled_touchTimerExpiry (p : Projector) : EndsTabled law asked (execTouchTimerExpiry p s) := by
  unfold execTouchTimerExpiry
  split <;> [exact endsTabled_completed (h.passToDue _).failStrike; exact endsTabled_completed h]

theorem endsTabled_drawTimerExpiry (p : Projector) (voltage : Byte) :
    EndsTabled law asked (execDrawTimerExpiry p voltage s) := by
  unfold execDrawTimerExpiry
  split
  · exact endsTabled_completed (State.Tabled.endDraw ((h.passToDue _).setInputs _))
  · exact endsTabled_completed h

/-- R84, R188: an interval promotes the NEXT_INTERVAL values. -/
theorem endsTabled_regulationInterval (p : Projector) (voltage : Byte) :
    EndsTabled law asked (execRegulationInterval p voltage s) := by
  have sensed : ((((s.passTo (s.arcOf p).regulationDue).modArc p fun x => { x with
      regulationDue := (s.arcOf p).regulationDue + Config.regulationCounts }).promoteProj p .nextInterval).senseVoltage
        p voltage).Tabled law asked :=
    State.Tabled.setInputs (State.Tabled.promoteProj (State.Tabled.setArc_same (h.passTo _) (by rfl)) _) _
  unfold execRegulationInterval
  dsimp only
  split
  · exact endsTabled_completed (State.Tabled.regulate (sensed.setArc_same (by rfl)))
  · exact endsTabled_completed sensed

theorem endsTabled_strikeElapsedTick (p : Projector) : EndsTabled law asked (execStrikeElapsedTick p s) := by
  unfold execStrikeElapsedTick
  split <;> [exact endsTabled_completed (h.setArc_same (by rfl)); exact endsTabled_completed h]

theorem endsTabled_openSenseChange (sh : Shutter) (made : Bool) :
    EndsTabled law asked (execOpenSenseChange sh made s) := by
  unfold execOpenSenseChange
  dsimp only
  split <;> first
    | exact endsTabled_completed ((h.setInputs _).shutterTo _ _ _)
    | exact endsTabled_completed (h.setInputs _)

theorem endsTabled_closedSenseChange (sh : Shutter) (made : Bool) :
    EndsTabled law asked (execClosedSenseChange sh made s) := by
  unfold execClosedSenseChange
  dsimp only
  split <;> first
    | exact endsTabled_completed ((h.setInputs _).shutterTo _ _ _)
    | exact endsTabled_completed (h.setInputs _)

theorem endsTabled_raiseTimeout (sh : Shutter) : EndsTabled law asked (execRaiseTimeout sh s) := by
  unfold execRaiseTimeout
  split <;> [exact endsTabled_completed ((h.passToDue _).shutterTo _ _ _); exact endsTabled_completed h]

theorem endsTabled_dropTimeout (sh : Shutter) : EndsTabled law asked (execDropTimeout sh s) := by
  unfold execDropTimeout
  split <;> [exact endsTabled_completed ((h.passToDue _).shutterTo _ _ _); exact endsTabled_completed h]

theorem endsTabled_intermissionExpiry : EndsTabled law asked (execIntermissionExpiry s) := by
  unfold execIntermissionExpiry
  split
  · split <;> [exact endsTabled_completed h.timerExpires; exact endsTabled_completed h.timerFalls]
  · exact endsTabled_completed h

theorem endsTabled_showClockTick : EndsTabled law asked (execShowClockTick s) := by
  unfold execShowClockTick
  split <;> [exact endsTabled_completed h.clockTenth; exact endsTabled_completed h]

/-- Every command keeps the tables. -/
theorem endsTabled_exec (c : Instr) : EndsTabled law asked (exec c s) := by
  cases c with
  | powerOn =>
    have heated := (State.tabled_poweredUp h.1 asked s).compareHeat (p := .a) |>.compareHeat (p := .b)
    exact endsTabled_completed (((heated.testFireInput .pull1).testFireInput .pull2).testFireInput .loop)
  | frameReceived l body => exact endsTabled_completed (h.frameBody l body)
  | interbyteGapTimeout l => exact endsTabled_completed (h.gap l)
  | linkBreak l => exact endsTabled_completed (h.linkReset l)
  | linkMarkReturn l => exact endsTabled_completed (h.markReturns l)
  | transmitFrameEnd l => exact endsTabled_completed (h.frameSent l)
  | unknownRequestKind l kind rest => exact endsTabled_completed (h.frameBody l (kind :: rest))
  | byteReceived l b framingError => exact endsTabled_completed (h.receiveByte l b framingError)
  | ident | status | planRead | planWrite | planInsert | planDelete | planSkip | planHeader | threaded | unthread
  | arm | disarm | stop | clear | startShow | changeNow | boothReset | strike | arcOff | carbonLoad | shutterRaise
  | shutterDrop | fireReset | lights | busReset | packRead | packWrite | packForget | paramRead | paramWrite
  | routeRead | routeWrite | intermissionExtend => exact endsTabled_completed (h.request _ _)
  | tachPulse p instant => exact endsTabled_completed (h.passTo instant).pulse
  | ringTimeout p => exact endsTabled_ringTimeout h p
  | stallTimeout p => exact endsTabled_stallTimeout h p
  | foilInputChange p active => exact endsTabled_foilInputChange h p active
  | foilQualifyExpiry p => exact endsTabled_foilQualifyExpiry h p
  | foilReleaseExpiry p => exact endsTabled_foilReleaseExpiry h p
  | filmSwitchChange p closed => exact endsTabled_filmSwitchChange h p closed
  | filmFilterExpiry p => exact endsTabled_filmFilterExpiry h p
  | runupStage1Expiry p => exact endsTabled_runupStage1Expiry h p
  | runupStage2Expiry p => exact endsTabled_runupStage2Expiry h p
  | arcCurrentChange p current => exact endsTabled_completed (h.setInputs _).testTouch
  | touchTimerExpiry p => exact endsTabled_touchTimerExpiry h p
  | drawTimerExpiry p voltage => exact endsTabled_drawTimerExpiry h p voltage
  | regulationInterval p voltage => exact endsTabled_regulationInterval h p voltage
  | strikeElapsedTick p => exact endsTabled_strikeElapsedTick h p
  | openSenseChange sh made => exact endsTabled_openSenseChange h sh made
  | closedSenseChange sh made => exact endsTabled_closedSenseChange h sh made
  | raiseTimeout sh => exact endsTabled_raiseTimeout h sh
  | dropTimeout sh => exact endsTabled_dropTimeout h sh
  | heatReadingChange p reading => exact endsTabled_completed (h.setInputs _).compareHeat
  | heatStage1Expiry p => exact endsTabled_completed h.stage1TimerTest
  | dousedWaitExpiry p => exact endsTabled_completed h.dousedTimerTest
  | heatStageTimerTick p => exact endsTabled_completed (h.setHeat _)
  | fireSourceOpen x => exact endsTabled_completed ((h.setInputs _).fireSource _)
  | fireSourceClose x => exact endsTabled_completed (h.setInputs _)
  | keySwitchChange turnedOn => exact endsTabled_completed (h.setInputs _)
  | dimmerCycleStart => exact endsTabled_completed h.cycleStart
  | busBreakEnd => exact endsTabled_completed h.breakEnds
  | levelPacketSent => exact endsTabled_completed h.sendPacket
  | levelReplyWindowEnd reply => exact endsTabled_completed (h.windowEnds reply)
  | identifyRoundEnd contenders ack => exact endsTabled_completed (h.roundEnds contenders ack)
  | intermissionTimerTick => exact endsTabled_completed h.timerFalls
  | intermissionExpiry => exact endsTabled_intermissionExpiry h
  | showClockTick => exact endsTabled_showClockTick h

end

/-- A step on an empty queue moves the motion count alone; any other runs the command at the front. -/
theorem State.Tabled.step {law : Params → Prop} {asked : Prop} {s t : State} (h : s.Tabled law asked)
    (ran : step s = .next t) : t.Tabled law asked := by
  unfold Machine.step at ran
  split at ran
  · cases ran
    exact h.passTo _
  · next c rest _ => exact endsTabled_exec (s := { s with pending := rest }) h c t ran

/-! ### The laws and the tables -/

theorem paramLaw_iff (s : State) : s.paramLaw ↔ s.par.InRange := by
  have listedProj (q : ProjParam) : q ∈ ProjParam.all := by cases q <;> decide
  have listedDev (q : DevParam) : q ∈ DevParam.all := by cases q <;> decide
  constructor
  · rintro ⟨proj, dev⟩ ref
    cases ref with
    | proj p q => exact proj p (by cases p <;> simp) q (listedProj q)
    | dev q => exact dev q (listedDev q)
  · exact fun h => ⟨fun p _ q _ => h (.proj p q), fun q _ => h (.dev q)⟩

theorem limitLaw_iff (s : State) : s.limitLaw ↔ s.par.Limited :=
  ⟨fun h p => h p (by cases p <;> simp), fun h p _ => h p⟩

theorem tablesLaw_iff (s : State) :
    s.rangeLaw ∧ s.fadeLaw ∧ s.packLaw ∧ s.countLaw ↔
      TablesInRange s.plan s.prog s.motion s.arc s.lights s.bus := by
  constructor
  · rintro ⟨ranges, fades, ⟨within, addresses, serials, -⟩, rings, timer, clock, tenths, pointer⟩
    have ring (p : Projector) := rings p (by cases p <;> simp)
    exact ⟨ranges, ⟨timer, clock, tenths⟩, fun p => ⟨(ring p).1, (ring p).2.1⟩, fun p => (ring p).2.2,
      fun g => fades g (by cases g <;> decide), ⟨⟨within, addresses, serials⟩, pointer⟩⟩
  · rintro ⟨ranges, ⟨timer, clock, tenths⟩, motion, arc, fades, packs, pointer⟩
    exact ⟨ranges, fun g _ => fades g, ⟨packs.within, packs.addresses, packs.serials, packs.length_le⟩,
      fun p _ => ⟨(motion p).1, (motion p).2, arc p⟩, timer, clock, tenths, pointer⟩

/-- Settles O58: the ranges of the store by themselves, and R189's law of the store with the other tables. -/
theorem tablesLawKept : Obligations.TablesLawKept := by
  refine ⟨fun s t params ran => ?_, fun s t ranges laws ran => ?_⟩
  · have h : s.Tabled Params.InRange False := ⟨Params.law_inRange, (paramLaw_iff s).mp params, False.elim⟩
    exact (paramLaw_iff t).mpr (h.step ran).store
  · obtain ⟨fades, packs, limits, counts⟩ := laws
    have h : s.Tabled Params.Limited True :=
      ⟨Params.law_limited, (limitLaw_iff s).mp limits, fun _ => (tablesLaw_iff s).mp ⟨ranges, fades, packs, counts⟩⟩
    have kept := h.step ran
    obtain ⟨-, fades', packs', counts'⟩ := (tablesLaw_iff t).mpr (kept.tables trivial)
    exact ⟨fades', packs', (limitLaw_iff t).mpr kept.store, counts'⟩

end Sys2Proof.Machine
end

section
/-! PROOF. Film motion: the rules that conclude `runs` of a command on one motion record, and the footage points (R30,
R31). -/

namespace Sys2Proof.Machine

/-! ### A motion record written -/

@[simp] theorem Pair.set_set {α : Type} (x : Pair α) (p : Projector) (v w : α) : (x.set p v).set p w = x.set p w := by
  cases p <;> rfl

@[simp] theorem Pair.set_get {α : Type} (x : Pair α) (p : Projector) : x.set p (x.get p) = x := by cases p <;> rfl

@[simp] theorem State.setMotion_setMotion (s : State) (p : Projector) (m m' : Motion) :
    (s.setMotion p m).setMotion p m' = s.setMotion p m' := by
  simp [State.setMotion]

@[simp] theorem State.setMotion_motionOf (s : State) (p : Projector) : s.setMotion p (s.motionOf p) = s := by
  simp [State.setMotion, State.motionOf]

/-- A command that leaves one motion record, and hands nothing to LNK before what comes `after`. -/
theorem runs_setMotion {c : Instr} {s t : State} {p : Projector} {m : Motion} {blocks : List Block}
    {effect : State → Prop} {after : State → State} (ran : exec c s = .next (after (t.setMotion p m)).finish)
    (before : changesOnly blocks s t) (links : ∀ l, Block.link l ∉ blocks) (does : effect (t.setMotion p m)) :
    runs c s [] (.motion p :: blocks) effect after := by
  refine ⟨t.setMotion p m, ran, notified_nil fun l => before (.link l) (links l), does, ?_⟩
  have sub : blocks ⊆ everyLink ++ .motion p :: blocks := fun b hb => by simp [hb]
  exact (before.mono sub).andThen (setMotion_changes t p m) (by simp)

/-- What a command leaves says as much of any effect, and what comes after as much of any operation, that agrees with it
on a state that the command leaves. -/
theorem runs.congr {c : Instr} {s : State} {notices : List Notice} {blocks : List Block} {effect effect' : State → Prop}
    {after after' : State → State} (ran : runs c s notices blocks effect after)
    (agree : ∀ u, changesOnly (everyLink ++ blocks) s u → effect u → effect' u ∧ after u = after' u) :
    runs c s notices blocks effect' after' := by
  obtain ⟨u, next, sent, does, changes⟩ := ran
  obtain ⟨does', same⟩ := agree u changes does
  exact ⟨u, same ▸ next, sent, does', changes⟩

/-! ### The footage points (R30, R31) -/

/-- R30: the conditions of the footage points of an entry at a frame count, for a guard and a tail allowance. -/
def Entry.pointHolds (e : Entry) (frames guard tail : Nat) : FootagePoint → Bool
  | .motor => decide (e.feet * 16 - frames ≤ e.lead)
  | .motorGuard => decide (e.feet * 16 - frames + guard ≤ e.lead)
  | .change => decide (e.feet * 16 - frames ≤ e.allowance)
  | .changeGuard =>
    if guard < e.allowance then decide (e.feet * 16 - frames + guard ≤ e.allowance)
    else decide (e.feet * 16 - frames = 0)
  | .reelEnd => decide (e.feet * 16 - frames = 0)
  | .tailEnd => decide (e.feet * 16 + tail ≤ frames)

namespace State

variable {s : State} {p : Projector} {e : Entry}

theorem pointReached_eq (linked : s.entryOf p = some e) (x : FootagePoint) :
    s.pointReached p x = e.pointHolds (s.motionOf p).frames (s.held p .guard) (s.held p .tailAllowance) x := by
  unfold pointReached
  rw [linked]
  cases x with
  | motor | change | reelEnd | tailEnd => rfl
  | motorGuard =>
    refine decide_eq_decide.mpr ?_
    have reel : e.frames = e.feet * 16 := rfl
    omega
  | changeGuard =>
    have reel : e.frames = e.feet * 16 := rfl
    by_cases room : s.held p .guard < e.allowance
    · simp only [Entry.pointHolds, if_pos room, ← Bool.decide_or, ← reel]
      refine decide_eq_decide.mpr ?_
      omega
    · simp only [Entry.pointHolds, if_neg room, ← Bool.decide_or, ← reel]
      refine decide_eq_decide.mpr ?_
      omega

theorem tryPoint_eq (s : State) (p : Projector) (x : FootagePoint) :
    s.tryPoint p x =
      if (s.chanOf p).state.holding = true ∧ x ∉ (s.motionOf p).raised ∧ s.pointReached p x = true then
        (s.setMotion p { s.motionOf p with raised := (s.motionOf p).raised ++ [x] }).footagePoint p x
      else s := by
  simp [tryPoint, and_assoc]

theorem tryTailEnd_eq (s : State) (p : Projector) :
    s.tryTailEnd p =
      if .tailEnd ∉ (s.motionOf p).raised ∧ s.pointReached p .tailEnd = true then
        (s.setMotion p { s.motionOf p with raised := (s.motionOf p).raised ++ [.tailEnd] }).reelDone p
      else s := by
  simp [tryTailEnd]

/-- R30, R31: which points are tested in which state. -/
theorem testPoints_holding (h : (s.chanOf p).state.holding = true) :
    s.testPoints p =
      [FootagePoint.motor, .motorGuard, .change, .changeGuard, .reelEnd].foldl (fun t x => t.tryPoint p x) s := by
  unfold testPoints
  cases state : (s.chanOf p).state <;> simp_all [ChannelState.holding]

theorem testPoints_tail (h : (s.chanOf p).state = .tail) : s.testPoints p = s.tryTailEnd p := by
  unfold testPoints
  rw [h]

theorem testPoints_elsewhere (off : (s.chanOf p).state.holding = false) (away : (s.chanOf p).state ≠ .tail) :
    s.testPoints p = s := by
  unfold testPoints
  cases state : (s.chanOf p).state <;> simp_all [ChannelState.holding]

end State

/-- Settles O33: the conditions of R30 for the linked entry, then the points tested in each state of the channel. -/
theorem footagePointsRaised : Obligations.FootagePointsRaised := by
  intro p e s linked m r g holds raised
  have reached (x : FootagePoint) : s.pointReached p x = holds x := by
    cases x <;> exact State.pointReached_eq linked _
  refine ⟨fun x => ?_, State.testPoints_holding, fun tail => ?_, State.testPoints_elsewhere⟩
  · exact reached x ▸ s.tryPoint_eq p x
  · exact (State.testPoints_tail tail).trans (reached .tailEnd ▸ s.tryTailEnd_eq p)

end Sys2Proof.Machine
end

section
/-! PROOF. The timeouts of the tachometer (R24, R36), the film switch and its filter (R34, R35), and the cue foils (R32,
R33). -/

namespace Sys2Proof.Machine

variable {p : Projector} {s : State}

/-! ### Pulses missing (R24, R36) -/

theorem ringTimeout_early (early : s.motionCount < (s.motionOf p).pulseRef + 65535) : idles (.ringTimeout p) s :=
  if_neg early.not_ge

theorem ringTimeout_due (due : (s.motionOf p).pulseRef + 65535 ≤ s.motionCount) :
    runs (.ringTimeout p) s [] [.motion p] fun t =>
      t.motionOf p = { s.motionOf p with ring := [], atSpeed := false } :=
  runs_setMotion (if_pos due) (changesOnly_refl _ s) (by simp) (State.motionOf_setMotion_self _ p _)

theorem execStallTimeout_watching {last : Nat} (watch : (s.motionOf p).stallWatch = some last) :
    execStallTimeout p s =
      if last + s.held p .stallTime ≤ s.motionCount then
        ((s.setMotion p { s.motionOf p with stallWatch := none }).halt p .stall).completed
      else s.completed := by
  unfold execStallTimeout
  rw [watch]
  rfl

theorem stallTimeout_unwatched (off : (s.motionOf p).stallWatch = none) : idles (.stallTimeout p) s := by
  change execStallTimeout p s = s.completed
  rw [execStallTimeout, off]

theorem stallTimeout_early {last : Nat} (watch : (s.motionOf p).stallWatch = some last)
    (early : s.motionCount < last + s.held p .stallTime) : idles (.stallTimeout p) s :=
  (execStallTimeout_watching watch).trans (if_neg early.not_ge)

theorem stallTimeout_due {last : Nat} (watch : (s.motionOf p).stallWatch = some last)
    (due : last + s.held p .stallTime ≤ s.motionCount) :
    runs (.stallTimeout p) s [] [.motion p] (fun t => t.motionOf p = { s.motionOf p with stallWatch := none })
      fun t => t.halt p .stall :=
  runs_setMotion ((execStallTimeout_watching watch).trans (if_pos due)) (changesOnly_refl _ s) (by simp)
    (State.motionOf_setMotion_self _ p _)

/-! ### Film present (R34, R35) -/

theorem filmSwitchChange_same {closed : Bool} (same : s.inputs.filmClosed.get p = closed) :
    idles (.filmSwitchChange p closed) s := if_pos same

theorem filmSwitchChange_new {closed : Bool} (new : s.inputs.filmClosed.get p ≠ closed) :
    runs (.filmSwitchChange p closed) s [] [.motion p, .inputs] fun t =>
      t.inputs = { s.inputs with filmClosed := s.inputs.filmClosed.set p closed } ∧
        t.motionOf p = { s.motionOf p with filmDue := some (s.motionCount + 500) } :=
  runs_setMotion (if_neg new) (setInputs_changes s _) (by simp) ⟨rfl, State.motionOf_setMotion_self _ p _⟩

theorem State.filmGone_eq (s : State) (p : Projector) :
    s.filmGone p =
      let state := (s.chanOf p).state
      if state = .starting ∨ state = .ready ∨ state = .onScreen ∨ state = .dark then s.halt p .filmBreak
      else if state = .tail then s.reelDone p
      else s := by
  unfold State.filmGone
  cases (s.chanOf p).state <;> rfl

theorem execFilmFilterExpiry_filtering {due : Nat} (filter : (s.motionOf p).filmDue = some due) :
    execFilmFilterExpiry p s =
      if due ≤ s.motionCount then
        let level := s.inputs.filmClosed.get p
        let t := s.setMotion p { s.motionOf p with filmClosed := level, filmDue := none }
        (if (s.motionOf p).filmClosed = true ∧ level = false then t.filmGone p else t).completed
      else s.completed := by
  unfold execFilmFilterExpiry
  rw [filter]
  cases (s.motionOf p).filmClosed <;> cases s.inputs.filmClosed.get p <;> rfl

theorem filmFilterExpiry_unfiltered (off : (s.motionOf p).filmDue = none) : idles (.filmFilterExpiry p) s := by
  change execFilmFilterExpiry p s = s.completed
  rw [execFilmFilterExpiry, off]

theorem filmFilterExpiry_early {due : Nat} (filter : (s.motionOf p).filmDue = some due) (early : s.motionCount < due) :
    idles (.filmFilterExpiry p) s :=
  (execFilmFilterExpiry_filtering filter).trans (if_neg early.not_ge)

theorem filmFilterExpiry_due {due : Nat} (filter : (s.motionOf p).filmDue = some due) (passed : due ≤ s.motionCount) :
    runs (.filmFilterExpiry p) s [] [.motion p]
      (fun t => t.motionOf p = { s.motionOf p with filmClosed := s.inputs.filmClosed.get p, filmDue := none })
      fun t => if (s.motionOf p).filmClosed = true ∧ s.inputs.filmClosed.get p = false then t.filmGone p else t :=
  runs_setMotion ((execFilmFilterExpiry_filtering filter).trans (if_pos passed)) (changesOnly_refl _ s) (by simp)
    (State.motionOf_setMotion_self _ p _)

/-- Settles O34: each command either idles or leaves one motion record; the film-gone event turns on the channel alone. -/
theorem filmAndPulsesMissing : Obligations.FilmAndPulsesMissing := by
  refine ⟨fun p s => ⟨ringTimeout_early, ringTimeout_due, stallTimeout_unwatched, fun last watch =>
    ⟨stallTimeout_early watch, stallTimeout_due watch⟩⟩, fun p closed s => ⟨filmSwitchChange_same, filmSwitchChange_new,
    filmFilterExpiry_unfiltered, fun due filter => ⟨filmFilterExpiry_early filter, fun passed => ?_⟩⟩⟩
  refine (filmFilterExpiry_due filter passed).congr fun u changes does => ⟨does, ?_⟩
  have chan : u.chanOf p = s.chanOf p := changes (.chan p) (by simp)
  simp only [u.filmGone_eq, chan]

/-! ### The cue foils (R32, R33) -/

/-- R32: the stage of the foil input after a change of its level, for an instant at which a timer started now is due. -/
def Motion.foilChanged (m : Motion) (active : Bool) (due : Nat) : Motion :=
  match m.foilStage, active with
  | .inactive, true => { m with foilStage := .qualifying, foilDue := some due }
  | .qualifying, false => { m with foilStage := .inactive, foilDue := none }
  | .active, false => { m with foilStage := .releasing, foilDue := some due }
  | .releasing, true => { m with foilStage := .active, foilDue := none }
  | _, _ => m

theorem execFoilInputChange_new {active : Bool} (new : s.inputs.foil.get p ≠ active) :
    execFoilInputChange p active s =
      ((s.setInputs { s.inputs with foil := s.inputs.foil.set p active }).setMotion p
        ((s.motionOf p).foilChanged active (s.motionCount + 20))).completed := by
  unfold execFoilInputChange Motion.foilChanged
  rw [if_neg new]
  have unmoved (inputs : Inputs) :
      (s.setInputs inputs).completed = ((s.setInputs inputs).setMotion p (s.motionOf p)).completed :=
    congrArg State.completed (State.setMotion_motionOf (s.setInputs inputs) p).symm
  cases (s.motionOf p).foilStage <;> cases active
  case inactive.false | qualifying.true | active.true | releasing.false => exact unmoved _
  all_goals rfl

theorem foilInputChange_same {active : Bool} (same : s.inputs.foil.get p = active) :
    idles (.foilInputChange p active) s := if_pos same

theorem foilInputChange_new {active : Bool} (new : s.inputs.foil.get p ≠ active) :
    runs (.foilInputChange p active) s [] [.motion p, .inputs] fun t =>
      t.inputs = { s.inputs with foil := s.inputs.foil.set p active } ∧
        t.motionOf p = (s.motionOf p).foilChanged active (s.motionCount + 20) :=
  runs_setMotion (execFoilInputChange_new new) (setInputs_changes s _) (by simp)
    ⟨rfl, State.motionOf_setMotion_self _ p _⟩

/-- R22: the motion count reaches the instant of a timer's expiry. -/
theorem State.motionCount_passToDue (s : State) (due : Option Nat) :
    (s.passToDue due).motionCount = match due with | some n => max s.motionCount n | none => s.motionCount := by
  cases due <;> rfl

theorem State.foilActivation_eq (s : State) (p : Projector) :
    s.foilActivation p =
      if (s.chanOf p).state.holding = true ∧
          ¬(∃ first, (s.motionOf p).foilMerge = some first ∧ (s.motionOf p).frames - first ≤ 8) then
        (s.setMotion p { s.motionOf p with foilMerge := some (s.motionOf p).frames }).foilEvent p
      else s := by
  have merged : s.merged p = true ↔
      ∃ first, (s.motionOf p).foilMerge = some first ∧ (s.motionOf p).frames - first ≤ 8 := by
    unfold State.merged
    cases (s.motionOf p).foilMerge <;> simp [Config.mergeWindow]
  simp only [State.foilActivation, State.modMotion, ← merged, Bool.and_eq_true, Bool.not_eq_true', Bool.not_eq_true]

theorem foilQualifyExpiry_stray (stray : (s.motionOf p).foilStage ≠ .qualifying) : idles (.foilQualifyExpiry p) s :=
  if_neg stray

theorem foilQualifyExpiry_due (qualifying : (s.motionOf p).foilStage = .qualifying) :
    runs (.foilQualifyExpiry p) s [] [.motion p, .motionCount]
      (fun t => t.motionOf p = { s.motionOf p with foilStage := .active, foilDue := none } ∧
        t.motionCount = (s.passToDue (s.motionOf p).foilDue).motionCount)
      fun t => t.foilActivation p := by
  have passed := passToDue_changes s (s.motionOf p).foilDue
  have motion : (s.passToDue (s.motionOf p).foilDue).motionOf p = s.motionOf p := passed (.motion p) (by simp)
  refine runs_setMotion (if_pos qualifying) passed (by simp) ⟨?_, rfl⟩
  rw [State.motionOf_setMotion_self, motion]

theorem foilReleaseExpiry_stray (stray : (s.motionOf p).foilStage ≠ .releasing) : idles (.foilReleaseExpiry p) s :=
  if_neg stray

theorem foilReleaseExpiry_due (releasing : (s.motionOf p).foilStage = .releasing) :
    runs (.foilReleaseExpiry p) s [] [.motion p, .motionCount] fun t =>
      t.motionOf p = { s.motionOf p with foilStage := .inactive, foilDue := none } ∧
        t.motionCount = (s.passToDue (s.motionOf p).foilDue).motionCount := by
  have passed := passToDue_changes s (s.motionOf p).foilDue
  have motion : (s.passToDue (s.motionOf p).foilDue).motionOf p = s.motionOf p := passed (.motion p) (by simp)
  refine runs_setMotion (if_pos releasing) passed (by simp) ⟨?_, rfl⟩
  rw [State.motionOf_setMotion_self, motion]

/-- Settles O35: each command either idles or leaves one motion record; the activation that follows is R33's. -/
theorem foilsQualified : Obligations.FoilsQualified := by
  intro p active s m now due
  have reached : (s.passToDue m.foilDue).motionCount = now := s.motionCount_passToDue m.foilDue
  refine ⟨foilInputChange_same, fun new => ?_, foilQualifyExpiry_stray, fun qualifying => ?_, foilReleaseExpiry_stray,
    fun releasing => ?_⟩
  · refine (foilInputChange_new new).congr fun u _ does => ⟨⟨does.1, does.2.trans ?_⟩, rfl⟩
    simp only [Motion.foilChanged, m]
    cases (s.motionOf p).foilStage <;> cases active <;> rfl
  · refine (foilQualifyExpiry_due qualifying).congr fun u changes ⟨motion, count⟩ =>
      ⟨⟨motion, count.trans reached⟩, ?_⟩
    have chan : u.chanOf p = s.chanOf p := changes (.chan p) (by simp)
    simp only [u.foilActivation_eq, chan, motion, m]
  · exact (foilReleaseExpiry_due releasing).congr fun u _ ⟨motion, count⟩ => ⟨⟨motion, count.trans reached⟩, rfl⟩

end Sys2Proof.Machine
end

section
/-! PROOF. TACH_PULSE (R23 to R27, R31): a pulse is ignored, or is captured, tests the speed and counts a frame. -/

namespace Sys2Proof.Machine

variable {p : Projector} {s : State}

/-! ### The steps of an accepted pulse -/

theorem captured_eq (ring : List Nat) (period : Nat) :
    captured ring period = (ring ++ [period]).drop ((ring ++ [period]).length - 8) := by
  rw [List.length_append, List.drop_append_of_le_length (by simp)]
  rfl

/-- R23, R24, R36: the motion record of an accepted pulse at an instant, before its speed is tested. -/
def Motion.pulsed (m : Motion) (now : Nat) : Motion :=
  let all := m.ring ++ [min (now - m.pulseRef) 65535]
  { m with
    ring := all.drop (all.length - 8)
    pulseRef := now
    stallWatch := m.stallWatch.map fun _ => now }

@[simp] theorem Motion.speedReached_pulsed (m : Motion) (now : Nat) : (m.pulsed now).speedReached = m.speedReached :=
  rfl

@[simp] theorem Motion.frames_pulsed (m : Motion) (now : Nat) : (m.pulsed now).frames = m.frames := rfl

/-- R27: F counts a frame and is held at 65535. -/
def Motion.counted (m : Motion) : Motion := { m with frames := if m.frames < 65535 then m.frames + 1 else m.frames }

theorem Motion.counted_full {m : Motion} (full : ¬m.frames < 65535) : m.counted = m := by
  simp [counted, full]

namespace State

theorem capturePulse_eq (s : State) (p : Projector) :
    s.capturePulse p = s.setMotion p ((s.motionOf p).pulsed s.motionCount) := by
  unfold capturePulse
  simp only [captured_eq]
  rfl

theorem speedTest_eq (s : State) (p : Projector) :
    s.speedTest p = decide ((s.motionOf p).ring.length = 8 ∧
      (((s.motionOf p).speed10 : Int) - s.held p .snom).natAbs ≤ s.held p .tol) := by
  rw [Bool.decide_and]
  rfl

/-- R26: the first pass of the at-speed test in STARTING. -/
theorem testSpeed_first (pass : s.speedTest p = true) (starting : (s.chanOf p).state = .starting)
    (first : (s.motionOf p).speedReached = false) :
    s.testSpeed p =
      (s.setMotion p { s.motionOf p with
        atSpeed := true, speedReached := true, stallWatch := some s.motionCount }).speedReached p := by
  simp [testSpeed, modMotion, pass, starting, first]

theorem testSpeed_later
    (later : ¬((s.chanOf p).state = .starting ∧ s.speedTest p = true ∧ (s.motionOf p).speedReached = false)) :
    s.testSpeed p = s.setMotion p { s.motionOf p with atSpeed := s.speedTest p } := by
  refine if_neg fun first => later ?_
  simp only [Bool.and_eq_true, decide_eq_true_eq, Bool.not_eq_true'] at first
  exact ⟨first.1.2, first.1.1, first.2⟩

theorem countFrame_eq (s : State) (p : Projector) :
    s.countFrame p =
      if (s.chanOf p).state.running = true ∧ (s.motionOf p).frames < 65535 then
        (s.setMotion p (s.motionOf p).counted).testPoints p
      else s := by
  by_cases more : (s.motionOf p).frames < 65535 <;> simp [countFrame, modMotion, Motion.counted, Config.maxHalf, more]

end State

/-! ### TACH_PULSE -/

variable {instant : Nat}

/-- R23: a pulse within 100 counts of the pulse reference. -/
theorem tachPulse_ignored (near : max s.motionCount instant - (s.motionOf p).pulseRef < 100) :
    runs (.tachPulse p instant) s [] [.motionCount] fun t => t.motionCount = max s.motionCount instant := by
  have ignored : (s.passTo instant).pulse p = s.passTo instant := if_pos near
  refine ⟨s.passTo instant, congrArg State.completed ignored, notified_nil fun _ => rfl, rfl, ?_⟩
  exact (passTo_changes s instant).mono (by simp)

/-- The state in which the speed of an accepted pulse is tested. -/
abbrev State.pulsed (s : State) (p : Projector) (instant : Nat) : State :=
  (s.passTo instant).setMotion p ((s.motionOf p).pulsed (max s.motionCount instant))

theorem execTachPulse_accepted (far : 100 ≤ max s.motionCount instant - (s.motionOf p).pulseRef) :
    execTachPulse p instant s = (((s.pulsed p instant).testSpeed p).countFrame p).completed := by
  have accepted : (s.passTo instant).pulse p = (((s.passTo instant).capturePulse p).testSpeed p).countFrame p :=
    if_neg far.not_gt
  rw [execTachPulse, accepted, State.capturePulse_eq]
  rfl

/-- The motion record that an accepted pulse leaves where it is not the speed-reached event. -/
abbrev State.measured (s : State) (p : Projector) (instant : Nat) : Motion :=
  { (s.motionOf p).pulsed (max s.motionCount instant) with atSpeed := (s.pulsed p instant).speedTest p }

theorem execTachPulse_later (far : 100 ≤ max s.motionCount instant - (s.motionOf p).pulseRef)
    (later : ¬((s.chanOf p).state = .starting ∧ (s.pulsed p instant).speedTest p = true ∧
      (s.motionOf p).speedReached = false)) :
    execTachPulse p instant s = (((s.passTo instant).setMotion p (s.measured p instant)).countFrame p).completed := by
  have tested : (s.pulsed p instant).testSpeed p = (s.passTo instant).setMotion p (s.measured p instant) := by
    rw [State.testSpeed_later (by simpa using later), State.setMotion_setMotion, State.motionOf_setMotion_self]
  rw [execTachPulse_accepted far, tested]

theorem tachPulse_stopped (far : 100 ≤ max s.motionCount instant - (s.motionOf p).pulseRef)
    (stopped : (s.chanOf p).state.running = false) :
    runs (.tachPulse p instant) s [] [.motion p, .motionCount] fun t =>
      t.motionOf p = s.measured p instant ∧ t.motionCount = max s.motionCount instant := by
  have later : (s.chanOf p).state ≠ .starting := fun starting => by simp [starting, ChannelState.running] at stopped
  refine runs_setMotion (t := s.passTo instant) (m := s.measured p instant) ?_ (passTo_changes s instant) (by simp)
    ⟨State.motionOf_setMotion_self _ p _, rfl⟩
  refine (execTachPulse_later far fun first => later first.1).trans ?_
  rw [State.countFrame_eq, if_neg (by simp [stopped])]
  rfl

theorem tachPulse_running (far : 100 ≤ max s.motionCount instant - (s.motionOf p).pulseRef)
    (running : (s.chanOf p).state.running = true)
    (later : ¬((s.chanOf p).state = .starting ∧ (s.pulsed p instant).speedTest p = true ∧
      (s.motionOf p).speedReached = false)) :
    runs (.tachPulse p instant) s [] [.motion p, .motionCount]
      (fun t => t.motionOf p = (s.measured p instant).counted ∧ t.motionCount = max s.motionCount instant)
      fun t => if (s.motionOf p).frames < 65535 then t.testPoints p else t := by
  refine runs_setMotion (t := s.passTo instant) (m := (s.measured p instant).counted) ?_ (passTo_changes s instant)
    (by simp) ⟨State.motionOf_setMotion_self _ p _, rfl⟩
  refine (execTachPulse_later far later).trans (congrArg State.completed ?_)
  rw [State.countFrame_eq]
  by_cases more : (s.motionOf p).frames < 65535
  · simp [running, more]
  · simp [more, Motion.counted_full]

/-- R26, R31: the speed-reached event comes before the pulse is counted. -/
theorem tachPulse_reaches (far : 100 ≤ max s.motionCount instant - (s.motionOf p).pulseRef)
    (starting : (s.chanOf p).state = .starting) (pass : (s.pulsed p instant).speedTest p = true)
    (first : (s.motionOf p).speedReached = false) :
    runs (.tachPulse p instant) s [] [.motion p, .motionCount]
      (fun t => t.motionOf p = { s.measured p instant with
          speedReached := true, stallWatch := some (max s.motionCount instant) } ∧
        t.motionCount = max s.motionCount instant)
      fun t => (t.speedReached p).countFrame p := by
  refine runs_setMotion (t := s.passTo instant) ?_ (passTo_changes s instant) (by simp)
    ⟨State.motionOf_setMotion_self _ p _, rfl⟩
  refine (execTachPulse_accepted far).trans ?_
  rw [State.testSpeed_first pass (by simpa using starting) (by simpa using first), State.setMotion_setMotion,
    State.motionOf_setMotion_self]
  simp [pass]
  rfl

/-- Settles O32: the pulse ignored, accepted with the channel stopped, counted, and at the speed-reached event. -/
theorem pulsesCaptured : Obligations.PulsesCaptured := by
  intro p instant s _ c m now all ring speed pass m' reaches counted
  have tested : (s.pulsed p instant).speedTest p = decide pass := by
    rw [State.speedTest_eq, State.motionOf_setMotion_self]
    rfl
  have measured : s.measured p instant = m' := by
    simp only [State.measured, tested]
    rfl
  refine ⟨tachPulse_ignored, fun far stopped => ?_, fun far running later => ?_, fun far first => ?_⟩
  · exact measured ▸ tachPulse_stopped far stopped
  · exact measured ▸ tachPulse_running far running fun ⟨starting, passed, unreached⟩ =>
      later ⟨starting, by simpa [tested] using passed, unreached⟩
  · obtain ⟨starting, passed, unreached⟩ := first
    have ran := tachPulse_reaches far starting (by simpa [tested] using passed) unreached
    rw [measured] at ran
    exact ran.congr fun u _ does => ⟨does, State.countFrame_eq _ p⟩

end Sys2Proof.Machine
end

section
/-! PROOF. What the moves of a channel leave of the state: entry states (R4), the picture lost (R155) and halts (R69,
R70). -/

namespace Sys2Proof.Machine

/-- R24, R42: a motion record after a motor stop. -/
def Motion.stopped (m : Motion) : Motion := { m with ring := [], atSpeed := false, stallWatch := none }

/-- R69: a channel record after a halt. -/
def Channel.halted (c : Channel) : Channel :=
  { c with
    state := .halted
    motor := false
    douser := false
    runup := .none
    runupDue := none
    deferred := false
    openOnReady := false }

namespace State

variable {s t : State} {p q : Projector}

@[simp] theorem setChan_setChan (s : State) (p : Projector) (c c' : Channel) :
    (s.setChan p c).setChan p c' = s.setChan p c' := by
  simp [State.setChan]

/-! ### Entry states (R4) -/

theorem plan_setLinkedState (s : State) (p : Projector) (x : EntryState) :
    (s.setLinkedState p x).plan = planWith p x s := by
  unfold State.setLinkedState planWith
  cases (s.chanOf p).entry <;> rfl

/-- R4: the entry of a channel and the channel's record come to new values together. -/
theorem setLinkedState_setChan_changes (s : State) (p : Projector) (x : EntryState) (c : Channel) :
    changesOnly [.plan, .chan p] s ((s.setLinkedState p x).setChan p c) :=
  ((setLinkedState_changes s p x).mono (by simp)).andThen (setChan_changes _ p c) (by simp)

@[simp] theorem chanOf_setLinkedState (s : State) (p : Projector) (x : EntryState) (q : Projector) :
    (s.setLinkedState p x).chanOf q = s.chanOf q := setLinkedState_changes s p x (.chan q) (by simp)

theorem disarmChannel_eq (s : State) (p : Projector) :
    s.disarmChannel p = (s.setLinkedState p .threaded).setChan p { s.chanOf p with state := .threaded } := by
  rw [State.disarmChannel, modChan_eq, chanOf_setLinkedState]

theorem unlinkPending_eq (s : State) (p : Projector) :
    s.unlinkPending p =
      (s.setLinkedState p .pending).setChan p { s.chanOf p with state := .idle, entry := none } := by
  rw [State.unlinkPending, modChan_eq, chanOf_setLinkedState]

/-! ### The picture lost (R155) -/

/-- R155: the picture is lost after changes that leave the show, the lights and the break parameters. -/
theorem lostPicture_pictureLost (prog : t.prog = s.prog) (lights : t.lights = s.lights) (par : t.par = s.par) :
    lostPicture s t.pictureLost := by
  have brk (q : DevParam) : t.heldDev q = s.heldDev q := by simp only [State.heldDev, par]
  unfold lostPicture State.pictureLost
  rw [← prog, ← lights, ← brk, ← brk, ← brk]
  split <;> exact ⟨rfl, rfl⟩

/-! ### Halts (R69) -/

theorem stopMotor_eq (s : State) (p : Projector) :
    s.stopMotor p = (s.setChan p { s.chanOf p with motor := false }).setMotion p (s.motionOf p).stopped := rfl

theorem toHalted_eq (s : State) (p : Projector) :
    s.toHalted p = (s.setChan p (s.chanOf p).halted).setMotion p (s.motionOf p).stopped := by
  have same : ((s.stopMotor p).chanOf p) = { s.chanOf p with motor := false } := chanOf_setChan_self s p _
  rw [State.toHalted, modChan_eq, same, stopMotor_eq]
  exact congrArg (State.setMotion p _) (s.setChan_setChan p _ _)

/-- R69, R74: what a halt sends. -/
def haltNotices (s : State) (p : Projector) : HaltCause → List Notice
  | .filmBreak => [s.noticeNow .filmBreak p.code (half (s.motionOf p).frames ++ [(s.chanOf p).state.code])]
  | .stall => [s.noticeNow .motorStall p.code (half (s.motionOf p).frames)]
  | .runupFail => [s.noticeNow .runupFail p.code (half (s.motionOf p).speed10)]
  | .heat | .request | .fire => []

theorem notified_haltNotice (clock : t.prog.clock = s.prog.clock) (cause : HaltCause) :
    notified (s.haltNotices p cause) t (t.haltNotice p cause s) := by
  cases cause with
  | heat | request | fire => exact notified_nil fun _ => rfl
  | filmBreak | stall | runupFail =>
    simp only [State.haltNotices, ← noticeNow_eq clock]
    exact notified_notify t _ _ _

theorem halt_still (still : (s.chanOf p).state.running = false) (cause : HaltCause) : s.halt p cause = s := by
  simp [State.halt, still]

/-- R69: a halt, but for what SHW makes of it. -/
abbrev haltedOut (s : State) (p : Projector) (cause : HaltCause) : State :=
  (if s.token = some p then (s.toHalted p).setToken none else s.toHalted p).haltNotice p cause s

/-- R69, R155: a halt of the token holder or of a channel that awaits the picture, other than by fire, is told to
SHW. -/
theorem halt_running (running : (s.chanOf p).state.running = true) (cause : HaltCause) :
    s.halt p cause =
      if (s.token = some p ∨ (s.chanOf p).openOnReady = true) ∧ cause ≠ .fire then (s.haltedOut p cause).pictureLost
      else s.haltedOut p cause := by
  simp [State.halt, running]

theorem toHalted_changes (s : State) (p : Projector) : changesOnly [.chan p, .motion p] s (s.toHalted p) := by
  rw [toHalted_eq]
  exact ((setChan_changes s p _).mono (by simp)).andThen (setMotion_changes _ p _) (by simp)

/-- The state of a halt before its notice. -/
theorem haltedOut_unsent_changes (s : State) (p : Projector) :
    changesOnly [.chan p, .motion p, .token] s
      (if s.token = some p then (s.toHalted p).setToken none else s.toHalted p) := by
  have halted := (toHalted_changes s p).mono (ys := [.chan p, .motion p, .token]) (by simp)
  split
  · exact halted.andThen (setToken_changes _ _) (by simp)
  · exact halted

theorem haltedOut_changes (s : State) (p : Projector) (cause : HaltCause) :
    changesOnly (everyLink ++ [.chan p, .motion p, .token]) s (s.haltedOut p cause) :=
  ((haltedOut_unsent_changes s p).mono (List.subset_append_right _ _)).andThen (haltNotice_changes _ s p cause)
    (by simp)

theorem halt_changes (s : State) (p : Projector) (cause : HaltCause) :
    changesOnly (everyLink ++ [.chan p, .motion p, .token, .prog, .lights]) s (s.halt p cause) := by
  have out := (haltedOut_changes s p cause).mono (ys := everyLink ++ [.chan p, .motion p, .token, .prog, .lights])
    (by simp)
  cases running : (s.chanOf p).state.running with
  | false =>
    rw [halt_still running]
    exact changesOnly_refl _ _
  | true =>
    rw [halt_running running]
    split
    · exact out.andThen (pictureLost_changes _) (by simp)
    · exact out

/-- R69: what a halt leaves of its channel, its motion record and the token, whatever it sends. -/
theorem haltedOut_view (s : State) (p : Projector) (cause : HaltCause) :
    (s.haltedOut p cause).chanOf p = (s.chanOf p).halted ∧
      (s.haltedOut p cause).motionOf p = (s.motionOf p).stopped ∧
      (s.haltedOut p cause).token = (if s.token = some p then none else s.token) ∧
      (s.haltedOut p cause).sound = (if s.token = some p then none else s.sound) := by
  have sent (t : State) := haltNotice_changes t s p cause
  have chan (t : State) : (t.haltNotice p cause s).chanOf p = t.chanOf p := sent t (.chan p) (by simp)
  have motion (t : State) : (t.haltNotice p cause s).motionOf p = t.motionOf p := sent t (.motion p) (by simp)
  obtain ⟨token, sound⟩ := sent (if s.token = some p then (s.toHalted p).setToken none else s.toHalted p) .token
    (by simp)
  unfold haltedOut
  rw [chan, motion, token, sound, toHalted_eq]
  split <;> simp

/-- R69: as `haltedOut_view`, of the whole halt. -/
theorem halt_view (running : (s.chanOf p).state.running = true) (cause : HaltCause) :
    (s.halt p cause).chanOf p = (s.chanOf p).halted ∧ (s.halt p cause).motionOf p = (s.motionOf p).stopped ∧
      (s.halt p cause).token = (if s.token = some p then none else s.token) ∧
      (s.halt p cause).sound = (if s.token = some p then none else s.sound) := by
  rw [halt_running running]
  split
  · have lost := pictureLost_changes (s.haltedOut p cause)
    rw [lost (.chan p) (by simp), lost (.motion p) (by simp), (lost .token (by simp)).1, (lost .token (by simp)).2]
    exact haltedOut_view s p cause
  · exact haltedOut_view s p cause

theorem notified_haltedOut (s : State) (p : Projector) (cause : HaltCause) :
    notified (s.haltNotices p cause) s (s.haltedOut p cause) := by
  have unsent := haltedOut_unsent_changes s p
  have prog := unsent .prog (by simp)
  exact (notified_haltNotice (congrArg Progress.clock prog) cause).before (fun l => unsent.links l (by simp))
    (unsent .routing (by simp))

theorem notified_halt (running : (s.chanOf p).state.running = true) (cause : HaltCause) :
    notified (s.haltNotices p cause) s (s.halt p cause) := by
  rw [halt_running running]
  split
  · exact (notified_haltedOut s p cause).after fun l => (pictureLost_changes _).links l (by simp)
  · exact notified_haltedOut s p cause

/-- R155: what SHW makes of a halt. -/
theorem halt_show (running : (s.chanOf p).state.running = true) (cause : HaltCause) :
    let tells := (s.token = some p ∨ (s.chanOf p).openOnReady = true) ∧ cause ≠ .fire
    (tells → lostPicture s (s.halt p cause)) ∧
      (¬tells → (s.halt p cause).prog = s.prog ∧ (s.halt p cause).lights = s.lights) := by
  have out := haltedOut_changes s p cause
  rw [halt_running running]
  refine ⟨fun tells => ?_, fun quiet => ?_⟩
  · rw [if_pos tells]
    exact lostPicture_pictureLost (out .prog (by simp)) (out .lights (by simp)) (out .par (by simp))
  · rw [if_neg quiet]
    exact ⟨out .prog (by simp), out .lights (by simp)⟩

/-- R50, R70: an ARMED channel is disarmed. -/
theorem makeSafe_armed (armed : (s.chanOf p).state = .armed) (cause : HaltCause) :
    s.makeSafe p cause = s.disarmChannel p := if_pos armed

theorem makeSafe_halts (unarmed : (s.chanOf p).state ≠ .armed) (cause : HaltCause) :
    s.makeSafe p cause = s.halt p cause := if_neg unarmed

end State

end Sys2Proof.Machine
end

section
/-! PROOF. Motor starts, the film test after them, and the late start test (R35, R49, R51, R188). -/

namespace Sys2Proof.Machine

/-- R51: a channel record after a motor start, for the instant at which its stage 1 ends. -/
def Channel.started (c : Channel) (due : Nat) : Channel :=
  { c with state := .starting, motor := true, runup := .one, runupDue := some due }

/-- R51: a motion record after a motor start at an instant. -/
def Motion.started (m : Motion) (now : Nat) : Motion :=
  { m with
    ring := [], atSpeed := false, pulseRef := now, speedReached := false, stallWatch := none, motorStart := now }

namespace State

variable {s t : State} {p q : Projector}

/-! ### The tests of a channel -/

/-- The channel of q is linked to the next entry, in the words of R47. -/
theorem isNext_iff (s : State) (q : Projector) :
    s.isNext q = true ↔ s.nextEntry.isSome = true ∧ (s.chanOf q).entry = s.nextEntry := by
  unfold State.isNext
  cases s.nextEntry <;> simp

/-- R3: the reel on the channel carries a break after it. -/
theorem hasBreak_iff (s : State) (p : Projector) :
    s.hasBreak p = true ↔ ∃ e, s.entryOf p = some e ∧ e.brk ≠ .absent := by
  unfold State.hasBreak Entry.noBreak
  cases s.entryOf p <;> simp

/-- R43: the picture conditions, one by one. -/
theorem pictureConditions_iff (s : State) (p : Projector) :
    s.pictureConditions p = true ↔
      (s.shutterOf p.port).state = .held ∧ (s.arcOf p).state = .lit ∧ s.fire.lockout = false := by
  simp [State.pictureConditions, and_assoc]

theorem readyForPicture_iff (s : State) (p : Projector) :
    s.readyForPicture p = true ↔ (s.chanOf p).state = .ready ∧ s.pictureConditions p = true := by
  simp [State.readyForPicture]

/-! ### Motor starts (R51, R188) -/

/-- R51: the stage 1 of a motor start now ends after the new T_r1. -/
abbrev startDue (s : State) (p : Projector) : Nat :=
  s.motionCount + ((s.par.proj.get p).get .tR1).effective * 1000

theorem motorRuns_eq (s : State) (p : Projector) :
    s.motorRuns p =
      (((s.promoteProj p .nextStart).setLinkedState p .running).setChan p
        ((s.chanOf p).started (s.startDue p))).setMotion p ((s.motionOf p).started s.motionCount) := by
  have held : (s.promoteProj p .nextStart).held p .tR1 = ((s.par.proj.get p).get .tR1).effective := by
    unfold State.held State.promoteProj
    rw [par_setPar, Pair.get_set_self, ProjParams.get_promote]
    rfl
  have motion : ((s.promoteProj p .nextStart).setLinkedState p .running).motionOf p = s.motionOf p :=
    setLinkedState_changes _ p _ (.motion p) (by simp)
  unfold State.motorRuns
  simp only [modChan_eq, modMotion_eq, held, chanOf_setLinkedState, motionOf_setChan, motion]
  rfl

theorem motorRuns_changes (s : State) (p : Projector) :
    changesOnly [.plan, .chan p, .motion p, .par] s (s.motorRuns p) := by
  rw [motorRuns_eq]
  exact ((((promoteProj_changes s p _).mono (by simp)).andThen (setLinkedState_changes _ p _) (by simp)).andThen
    (setChan_changes _ p _) (by simp)).andThen (setMotion_changes _ p _) (by simp)

@[simp] theorem chanOf_motorRuns (s : State) (p : Projector) :
    (s.motorRuns p).chanOf p = (s.chanOf p).started (s.startDue p) := by
  rw [motorRuns_eq]
  simp

@[simp] theorem motionOf_motorRuns (s : State) (p : Projector) :
    (s.motorRuns p).motionOf p = (s.motionOf p).started s.motionCount := by
  rw [motorRuns_eq]
  simp

theorem plan_motorRuns (s : State) (p : Projector) : (s.motorRuns p).plan = planWith p .running s := by
  rw [motorRuns_eq]
  exact plan_setLinkedState (s.promoteProj p .nextStart) p .running

theorem par_motorRuns (s : State) (p : Projector) :
    (s.motorRuns p).par = { s.par with proj := s.par.proj.set p ((s.par.proj.get p).promote .nextStart) } := by
  rw [motorRuns_eq]
  exact setLinkedState_changes (s.promoteProj p .nextStart) p .running .par (by simp)

/-- R35: at a motor start, the film test. -/
theorem startMotor_eq (s : State) (p : Projector) :
    s.startMotor p =
      if ((s.motorRuns p).motionOf p).filmClosed = true then s.motorRuns p else (s.motorRuns p).halt p .filmBreak := rfl

/-- R49: the late start test, in the words of the rule. -/
theorem lateStart_eq (s : State) (q : Projector) :
    s.lateStart q =
      if (s.chanOf q).state = .armed ∧ (s.nextEntry.isSome = true ∧ (s.chanOf q).entry = s.nextEntry) ∧
        ((s.token = some q.other ∧ ¬(∃ e, s.entryOf q.other = some e ∧ e.brk ≠ .absent) ∧
            ((s.chanOf q.other).motorCueTaken = true ∨ (s.chanOf q.other).deferred = true)) ∨
          ((s.chanOf q.other).state = .tail ∧ (s.chanOf q.other).deferred = true))
      then s.startMotor q else s := by
  unfold State.lateStart State.lateStartDue
  simp only [Bool.and_eq_true, Bool.or_eq_true, Bool.not_eq_true', decide_eq_true_eq, ← isNext_iff, ← hasBreak_iff,
    Bool.not_eq_true, and_assoc]

end State

/-- Settles O23: the motor start writes one block after the other; the two tests after it are the model's own. -/
theorem motorStarts : Obligations.MotorStarts := by
  intro q s t o
  refine ⟨s.plan_motorRuns q, s.chanOf_motorRuns q, s.motionOf_motorRuns q, fun x => ?_, ?_, ?_, s.motorRuns_changes q,
    s.startMotor_eq q, s.lateStart_eq q⟩
  all_goals rw [s.par_motorRuns q]
  · rw [Pair.get_set_self, ProjParams.get_promote]
    rfl
  · exact Pair.get_set_other _ _ _

end Sys2Proof.Machine
end

section
/-! PROOF. THREADED, UNTHREAD, ARM and DISARM (R45 to R50): what each answers, by the first check that fails. -/

namespace Sys2Proof.Machine

variable {l : Connector} {r : Role} {p : Projector} {label : Byte} {s : State}

/-! ### Channel requests (R44, R171, R173) -/

/-- R173: a station's request about its own projector reaches the channel. -/
theorem ownRequest_passes (body : List Byte) (h : heard l r s) (own : r.own = some p)
    (owner : Projector → State → Answer) :
    screen l (Projector.ofCode p.code) ownProjector owner (s.takeSlot l body) = owner p (s.takeSlot l body) := by
  rw [Projector.ofCode_code]
  exact screen_passes (role := r) ((binding_takeSlot l body s l).trans h.1) (by simp [ownProjector, own])

/-- R173: a request about a projector from its own station or from the house reaches the channel. -/
theorem channelRequest_passes (body : List Byte) (h : heard l r s) (right : r = .h ∨ r.own = some p)
    (owner : Projector → State → Answer) :
    screen l (Projector.ofCode p.code) ownOrHouse owner (s.takeSlot l body) = owner p (s.takeSlot l body) := by
  rw [Projector.ofCode_code]
  exact screen_passes (role := r) ((binding_takeSlot l body s l).trans h.1) (by simpa [ownOrHouse] using right)

/-! ### THREADED (R45) -/

theorem carries_iff (s : State) (i : Option Nat) (label : Byte) :
    s.carries i label = true ↔ ∃ e, i.bind s.entryAt = some e ∧ e.label = label.toNat := by
  unfold State.carries
  cases i.bind s.entryAt <;> simp

theorem threadedAnswer_again (threaded : (s.chanOf p).state = .threaded)
    (carries : s.carries (s.chanOf p).entry label = true) : threadedAnswer label p s = channelAnswer p .ok s := by
  simp [threadedAnswer, threaded, carries]

theorem threadedAnswer_busy (busy : (s.chanOf p).state ≠ .idle)
    (other : (s.chanOf p).state = .threaded → s.carries (s.chanOf p).entry label = false) :
    threadedAnswer label p s = channelAnswer p .notReady s := by
  by_cases threaded : (s.chanOf p).state = .threaded
  · simp [threadedAnswer, threaded, other threaded]
  · simp [threadedAnswer, busy, threaded]

section Idle

variable (idle : (s.chanOf p).state = .idle)

include idle

theorem threadedAnswer_wrongReel (other : s.carries (s.nextFor p) label = false) :
    threadedAnswer label p s = channelAnswer p .wrongReel s := by
  unfold threadedAnswer
  cases next : s.nextFor p with
  | none => simp [idle]
  | some i => simp [idle, next ▸ other]

theorem threadedAnswer_open (carries : s.carries (s.nextFor p) label = true)
    (gone : (s.motionOf p).filmClosed = false) : threadedAnswer label p s = channelAnswer p .notReady s := by
  unfold threadedAnswer
  cases next : s.nextFor p with
  | none => simp [next, State.carries] at carries
  | some i => simp [idle, next ▸ carries, gone]

theorem threadedAnswer_laced {i : Nat} (next : s.nextFor p = some i) (carries : s.carries (some i) label = true)
    (closed : (s.motionOf p).filmClosed = true) :
    threadedAnswer label p s = channelAnswer p .ok (s.declareThreaded p i) := by
  simp [threadedAnswer, idle, next, carries, closed]

end Idle

/-- R45: a channel record once its reel is declared laced. -/
def Channel.laced (c : Channel) (i : Nat) : Channel :=
  { c with
    state := .threaded
    entry := some i
    motorCueTaken := false
    changeTaken := false
    foilCount := 0
    deferred := false
    openOnReady := false
    pastPicture := false }

theorem declareThreaded_eq (s : State) (p : Projector) (i : Nat) :
    s.declareThreaded p i =
      (((s.setEntryState i .threaded).setChan p ((s.chanOf p).laced i)).setMotion p
        { s.motionOf p with frames := 0, raised := [], foilMerge := none }).setArc p
        { s.arcOf p with lowWarned := false } := rfl

theorem declareThreaded_changes (s : State) (p : Projector) (i : Nat) :
    changesOnly [.plan, .chan p, .motion p, .arc p] s (s.declareThreaded p i) := by
  rw [declareThreaded_eq]
  exact ((((setPlan_changes s _).mono (by simp)).andThen (setChan_changes _ p _) (by simp)).andThen
    (setMotion_changes _ p _) (by simp)).andThen (setArc_changes _ p _) (by simp)

/-! ### UNTHREAD (R46) -/

theorem unthreadAnswer_threaded (threaded : (s.chanOf p).state = .threaded) :
    unthreadAnswer p s = channelAnswer p .ok (s.unlinkPending p) := by simp only [unthreadAnswer, threaded]

theorem unthreadAnswer_idle (idle : (s.chanOf p).state = .idle) : unthreadAnswer p s = channelAnswer p .ok s := by
  simp only [unthreadAnswer, idle]

theorem unthreadAnswer_busy (unthreaded : (s.chanOf p).state ≠ .threaded) (busy : (s.chanOf p).state ≠ .idle) :
    unthreadAnswer p s = channelAnswer p .notReady s := by
  unfold unthreadAnswer
  split <;> simp_all

/-! ### A channel that moves with its entry -/

/-- A channel comes to a new record, and the entry it was linked to to a new state. -/
abbrev State.movedWith (s : State) (p : Projector) (x : EntryState) (c : Channel) : State :=
  (s.setLinkedState p x).setChan p c

theorem channelAnswer_setChan (s : State) (p : Projector) (c : Channel) (code : ResultCode) :
    channelAnswer p code (s.setChan p c) = ⟨s.setChan p c, code, [c.state.code, indexByte c.entry]⟩ := by
  simp [channelAnswer, channelData]

/-- R46 to R50, R72: a request that moves a channel with its entry. -/
theorem grants_movedWith {req : Request} {code : ResultCode} {data : State → List Byte} {after : State → State}
    {x : EntryState} {c : Channel} (h : listens l s)
    (answer : requestAnswer l req (s.takeSlot l (requestBody req)) =
      let t := (s.takeSlot l (requestBody req)).movedWith p x c
      ⟨after t, code, data (after t)⟩) :
    grants l req s code data [] [.plan, .chan p] (fun t => t.plan = planWith p x s ∧ t.chanOf p = c) after := by
  have changes := (s.takeSlot l (requestBody req)).setLinkedState_setChan_changes p x c
  refine grants_of h _ answer (notified_nil fun m => changes.links m (by simp)) ⟨?_, ?_⟩
    (changes.mono (List.subset_append_right _ _))
  · exact State.plan_setLinkedState (s.takeSlot l (requestBody req)) p x
  · exact State.chanOf_setChan_self _ p c

/-- Settles O21: THREADED by the channel's state and the first check that fails, UNTHREAD by the channel's state. -/
theorem reelsThreaded : Obligations.ReelsThreaded := by
  intro l r p label s h own c held answered carries
  have threads := ownRequest_passes (requestBody (.threaded p.code label)) h own (threadedAnswer label)
  have unthreads := ownRequest_passes (requestBody (.unthread p.code)) h own unthreadAnswer
  have carried {i : Option Nat} : carries i → s.carries i label = true := (carries_iff s i label).mpr
  have uncarried {i : Option Nat} (no : ¬carries i) : s.carries i label = false :=
    Bool.eq_false_iff.mpr (mt (carries_iff s i label).mp no)
  refine ⟨fun threaded yes => ?_, fun threaded no => ?_, fun busy unthreaded => ?_, fun idle no => ?_,
    fun idle yes gone => ?_, fun i idle next yes closed => ?_, fun threaded => ?_, fun idle => ?_,
    fun unthreaded busy => ?_⟩
  · exact repliesOnly_of h.2 (threads.trans (threadedAnswer_again (s := s.takeSlot l _) threaded (carried yes)))
  · have busy : c.state ≠ .idle := fun idle => nomatch idle.symm.trans threaded
    exact repliesOnly_of h.2 (threads.trans (threadedAnswer_busy (s := s.takeSlot l _) busy fun _ => uncarried no))
  · exact repliesOnly_of h.2 (threads.trans
      (threadedAnswer_busy (s := s.takeSlot l _) busy fun threaded => absurd threaded unthreaded))
  · exact repliesOnly_of h.2 (threads.trans (threadedAnswer_wrongReel (s := s.takeSlot l _) idle (uncarried no)))
  · exact repliesOnly_of h.2 (threads.trans (threadedAnswer_open (s := s.takeSlot l _) idle (carried yes) gone))
  · have laced := declareThreaded_changes (s.takeSlot l (requestBody (.threaded p.code label))) p i
    refine grants_of h.2 _ ((threads.trans
      (threadedAnswer_laced (s := s.takeSlot l _) idle next (carried yes) closed)).trans ?_)
      (notified_nil fun m => laced.links m (by simp)) ?_ (laced.mono (List.subset_append_right _ _))
    · simp only [channelAnswer, channelData, declareThreaded_eq, State.chanOf_setArc, State.chanOf_setMotion,
        State.chanOf_setChan_self]
      rfl
    · rw [declareThreaded_eq]
      refine ⟨rfl, ?_, ?_, ?_⟩ <;> simp [Channel.laced, c]
  · refine grants_movedWith h.2 ((unthreads.trans (unthreadAnswer_threaded (s := s.takeSlot l _) threaded)).trans ?_)
    rw [State.unlinkPending_eq, channelAnswer_setChan]
    rfl
  · exact repliesOnly_of h.2 (unthreads.trans (unthreadAnswer_idle (s := s.takeSlot l _) idle))
  · exact repliesOnly_of h.2 (unthreads.trans (unthreadAnswer_busy (s := s.takeSlot l _) unthreaded busy))

/-! ### ARM and DISARM (R47, R48, R50) -/

theorem armAnswer_armed (armed : (s.chanOf p).state = .armed) : armAnswer p s = channelAnswer p .ok s := by
  simp only [armAnswer, armed]

theorem armAnswer_busy (unarmed : (s.chanOf p).state ≠ .armed) (busy : (s.chanOf p).state ≠ .threaded) :
    armAnswer p s = channelAnswer p .notReady s := by
  unfold armAnswer
  split <;> simp_all

theorem armAnswer_refused {code : ResultCode} (threaded : (s.chanOf p).state = .threaded)
    (refused : armRefusal p s = some code) : armAnswer p s = channelAnswer p code s := by
  simp only [armAnswer, threaded, refused]

theorem armAnswer_taken (threaded : (s.chanOf p).state = .threaded) (taken : armRefusal p s = none) :
    armAnswer p s = channelAnswer p .ok (s.armChannel p) := by
  simp only [armAnswer, threaded, taken]

theorem disarmAnswer_armed (armed : (s.chanOf p).state = .armed) :
    disarmAnswer p s = channelAnswer p .ok (s.disarmChannel p) := by simp only [disarmAnswer, armed]

theorem disarmAnswer_threaded (threaded : (s.chanOf p).state = .threaded) :
    disarmAnswer p s = channelAnswer p .ok s := by simp only [disarmAnswer, threaded]

theorem disarmAnswer_busy (unarmed : (s.chanOf p).state ≠ .armed) (busy : (s.chanOf p).state ≠ .threaded) :
    disarmAnswer p s = channelAnswer p .notReady s := by
  unfold disarmAnswer
  split <;> simp_all

/-- R47: ARM's checks in order, in the words of the rule. -/
theorem armRefusal_eq (s : State) (p : Projector) :
    armRefusal p s =
      if ¬(s.nextEntry.isSome = true ∧ (s.chanOf p).entry = s.nextEntry) then some .notNext
      else if s.fire.lockout = true then some .fireLockout
      else if (s.arcOf p).state ≠ .lit then some .lampNotLit
      else if (s.shutterOf p.port).state ≠ .held then some .shutterDown
      else if s.carbonTime p < ceilDiv (s.rf p * 100) (s.held p .snom) + s.held p .mc then some .carbonShort
      else none := by
  unfold armRefusal State.carbonShort
  simp only [← State.isNext_iff, Bool.not_eq_true', Bool.not_eq_true, decide_eq_true_eq]
  rfl

/-- Settles O22: ARM and DISARM by the channel's state, and ARM of a THREADED one by its checks. -/
theorem reelsArmed : Obligations.ReelsArmed := by
  intro l r p s h right c held short refusal
  have arms := channelRequest_passes (requestBody (.arm p.code)) h right armAnswer
  have disarms := channelRequest_passes (requestBody (.disarm p.code)) h right disarmAnswer
  have refuses (body : List Byte) : armRefusal p (s.takeSlot l body) = refusal := armRefusal_eq (s.takeSlot l body) p
  refine ⟨fun armed => ?_, fun unarmed busy => ?_, fun code threaded refused => ?_, fun threaded taken => ?_,
    fun armed => ?_, fun threaded => ?_, fun unarmed busy => ?_⟩
  · exact repliesOnly_of h.2 (arms.trans (armAnswer_armed (s := s.takeSlot l _) armed))
  · exact repliesOnly_of h.2 (arms.trans (armAnswer_busy (s := s.takeSlot l _) unarmed busy))
  · exact repliesOnly_of h.2
      (arms.trans (armAnswer_refused (s := s.takeSlot l _) threaded ((refuses _).trans refused)))
  · refine grants_movedWith h.2
      ((arms.trans (armAnswer_taken (s := s.takeSlot l _) threaded ((refuses _).trans taken))).trans ?_)
    rw [State.armChannel, State.modChan_eq, State.chanOf_setLinkedState]
    rfl
  · refine grants_movedWith h.2 ((disarms.trans (disarmAnswer_armed (s := s.takeSlot l _) armed)).trans ?_)
    rw [State.disarmChannel_eq, channelAnswer_setChan]
    rfl
  · exact repliesOnly_of h.2 (disarms.trans (disarmAnswer_threaded (s := s.takeSlot l _) threaded))
  · exact repliesOnly_of h.2 (disarms.trans (disarmAnswer_busy (s := s.takeSlot l _) unarmed busy))

end Sys2Proof.Machine
end

section
/-! PROOF. Fire entry (R70, R95, R106, R112, R117, R129), from what it does to a channel, a shutter and an arc where no
motor runs. -/

namespace Sys2Proof.Machine

/-- R70: a channel record after fire entry. -/
def Channel.safe (c : Channel) : Channel :=
  if c.state = .armed then { c with state := .threaded } else if c.state.running = true then c.halted else c

theorem Channel.running_safe (c : Channel) : c.safe.state.running = false := by
  unfold Channel.safe
  split
  · rfl
  · split
    · rfl
    · next still => exact Bool.eq_false_iff.mpr still

/-- R70: the plan once fire entry has disarmed the channel. -/
def Channel.disarms (c : Channel) (plan : Plan) : Plan :=
  if c.state = .armed then
    match c.entry with
    | some i => { plan with entries := plan.entries.modify i fun e => { e with state := .threaded } }
    | none => plan
  else plan

/-- R94, R95: an arc record once it is put out. -/
def Arc.out (x : Arc) : Arc := if x.state = .off then x else x.become .off

namespace State

variable {s t : State} {p q : Projector}

/-! ### Channels (R70) -/

/-- R69, R70: by fire, a halt tells neither SHW nor the links. -/
theorem makeSafe_fire_changes (s : State) (p : Projector) :
    changesOnly [.plan, .chan p, .motion p, .token] s (s.makeSafe p .fire) := by
  by_cases armed : (s.chanOf p).state = .armed
  · rw [makeSafe_armed armed, disarmChannel_eq]
    exact (setLinkedState_setChan_changes s p _ _).mono (by simp)
  · rw [makeSafe_halts armed]
    cases running : (s.chanOf p).state.running with
    | false =>
      rw [halt_still running]
      exact changesOnly_refl _ _
    | true =>
      rw [halt_running running, if_neg (by simp)]
      exact (haltedOut_unsent_changes s p).mono (by simp)

theorem chanOf_makeSafe (s : State) (p : Projector) (cause : HaltCause) :
    (s.makeSafe p cause).chanOf p = (s.chanOf p).safe := by
  unfold Channel.safe
  split
  · next armed =>
    rw [makeSafe_armed armed, disarmChannel_eq]
    exact chanOf_setChan_self _ p _
  · next unarmed =>
    rw [makeSafe_halts unarmed]
    split
    · next running => exact (halt_view running cause).1
    · next still => rw [halt_still (Bool.eq_false_iff.mpr still)]

theorem motionOf_makeSafe (s : State) (p : Projector) (cause : HaltCause) :
    (s.makeSafe p cause).motionOf p =
      if (s.chanOf p).state.running = true then (s.motionOf p).stopped else s.motionOf p := by
  by_cases armed : (s.chanOf p).state = .armed
  · rw [makeSafe_armed armed, disarmChannel_eq, if_neg (by simp [armed, ChannelState.running])]
    exact setLinkedState_setChan_changes s p _ _ (.motion p) (by simp)
  · rw [makeSafe_halts armed]
    split
    · next running => exact (halt_view running cause).2.1
    · next still => rw [halt_still (Bool.eq_false_iff.mpr still)]

theorem plan_makeSafe (s : State) (p : Projector) (cause : HaltCause) :
    (s.makeSafe p cause).plan = (s.chanOf p).disarms s.plan := by
  unfold Channel.disarms
  split
  · next armed =>
    rw [makeSafe_armed armed, disarmChannel_eq]
    exact plan_setLinkedState s p .threaded
  · next unarmed =>
    rw [makeSafe_halts unarmed]
    exact halt_changes s p cause .plan (by simp)

/-- R41, R42, R69: the token and the sound are lost by their holder alone. -/
theorem token_makeSafe (s : State) (p : Projector) (cause : HaltCause) :
    (s.makeSafe p cause).token =
        (if (s.chanOf p).state.running = true ∧ s.token = some p then none else s.token) ∧
      (s.makeSafe p cause).sound =
        if (s.chanOf p).state.running = true ∧ s.token = some p then none else s.sound := by
  by_cases armed : (s.chanOf p).state = .armed
  · rw [makeSafe_armed armed, disarmChannel_eq]
    rw [if_neg (by simp [armed, ChannelState.running]), if_neg (by simp [armed, ChannelState.running])]
    exact setLinkedState_setChan_changes s p _ _ .token (by simp)
  · rw [makeSafe_halts armed]
    cases running : (s.chanOf p).state.running with
    | false => simp [halt_still running]
    | true => simpa using (halt_view running cause).2.2

/-- R43: a report of a picture condition does nothing to a channel whose motor is off. -/
theorem conditionsReported_still (still : (s.chanOf p).state.running = false) : s.conditionsReported p = s := by
  unfold State.conditionsReported
  cases state : (s.chanOf p).state <;> simp_all [ChannelState.running]

/-! ### Shutters (R106, R112) -/

/-- R102, R106: the record of a shutter that fire entry drops. -/
abbrev droppedShutter (s : State) : ShutterRec := ⟨.dropping, some (s.motionCount + 10000), false, false, .fire⟩

/-- R112: fire entry drops the shutter. -/
abbrev firesDown (s : State) (sh : Shutter) : Bool :=
  decide ((s.shutterOf sh).state = .held ∨ (s.shutterOf sh).state = .raising)

/-- R106: the SHUTTER_STATE of a shutter that fire entry drops. -/
abbrev droppedNotice (s : State) (sh : Shutter) : Notice :=
  s.noticeNow .shutterState sh.code [3, (s.shutterOf sh).state.code, 6,
    flagByte [s.inputs.openSense.atShutter sh, s.inputs.closedSense.atShutter sh]]

theorem dropForFire_still (still : ∀ p, (s.chanOf p).state.running = false) (sh : Shutter) :
    s.dropForFire sh =
      if s.firesDown sh = true then (s.setShutter sh s.droppedShutter).route (s.droppedNotice sh) else s := by
  have told : s.shutterTo sh .dropping .fire =
      (s.placeShutter sh .dropping .fire).shutterNotice sh (s.shutterOf sh).state := by
    unfold State.shutterTo
    cases sh.projector with
    | none => rfl
    | some p => exact conditionsReported_still (still p)
  have sent : (s.placeShutter sh .dropping .fire).shutterNotice sh (s.shutterOf sh).state =
      (s.setShutter sh s.droppedShutter).route (s.droppedNotice sh) := by
    unfold State.shutterNotice State.notify
    rw [State.placeShutter, shutterOf_setShutter_self]
    rfl
  simp only [State.dropForFire, decide_eq_true_eq, told, sent]

/-- R112: the shutters dropped one after the other, each once. -/
theorem foldl_dropForFire_still (shutters : List Shutter) (once : shutters.Nodup)
    (still : ∀ p, (s.chanOf p).state.running = false) :
    let t := shutters.foldl (fun t sh => t.dropForFire sh) s
    changesOnly (everyLink ++ shutters.map Block.shutter) s t ∧
      (∀ sh ∈ shutters, t.shutterOf sh = if s.firesDown sh = true then s.droppedShutter else s.shutterOf sh) ∧
      notified ((shutters.filter s.firesDown).map s.droppedNotice) s t := by
  induction shutters generalizing s with
  | nil => exact ⟨changesOnly_refl _ _, by simp, notified_nil fun _ => rfl⟩
  | cons sh rest ih =>
    obtain ⟨fresh, once⟩ := List.nodup_cons.mp once
    have here : changesOnly (everyLink ++ [.shutter sh]) s (s.dropForFire sh) ∧
        (s.dropForFire sh).shutterOf sh = (if s.firesDown sh = true then s.droppedShutter else s.shutterOf sh) ∧
        notified (([sh].filter s.firesDown).map s.droppedNotice) s (s.dropForFire sh) := by
      rw [dropForFire_still still]
      by_cases down : s.firesDown sh = true
      · rw [if_pos down, if_pos down, List.filter_cons_of_pos down]
        have set := setShutter_changes s sh s.droppedShutter
        refine ⟨(set.mono (by simp)).andThen (route_changes _ _) (by simp), shutterOf_setShutter_self s sh _, ?_⟩
        exact (notified_route _ _).before (fun _ => rfl) rfl
      · rw [if_neg down, if_neg down, List.filter_cons_of_neg down]
        exact ⟨changesOnly_refl _ _, rfl, notified_nil fun _ => rfl⟩
    obtain ⟨changes, dropped, told⟩ := here
    have chan (p : Projector) : (s.dropForFire sh).chanOf p = s.chanOf p := changes (.chan p) (by simp)
    have away {sh' : Shutter} (other : sh' ≠ sh) : (s.dropForFire sh).shutterOf sh' = s.shutterOf sh' :=
      changes (.shutter sh') (by simpa using other)
    have count : (s.dropForFire sh).motionCount = s.motionCount := changes .motionCount (by simp)
    have inputs : (s.dropForFire sh).inputs = s.inputs := changes .inputs (by simp)
    have prog : (s.dropForFire sh).prog = s.prog := changes .prog (by simp)
    have same : ∀ sh' ∈ rest, (s.dropForFire sh).firesDown sh' = s.firesDown sh' ∧
        (s.dropForFire sh).droppedNotice sh' = s.droppedNotice sh' ∧
        (s.dropForFire sh).shutterOf sh' = s.shutterOf sh' := by
      intro sh' later
      have at_sh' := away fun same => fresh (same ▸ later)
      simp only [firesDown, droppedNotice, State.noticeNow, at_sh', inputs, prog, and_self]
    obtain ⟨changes', dropped', told'⟩ := ih once fun p => by rw [chan p, still p]
    have wider : everyLink ++ rest.map Block.shutter ⊆ everyLink ++ (sh :: rest).map Block.shutter := fun b hb => by
      simp only [List.map_cons, List.mem_append, List.mem_cons] at hb ⊢
      tauto
    refine ⟨(changes.mono (by simp)).andThen changes' wider, fun sh' member => ?_, ?_⟩
    · rcases List.mem_cons.mp member with rfl | later
      · exact (changes' (.shutter sh') (by simpa using fresh)).trans dropped
      · obtain ⟨down, -, rec⟩ := same sh' later
        have record : (s.dropForFire sh).droppedShutter = s.droppedShutter := by simp only [droppedShutter, count]
        rw [← down, ← rec, ← record]
        exact dropped' sh' later
    · rw [List.filter_congr fun sh' later => (same sh' later).1,
        List.map_congr_left fun sh' later => (same sh' (List.mem_of_mem_filter later)).2.1] at told'
      rw [← List.singleton_append, List.filter_append, List.map_append]
      exact told.append told' (changes .routing (by simp))

/-! ### Arcs (R94, R95) -/

/-- R95: the ARC_STATE of an arc that is put out, if it was not OFF. -/
abbrev outNotices (s : State) (p : Projector) (cause : ArcCause) : List Notice :=
  if (s.arcOf p).state = .off then []
  else [s.noticeNow .arcState p.code ([0, (s.arcOf p).state.code, cause.code] ++ half (s.arcOf p).carbon)]

theorem putOut_still (still : (s.chanOf p).state.running = false) (cause : ArcCause) :
    changesOnly (everyLink ++ [.arc p]) s (s.putOut p cause) ∧ (s.putOut p cause).arcOf p = (s.arcOf p).out ∧
      notified (s.outNotices p cause) s (s.putOut p cause) := by
  unfold State.putOut Arc.out outNotices
  split
  · exact ⟨changesOnly_refl _ _, rfl, notified_nil fun _ => rfl⟩
  · have told : s.arcTo p .off cause = (s.setArc p ((s.arcOf p).become .off)).arcNotice p (s.arcOf p).state cause :=
      conditionsReported_still still
    have become : (s.setArc p ((s.arcOf p).become .off)).arcOf p = (s.arcOf p).become .off :=
      arcOf_setArc_self s p _
    rw [told, State.arcNotice, become]
    refine ⟨((setArc_changes s p _).mono (by simp)).andThen (notify_changes _ _ _ _) (by simp), ?_, ?_⟩
    · exact become
    · exact (notified_notify _ _ _ _).before (fun _ => rfl) rfl

/-- R95, R112: both arcs put out, A's ARC_STATE before B's. -/
theorem putOutBoth_still (still : ∀ p, (s.chanOf p).state.running = false) (cause : ArcCause) :
    let t := (s.putOut .a cause).putOut .b cause
    changesOnly (everyLink ++ [.arc .a, .arc .b]) s t ∧ (∀ p, t.arcOf p = (s.arcOf p).out) ∧
      notified (([Projector.a, .b].filter fun p => decide ((s.arcOf p).state ≠ .off)).map fun p =>
        s.noticeNow .arcState p.code ([0, (s.arcOf p).state.code, cause.code] ++ half (s.arcOf p).carbon)) s t := by
  obtain ⟨changesA, outA, toldA⟩ := putOut_still (still .a) cause
  have chanB : (s.putOut .a cause).chanOf .b = s.chanOf .b := changesA (.chan .b) (by simp)
  have arcB : (s.putOut .a cause).arcOf .b = s.arcOf .b := changesA (.arc .b) (by simp)
  have prog : (s.putOut .a cause).prog = s.prog := changesA .prog (by simp)
  obtain ⟨changesB, outB, toldB⟩ := putOut_still (s := s.putOut .a cause) (chanB ▸ still .b) cause
  refine ⟨(changesA.mono (by simp)).andThen changesB (by simp), fun p => ?_, ?_⟩
  · cases p with
    | a => exact (changesB (.arc .a) (by simp)).trans outA
    | b => rw [outB, arcB]
  · have sameB : (s.putOut .a cause).outNotices .b cause = s.outNotices .b cause := by
      simp only [outNotices, State.noticeNow, arcB, prog]
    have listed : (([Projector.a, .b].filter fun p => decide ((s.arcOf p).state ≠ .off)).map fun p =>
        s.noticeNow .arcState p.code ([0, (s.arcOf p).state.code, cause.code] ++ half (s.arcOf p).carbon)) =
          s.outNotices .a cause ++ s.outNotices .b cause := by
      by_cases offA : (s.arcOf .a).state = .off <;> by_cases offB : (s.arcOf .b).state = .off <;>
        simp [outNotices, offA, offB]
    rw [listed, ← sameB]
    exact toldA.append toldB (changesA .routing (by simp))

/-! ### Fire entry (R112) -/

/-- R70, R112: the state once both channels are safe. -/
abbrev bothSafe (s : State) : State := (s.makeSafe .a .fire).makeSafe .b .fire

theorem bothSafe_changes (s : State) :
    changesOnly [.plan, .chan .a, .chan .b, .motion .a, .motion .b, .token] s s.bothSafe :=
  ((makeSafe_fire_changes s .a).mono (by simp)).andThen (makeSafe_fire_changes _ .b) (by simp)

theorem makeSafe_a_view_b (s : State) :
    (s.makeSafe .a .fire).chanOf .b = s.chanOf .b ∧ (s.makeSafe .a .fire).motionOf .b = s.motionOf .b :=
  ⟨makeSafe_fire_changes s .a (.chan .b) (by simp), makeSafe_fire_changes s .a (.motion .b) (by simp)⟩

theorem chanOf_bothSafe (s : State) (p : Projector) : s.bothSafe.chanOf p = (s.chanOf p).safe := by
  obtain ⟨chan, -⟩ := makeSafe_a_view_b s
  cases p with
  | a => exact (makeSafe_fire_changes _ .b (.chan .a) (by simp)).trans (chanOf_makeSafe s .a _)
  | b => rw [bothSafe, chanOf_makeSafe, chan]

theorem motionOf_bothSafe (s : State) (p : Projector) :
    s.bothSafe.motionOf p =
      if (s.chanOf p).state.running = true then (s.motionOf p).stopped else s.motionOf p := by
  obtain ⟨chan, motion⟩ := makeSafe_a_view_b s
  cases p with
  | a => exact (makeSafe_fire_changes _ .b (.motion .a) (by simp)).trans (motionOf_makeSafe s .a _)
  | b => rw [bothSafe, motionOf_makeSafe, chan, motion]

theorem plan_bothSafe (s : State) : s.bothSafe.plan = (s.chanOf .b).disarms ((s.chanOf .a).disarms s.plan) := by
  rw [bothSafe, plan_makeSafe, plan_makeSafe, (makeSafe_a_view_b s).1]

/-- R41, R69: where the token names a holder, neither channel keeps it. -/
theorem token_bothSafe (law : s.tokenLaw) :
    s.bothSafe.token = none ∧ (s.sound = s.token → s.bothSafe.sound = none) := by
  have holds (p : Projector) (held : s.token = some p) : (s.chanOf p).state.running = true := by
    have holding := (law p (by cases p <;> simp)).mp held
    cases state : (s.chanOf p).state <;> simp_all [ChannelState.holding, ChannelState.running]
  obtain ⟨chan, -⟩ := makeSafe_a_view_b s
  obtain ⟨tokenA, soundA⟩ := token_makeSafe s .a .fire
  obtain ⟨tokenB, soundB⟩ := token_makeSafe (s.makeSafe .a .fire) .b .fire
  rw [bothSafe, tokenB, soundB, chan, tokenA, soundA]
  cases token : s.token with
  | none => simp
  | some p =>
    have running := holds p token
    cases p <;> simp [running]

/-- R112, R129: the state of a fire entry before anything is sent. -/
abbrev lockedDown (s : State) (x : Source) : State :=
  let safe := (s.setFire ⟨true, some x, [x], some s.prog.clock, true⟩).bothSafe
  (safe.setLights safe.lights.enterEmergency).setProg { safe.prog with
    state := .fireStop, timer := none, timerEntry := none }

theorem lockedDown_changes (s : State) (x : Source) :
    changesOnly [.fire, .plan, .chan .a, .chan .b, .motion .a, .motion .b, .token, .lights, .prog] s
      (s.lockedDown x) :=
  ((((setFire_changes s _).mono (by simp)).andThen (bothSafe_changes _) (by simp)).andThen
    (setLights_changes _ _) (by simp)).andThen (setProg_changes _ _) (by simp)

theorem clock_lockedDown (s : State) (x : Source) : (s.lockedDown x).prog.clock = s.prog.clock := by
  have prog : (s.setFire ⟨true, some x, [x], some s.prog.clock, true⟩).bothSafe.prog = s.prog :=
    bothSafe_changes _ .prog (by simp)
  exact (congrArg Progress.clock prog :)

theorem fireEntry_eq (s : State) (x : Source) :
    s.fireEntry x =
      ((shutterOrder.foldl (fun t sh => t.dropForFire sh) ((s.lockedDown x).fireNotice x 0)).putOut .a .fire).putOut
        .b .fire := rfl

/-- R112, R117: FIRE, before anything else is sent. -/
theorem fireNotice_lockedDown (s : State) (x : Source) :
    (s.lockedDown x).fireNotice x 0 =
      (s.lockedDown x).route (s.noticeNow .fire x.code ([0, Source.setByte [x]] ++ s.fireHeat x)) := by
  have safe := bothSafe_changes (s.setFire ⟨true, some x, [x], some s.prog.clock, true⟩)
  have fire : (s.lockedDown x).fire = ⟨true, some x, [x], some s.prog.clock, true⟩ := safe .fire (by simp)
  have changes := s.lockedDown_changes x
  have inputs : (s.lockedDown x).inputs = s.inputs := changes .inputs (by simp)
  have heatA : (s.lockedDown x).heat.a = s.heat.a := changes (.heat .a) (by simp)
  have heatB : (s.lockedDown x).heat.b = s.heat.b := changes (.heat .b) (by simp)
  have heat : (s.lockedDown x).fireHeat x = s.fireHeat x := by
    cases x <;> simp only [State.fireHeat, inputs, heatA, heatB]
  rw [State.fireNotice, State.notify, heat, noticeNow_eq (clock_lockedDown s x), fire]

/-- R112, steps 2 and 3, with every motor off: the shutters dropped one after the other, then the arcs put out. -/
theorem drives_still (still : ∀ p, (s.chanOf p).state.running = false) :
    let t := ((shutterOrder.foldl (fun t sh => t.dropForFire sh) s).putOut .a .fire).putOut .b .fire
    changesOnly (everyLink ++ [.shutter .portA, .shutter .portB, .shutter .obs1, .shutter .obs2, .arc .a, .arc .b])
        s t ∧
      (∀ sh, t.shutterOf sh = if s.firesDown sh = true then s.droppedShutter else s.shutterOf sh) ∧
      (∀ p, t.arcOf p = (s.arcOf p).out) ∧
      notified
        ((shutterOrder.filter s.firesDown).map s.droppedNotice ++
          (([Projector.a, .b].filter fun p => decide ((s.arcOf p).state ≠ .off)).map fun p =>
            s.noticeNow .arcState p.code ([0, (s.arcOf p).state.code, 7] ++ half (s.arcOf p).carbon))) s t := by
  obtain ⟨drop, dropped, dropTold⟩ := foldl_dropForFire_still shutterOrder (by decide) still
  generalize shutterOrder.foldl (fun t sh => t.dropForFire sh) s = v at drop dropped dropTold
  have chan (p : Projector) : v.chanOf p = s.chanOf p := drop (.chan p) (by simp [shutterOrder])
  have arc (p : Projector) : v.arcOf p = s.arcOf p := drop (.arc p) (by simp [shutterOrder])
  have prog : v.prog = s.prog := drop .prog (by simp [shutterOrder])
  obtain ⟨out, arcs, outTold⟩ := putOutBoth_still (s := v) (fun p => by rw [chan, still]) .fire
  simp only [arc, State.noticeNow, prog] at arcs outTold
  refine ⟨(drop.mono (by simp [shutterOrder])).andThen out (by simp), fun sh => ?_, arcs, ?_⟩
  · exact (out (.shutter sh) (by simp)).trans (dropped sh (by cases sh <;> decide))
  · exact dropTold.append outTold (drop .routing (by simp [shutterOrder]))

/-- R112: what fire entry does once the channels are safe: FIRE, then the drives. -/
theorem fireEntry_drives (s : State) (x : Source) :
    changesOnly (everyLink ++ [.shutter .portA, .shutter .portB, .shutter .obs1, .shutter .obs2, .arc .a, .arc .b])
        (s.lockedDown x) (s.fireEntry x) ∧
      (∀ sh, (s.fireEntry x).shutterOf sh = if s.firesDown sh = true then s.droppedShutter else s.shutterOf sh) ∧
      (∀ p, (s.fireEntry x).arcOf p = (s.arcOf p).out) ∧
      notified
        ([s.noticeNow .fire x.code ([0, Source.setByte [x]] ++ s.fireHeat x)] ++
          ((shutterOrder.filter s.firesDown).map s.droppedNotice ++
            (([Projector.a, .b].filter fun p => decide ((s.arcOf p).state ≠ .off)).map fun p =>
              s.noticeNow .arcState p.code ([0, (s.arcOf p).state.code, 7] ++ half (s.arcOf p).carbon))))
        s (s.fireEntry x) := by
  let n := s.noticeNow .fire x.code ([0, Source.setByte [x]] ++ s.fireHeat x)
  have locked := s.lockedDown_changes x
  have route := route_changes (s.lockedDown x) n
  have fireTold : notified [n] s ((s.lockedDown x).route n) :=
    (notified_route (s.lockedDown x) n).before (fun l => locked.links l (by simp)) (locked .routing (by simp))
  have still (p : Projector) : (((s.lockedDown x).route n).chanOf p).state.running = false := by
    rw [show ((s.lockedDown x).route n).chanOf p = (s.chanOf p).safe from chanOf_bothSafe _ p, Channel.running_safe]
  obtain ⟨drives, shutters, arcs, told⟩ := drives_still still
  have shutter (sh : Shutter) : ((s.lockedDown x).route n).shutterOf sh = s.shutterOf sh :=
    locked (.shutter sh) (by simp)
  have arc (p : Projector) : ((s.lockedDown x).route n).arcOf p = s.arcOf p := locked (.arc p) (by simp)
  have count : ((s.lockedDown x).route n).motionCount = s.motionCount := locked .motionCount (by simp)
  have inputs : ((s.lockedDown x).route n).inputs = s.inputs := locked .inputs (by simp)
  have clock : ((s.lockedDown x).route n).prog.clock = s.prog.clock := clock_lockedDown s x
  have down : ((s.lockedDown x).route n).firesDown = s.firesDown := by
    funext sh
    simp only [firesDown, shutter]
  have notice : ((s.lockedDown x).route n).droppedNotice = s.droppedNotice := by
    funext sh
    simp only [droppedNotice, State.noticeNow, shutter, inputs, clock]
  have record : ((s.lockedDown x).route n).droppedShutter = s.droppedShutter := by simp only [droppedShutter, count]
  simp only [down, notice, arc, noticeNow_eq clock] at arcs told
  simp only [record, shutter] at shutters
  rw [down] at shutters
  rw [fireEntry_eq, fireNotice_lockedDown]
  exact ⟨(route.mono (by simp)).trans drives, shutters, arcs, fireTold.append told (locked .routing (by simp))⟩

end State

/-- Settles O44: the channels are made safe and the lights brought up in silence; the drives follow. -/
theorem fireEntry : Obligations.FireEntry := by
  intro x s t moved disarmed full
  have locked := s.lockedDown_changes x
  obtain ⟨drives, shutters, arcs, told⟩ := s.fireEntry_drives x
  have disarms (p : Projector) (plan : Plan) : disarmed p plan = (s.chanOf p).disarms plan := by
    simp only [disarmed, Channel.disarms]
    cases (s.chanOf p).state <;> cases (s.chanOf p).entry <;> rfl
  have safe := State.bothSafe_changes (s.setFire ⟨true, some x, [x], some s.prog.clock, true⟩)
  refine ⟨?_, fun p => ⟨?_, ?_, arcs p⟩, fun law => ?_, ?_, ?_, ?_, shutters, List.append_assoc _ _ _ ▸ told,
    fun b listed => ?_⟩
  · exact (drives .fire (by simp)).trans (safe .fire (by simp))
  · exact (drives (.chan p) (by simp)).trans (State.chanOf_bothSafe _ p)
  · exact (drives (.motion p) (by simp)).trans (State.motionOf_bothSafe _ p)
  · obtain ⟨token, sound⟩ := drives .token (by simp)
    obtain ⟨none, silent⟩ := State.token_bothSafe (s := s.setFire ⟨true, some x, [x], some s.prog.clock, true⟩) law
    exact ⟨token.trans none, fun same => sound.trans (silent same)⟩
  · rw [disarms, disarms]
    exact (drives .plan (by simp)).trans (State.plan_bothSafe _)
  · have lights := safe .lights (by simp)
    refine (drives .lights (by simp)).trans ?_
    rw [State.lights_setProg, State.lights_setLights, lights]
    rfl
  · have prog := safe .prog (by simp)
    refine (drives .prog (by simp)).trans ?_
    rw [State.prog_setProg, prog]
    rfl
  · refine Block.same_trans (locked b ?_) (drives b ?_) <;>
      · revert b
        decide

end Sys2Proof.Machine
end

section
/-! PROOF. The booth law (R41, R42, R77, R78, R99, R112, R129) as what every operation of a step keeps, block by
block. -/

namespace Sys2Proof.Machine

/-! ### One channel, one arc, one shutter, the lights -/

/-- R42: a douser and a motor follow the state of their channel. -/
def Channel.Fits (c : Channel) : Prop := c.douser = decide (c.state = .onScreen) ∧ c.motor = c.state.running

/-- R77, R78: a contactor and a strike phase follow the state of their arc. -/
def Arc.Fits (x : Arc) : Prop := x.contactor = x.state.closesContactor ∧ (x.phase = .none ↔ x.state ≠ .striking)

/-- R99: the lift and the hold follow the state of their shutter. -/
def ShutterRec.Fits (r : ShutterRec) : Prop := r.lift = r.state.lifts ∧ r.hold = r.state.holds

/-- R129: every group stands at full, and no fade runs. -/
def Lighting.Full (x : Lighting) : Prop := ∀ g, (x.groupAt g).level = 255 ∧ (x.groupAt g).active = false

/-- R130: the emergency stands as it was, and where it stands the groups stay at full. -/
def Lighting.Kept (x y : Lighting) : Prop := y.emergency = x.emergency ∧ (x.emergency = true → x.Full → y.Full)

theorem Arc.Fits.striking_of_phase {x : Arc} (h : x.Fits) (phase : x.phase ≠ .none) : x.state = .striking :=
  not_not.mp fun other => phase (h.2.mpr other)

theorem Arc.fits_become (x : Arc) {new : ArcState} (rests : new ≠ .striking) : (x.become new).Fits :=
  ⟨rfl, fun _ => rests, fun _ => rfl⟩

theorem Channel.Fits.of_off {c : Channel} (douser : c.douser = false) (motor : c.motor = false)
    (off : c.state.running = false) : c.Fits := by
  refine ⟨?_, motor.trans off.symm⟩
  rw [douser, decide_eq_false]
  intro screen
  rw [screen] at off
  cases off

theorem ChannelState.running_of_holding {x : ChannelState} (h : x.holding = true) : x.running = true := by
  cases x <;> first | rfl | cases h

/-! ### The law -/

/-- The booth law with the picture conditions asked of some projectors: of all in a state that stands, of all but one
between a change of one of that projector's conditions and its report (R43). -/
structure State.Booth (asked : Projector → Prop) (s : State) : Prop where
  token : ∀ p, s.token = some p ↔ (s.chanOf p).state.holding = true
  sound : s.sound = s.token
  chan : ∀ p, (s.chanOf p).Fits
  conditions : ∀ p, asked p → (s.chanOf p).state = .onScreen → s.pictureConditions p = true
  arc : ∀ p, (s.arcOf p).Fits
  shutter : ∀ sh, (s.shutterOf sh).Fits
  stop : s.fire.lockout = true ↔ s.prog.state = .fireStop
  emergency : s.lights.emergency = s.fire.lockout
  alarm : s.fire.alarm = s.fire.lockout
  motors : s.fire.lockout = true → ∀ p, (s.chanOf p).state.running = false
  arcs : s.fire.lockout = true → ∀ p, (s.arcOf p).state.closesContactor = false
  shutters : s.fire.lockout = true → ∀ sh, (s.shutterOf sh).state.holds = false
  full : s.fire.lockout = true → s.lights.Full

/-- The law of a state that stands. -/
abbrev State.Lawful (s : State) : Prop := s.Booth fun _ => True

theorem Projector.forall_both {P : Projector → Prop} : (∀ p ∈ Projector.both, P p) ↔ ∀ p, P p :=
  ⟨fun h p => h p (by cases p <;> simp), fun h p _ => h p⟩

theorem Shutter.forall_every {P : Shutter → Prop} : (∀ sh ∈ Shutter.every, P sh) ↔ ∀ sh, P sh :=
  ⟨fun h sh => h sh (by cases sh <;> simp), fun h sh _ => h sh⟩

theorem Group.forall_all {P : Group → Prop} : (∀ g ∈ Group.all, P g) ↔ ∀ g, P g :=
  ⟨fun h g => h g (by cases g <;> decide), fun h g _ => h g⟩

theorem ShutterRec.Fits.dark_iff {r : ShutterRec} (h : r.Fits) :
    (r.lift = false ∧ r.hold = false) ↔ r.state.holds = false := by
  rw [h.1, h.2]
  cases r.state <;> simp [ShutterState.lifts, ShutterState.holds]

theorem Channel.Fits.dark_iff {c : Channel} (h : c.Fits) :
    (c.motor = false ∧ c.douser = false) ↔ c.state.running = false := by
  rw [h.1, h.2]
  cases c.state <;> simp [ChannelState.running]

theorem boothLaw_iff (s : State) : s.boothLaw ↔ s.Lawful := by
  simp only [State.boothLaw, State.pictureLaw, State.tokenLaw, State.outputLaw, State.driveLaw, State.lockoutLaw,
    Projector.forall_both, Shutter.forall_every, Group.forall_all]
  constructor
  · rintro ⟨⟨token, sound, out⟩, ⟨arcs, shutters⟩, stop, emergency, alarm, off⟩
    have chan (p : Projector) : (s.chanOf p).Fits := ⟨(out p).1, (out p).2.1⟩
    refine ⟨token, sound, chan, fun p _ => (out p).2.2, arcs, shutters, stop, emergency, alarm, fun locked p => ?_,
      fun locked p => ?_, fun locked sh => (ShutterRec.Fits.dark_iff (shutters sh)).mp ((off locked).2.1 sh),
      fun locked => (off locked).2.2⟩
    · exact (chan p).dark_iff.mp ⟨((off locked).1 p).1, ((off locked).1 p).2.1⟩
    · exact (arcs p).1.symm.trans ((off locked).1 p).2.2
  · intro h
    refine ⟨⟨h.token, h.sound, fun p => ⟨(h.chan p).1, (h.chan p).2, h.conditions p trivial⟩⟩, ⟨h.arc, h.shutter⟩,
      h.stop, h.emergency, h.alarm, fun locked => ⟨fun p => ?_, fun sh => ?_, h.full locked⟩⟩
    · obtain ⟨motor, douser⟩ := (h.chan p).dark_iff.mpr (h.motors locked p)
      exact ⟨motor, douser, (h.arc p).1.trans (h.arcs locked p)⟩
    · exact (h.shutter sh).dark_iff.mpr (h.shutters locked sh)

namespace State

variable {asked : Projector → Prop} {s t : State} {p q : Projector}

theorem Booth.unlocked_of_running (h : s.Booth asked) (running : (s.chanOf p).state.running = true) :
    s.fire.lockout = false :=
  Bool.eq_false_iff.mpr fun locked => by simp [h.motors locked p] at running

/-! ### Changes elsewhere -/

/-- The blocks that the law is about. -/
abbrev boothBlocks : List Block :=
  [.chan .a, .chan .b, .token, .arc .a, .arc .b, .shutter .portA, .shutter .portB, .shutter .obs1, .shutter .obs2,
    .fire, .prog, .lights]

/-- The picture conditions of a projector turn on its arc, its port shutter and the lockout alone. -/
theorem pictureConditions_congr (arc : (t.arcOf p).state = (s.arcOf p).state)
    (shutter : (t.shutterOf p.port).state = (s.shutterOf p.port).state) (fire : t.fire.lockout = s.fire.lockout) :
    t.pictureConditions p = s.pictureConditions p := by
  simp only [State.pictureConditions, arc, shutter, fire]

/-- What leaves the channels, the token, the arcs, the shutters and the fire record alone keeps the law where it does
not enter or leave FIRE_STOP and keeps the lights in emergency. -/
theorem Booth.of_show {blocks : List Block} (h : s.Booth asked) (k : changesOnly blocks s t)
    (stop : t.prog.state = .fireStop ↔ s.prog.state = .fireStop) (lights : s.lights.Kept t.lights)
    (away : ∀ b ∈ boothBlocks, b ≠ .prog → b ≠ .lights → b ∉ blocks) : t.Booth asked := by
  have chan (p : Projector) : t.chanOf p = s.chanOf p := k (.chan p) (away _ (by cases p <;> simp) nofun nofun)
  have arc (p : Projector) : t.arcOf p = s.arcOf p := k (.arc p) (away _ (by cases p <;> simp) nofun nofun)
  have shutter (sh : Shutter) : t.shutterOf sh = s.shutterOf sh :=
    k (.shutter sh) (away _ (by cases sh <;> simp) nofun nofun)
  obtain ⟨token, sound⟩ := k .token (away _ (by simp) nofun nofun)
  have fire : t.fire = s.fire := k .fire (away _ (by simp) nofun nofun)
  have conditions (p : Projector) : t.pictureConditions p = s.pictureConditions p :=
    pictureConditions_congr (by rw [arc]) (by rw [shutter]) (by rw [fire])
  constructor
  case token => simpa only [token, chan] using h.token
  case sound => rw [sound, token, h.sound]
  case chan => simpa only [chan] using h.chan
  case conditions => simpa only [chan, conditions] using h.conditions
  case arc => simpa only [arc] using h.arc
  case shutter => simpa only [shutter] using h.shutter
  case stop => rw [fire, h.stop, stop]
  case emergency => rw [lights.1, h.emergency, fire]
  case alarm => rw [fire, h.alarm]
  case motors => simpa only [fire, chan] using h.motors
  case arcs => simpa only [fire, arc] using h.arcs
  case shutters => simpa only [fire, shutter] using h.shutters
  case full =>
    intro locked
    rw [fire] at locked
    exact lights.2 (h.emergency.trans locked) (h.full locked)

end State
end Sys2Proof.Machine
end

section
/-! PROOF. The updates that keep the booth law, and the show and its lights (R121 to R127, R154 to R162). -/

namespace Sys2Proof.Machine

/-! ### Lights in emergency (R129, R130) -/

namespace Lighting

variable {x y : Lighting}

theorem kept_refl (x : Lighting) : x.Kept x := ⟨rfl, fun _ full => full⟩

/-- R130: an action does nothing in emergency. -/
theorem kept_of_eq (emergency : y.emergency = x.emergency) (ignored : x.emergency = true → y = x) : x.Kept y :=
  ⟨emergency, fun locked full => ignored locked ▸ full⟩

theorem emergency_actOn (x : Lighting) (clock level fade : Nat) (source : FadeSource) (g : Group) :
    (x.actOn clock level fade source g).emergency = x.emergency := by
  unfold Lighting.actOn
  dsimp only
  split <;> rfl

theorem emergency_restoreOn (x : Lighting) (clock fade : Nat) (g : Group) :
    (x.restoreOn clock fade g).emergency = x.emergency := by
  unfold Lighting.restoreOn
  split
  · rfl
  · exact emergency_actOn x _ _ _ _ _

theorem emergency_foldl {f : Lighting → Group → Lighting} (same : ∀ y g, (f y g).emergency = y.emergency)
    (x : Lighting) : (Group.all.foldl f x).emergency = x.emergency :=
  List.foldlRecOn (motive := fun y => y.emergency = x.emergency) Group.all f rfl fun y hy g _ => (same y g).trans hy

theorem kept_act (x : Lighting) (clock : Nat) (mask : BitVec 4) (level fade : Nat) (source : FadeSource) :
    x.Kept (x.act clock mask level fade source) := by
  refine kept_of_eq ?_ fun locked => if_pos locked
  unfold Lighting.act
  split
  · rfl
  · refine emergency_foldl (fun y g => ?_) x
    split <;> [exact emergency_actOn y _ _ _ _ _; rfl]

theorem kept_breakAction (x : Lighting) (clock : Nat) (mask : BitVec 4) (level fade : Nat) :
    x.Kept (x.breakAction clock mask level fade) := by
  refine kept_of_eq ?_ fun locked => if_pos locked
  unfold Lighting.breakAction
  split
  · rfl
  · refine emergency_foldl (fun y g => ?_) x
    split <;> [exact emergency_actOn (y.setGroup g _) _ _ _ _ _; rfl]

theorem kept_restoreAction (x : Lighting) (clock fade : Nat) : x.Kept (x.restoreAction clock fade) := by
  refine kept_of_eq ?_ fun locked => if_pos locked
  unfold Lighting.restoreAction
  split
  · rfl
  · exact emergency_foldl (fun y g => emergency_restoreOn y clock fade g) x

/-- R122: a fade step leaves a group that does not fade. -/
theorem kept_stepped (x : Lighting) (g : Group) : x.Kept (x.setGroup g (x.groupAt g).stepped) := by
  refine ⟨rfl, fun _ full g' => ?_⟩
  have still : (x.groupAt g).stepped = x.groupAt g := by simp [GroupRec.stepped, (full g).2]
  by_cases same : g' = g
  · subst same
    rw [Lighting.setGroup, Lighting.groupAt, groupOf_set_self, still]
    exact full g'
  · rw [Lighting.setGroup, Lighting.groupAt, groupOf_set_ne _ _ same]
    exact full g'

end Lighting

namespace State

variable {asked : Projector → Prop} {s t : State} {p q : Projector}

/-! ### The updates elsewhere -/

theorem Booth.of_changes {blocks : List Block} (h : s.Booth asked) (k : changesOnly blocks s t)
    (away : ∀ b ∈ boothBlocks, b ∉ blocks) : t.Booth asked := by
  have prog : t.prog = s.prog := k .prog (away _ (by simp))
  have lights : t.lights = s.lights := k .lights (away _ (by simp))
  exact h.of_show k (by rw [prog]) (lights ▸ s.lights.kept_refl) fun b hb _ _ => away b hb

theorem Booth.setPlan (h : s.Booth asked) (x : Plan) : (s.setPlan x).Booth asked :=
  h.of_changes (setPlan_changes _ _) (by decide)

theorem Booth.setMotion (h : s.Booth asked) (m : Motion) : (s.setMotion p m).Booth asked :=
  h.of_changes (setMotion_changes _ _ _) (by simp)

theorem Booth.setHeat (h : s.Booth asked) (m : HeatMonitor) : (s.setHeat p m).Booth asked :=
  h.of_changes (setHeat_changes _ _ _) (by simp)

theorem Booth.setBus (h : s.Booth asked) (x : Bus) : (s.setBus x).Booth asked :=
  h.of_changes (setBus_changes _ _) (by decide)

theorem Booth.setPar (h : s.Booth asked) (x : Params) : (s.setPar x).Booth asked :=
  h.of_changes (setPar_changes _ _) (by decide)

theorem Booth.setInputs (h : s.Booth asked) (x : Inputs) : (s.setInputs x).Booth asked :=
  h.of_changes (setInputs_changes _ _) (by decide)

theorem Booth.setLink (h : s.Booth asked) (l : Connector) (k : Link) : (s.setLink l k).Booth asked :=
  h.of_changes (setLink_changes _ _ _) (by simp)

theorem Booth.passTo (h : s.Booth asked) (n : Nat) : (s.passTo n).Booth asked :=
  h.of_changes (passTo_changes _ _) (by decide)

theorem Booth.passToDue (h : s.Booth asked) (due : Option Nat) : (s.passToDue due).Booth asked :=
  h.of_changes (passToDue_changes _ _) (by decide)

theorem Booth.freeUsed (h : s.Booth asked) : s.freeUsed.Booth asked := h.of_changes (freeUsed_changes _) (by decide)

theorem Booth.notify (h : s.Booth asked) (kind : NoticeKind) (subject : Byte) (data : List Byte) :
    (s.notify kind subject data).Booth asked := h.of_changes (notify_changes _ _ _ _) (by decide)

theorem Booth.setLinkedState (h : s.Booth asked) (x : EntryState) : (s.setLinkedState p x).Booth asked :=
  h.of_changes (setLinkedState_changes _ _ _) (by decide)

theorem Booth.promoteProj (h : s.Booth asked) (point : TakeEffect) : (s.promoteProj p point).Booth asked := h.setPar _

/-! ### The show and the lights -/

theorem Booth.setProg (h : s.Booth asked) {x : Progress} (stop : x.state = .fireStop ↔ s.prog.state = .fireStop) :
    (s.setProg x).Booth asked :=
  h.of_show (setProg_changes _ _) stop s.lights.kept_refl (by simp)

theorem Booth.setProg_same (h : s.Booth asked) {x : Progress} (same : x.state = s.prog.state) :
    (s.setProg x).Booth asked := h.setProg (by rw [same])

/-- The show moves from and to states other than FIRE_STOP. -/
theorem Booth.setProg_open (h : s.Booth asked) {x : Progress} (was : s.prog.state ≠ .fireStop)
    (new : x.state ≠ .fireStop) : (s.setProg x).Booth asked := h.setProg (iff_of_false new was)

theorem Booth.setLights (h : s.Booth asked) {x : Lighting} (kept : s.lights.Kept x) : (s.setLights x).Booth asked :=
  h.of_show (setLights_changes _ _) Iff.rfl kept (by simp)

theorem Booth.applyAction (h : s.Booth asked) (x : Option LightAction) (source : FadeSource) :
    (s.applyAction x source).Booth asked := by
  cases x with
  | none => exact h
  | some y => exact h.setLights (Lighting.kept_act _ _ _ _ _ _)

theorem Booth.pictureLost (h : s.Booth asked) : s.pictureLost.Booth asked := by
  unfold State.pictureLost
  split
  · next running =>
    exact (h.setProg_open (by simp [running]) (by simp)).setLights (Lighting.kept_breakAction _ _ _ _ _)
  · exact h

theorem Booth.pictureRegained (h : s.Booth asked) : s.pictureRegained.Booth asked := by
  unfold State.pictureRegained
  split
  · next stalled =>
    exact (h.setProg_open (by simp [stalled]) (by simp)).setLights (Lighting.kept_restoreAction _ _ _)
  · exact h

theorem Booth.showPictureEnd (h : s.Booth asked) (i : Nat) (brk : BreakAfter) :
    (s.showPictureEnd i brk).Booth asked := by
  unfold State.showPictureEnd
  split
  · next shows =>
    have was : s.prog.state ≠ .fireStop := by rcases shows with shows | shows <;> simp [shows]
    cases brk with
    | absent => exact h
    | intermission duration action => exact ((h.setProg_open was (by simp)).applyAction _ _).notify _ _ _
    | ending action => exact ((h.setProg_open was (by simp)).applyAction _ _).notify _ _ _
  · exact h

theorem Booth.decideRollover (h : s.Booth asked) (was : s.prog.state ≠ .fireStop) : s.decideRollover.Booth asked := by
  have planned (x : Plan) : (s.setPlan x).prog.state ≠ .fireStop := was
  unfold State.decideRollover
  split
  · exact Booth.notify ((h.setPlan _).setProg_open (planned _) (by simp)) _ _ _
  · exact h

/-- R161, R162: the exhaustion test does nothing in FIRE_STOP. -/
theorem Booth.testExhausted (h : s.Booth asked) (atReelDone : Bool) : (s.testExhausted atReelDone).Booth asked := by
  have ended (x : Progress) (data : List Byte) (was : s.prog.state ≠ .fireStop) (new : x.state = .ended) :
      ((s.setProg x).notify .showEnd (indexByte s.prog.lastDone) data).decideRollover.Booth asked := by
    have new : x.state ≠ .fireStop := by simp [new]
    exact ((h.setProg_open was new).notify _ _ _).decideRollover new
  unfold State.testExhausted
  split
  · split
    case h_1 was | h_2 was | h_3 was => exact ended _ _ (by simp [was]) rfl
    case h_4 was => split <;> [exact h.decideRollover (by simp [was]); exact h]
    all_goals exact h
  · exact h

theorem Booth.showStarted (h : s.Booth asked) (byPanel : Bool) : (s.showStarted byPanel).Booth asked := by
  unfold State.showStarted
  dsimp only
  split
  case h_1 was => exact h.setProg_open (by simp [was]) (by simp)
  case h_2 was =>
    exact (h.setProg_open (by simp [was]) (by simp)).setLights (Lighting.kept_restoreAction _ _ _)
  case h_3 was =>
    split
    · split
      · exact Booth.setProg_open (h.notify _ _ _) (by simp [State.notify, State.route, was]) (by simp)
      · exact (Booth.setProg_open (h.notify _ _ _) (by simp [State.notify, State.route, was]) (by simp)).freeUsed
    · exact h.setProg_open (by simp [was]) (by simp)
  all_goals exact h

theorem Booth.finish (h : s.Booth asked) : s.finish.Booth asked := by
  have handed : s.handLights.Booth asked := by
    unfold State.handLights
    have taken := h.setLights (x := { s.lights with out := [] }) ⟨rfl, fun _ full => full⟩
    exact taken.of_changes (foldl_route_changes _ _) (by decide)
  exact handed.of_changes (blocks := everyLink) (startIdle_changes _) (by decide)

end State

end Sys2Proof.Machine
end

section
/-! PROOF. The changeover keeps the booth law (R41 to R73). -/

namespace Sys2Proof.Machine.State

variable {asked was : Projector → Prop} {s t : State} {p q : Projector}

/-! ### Channels and the token -/

/-- A channel record of projector p that goes with a token and with the drives of s. -/
structure Admits (s : State) (ask : Prop) (token : Option Projector) (p : Projector) (c : Channel) : Prop where
  token : token = some p ↔ c.state.holding = true
  fits : c.Fits
  conditions : ask → c.state = .onScreen → s.pictureConditions p = true
  live : c.state.running = true → s.fire.lockout = false

theorem Booth.admits (h : s.Booth asked) (p : Projector) : s.Admits (asked p) s.token p (s.chanOf p) :=
  ⟨h.token p, h.chan p, h.conditions p, h.unlocked_of_running⟩

/-- A channel whose motor is off, with a token that is not its own. -/
theorem admits_off {ask : Prop} {token : Option Projector} {c : Channel} (unheld : token ≠ some p)
    (douser : c.douser = false) (motor : c.motor = false) (off : c.state.running = false) :
    s.Admits ask token p c := by
  refine ⟨iff_of_false unheld fun holding => ?_, .of_off douser motor off, fun _ screen => ?_, fun running => ?_⟩
  · simp [ChannelState.running_of_holding holding] at off
  · simp [screen, ChannelState.running] at off
  · simp [off] at running

/-- A channel whose motor runs on. -/
theorem Booth.admits_running (h : s.Booth asked) {ask : Prop} {token : Option Projector} {c : Channel}
    (running : (s.chanOf p).state.running = true) (holder : token = some p ↔ c.state.holding = true)
    (met : ask → c.state = .onScreen → s.pictureConditions p = true) (runs : c.state.running = true := by rfl)
    (douser : c.douser = decide (c.state = .onScreen) := by rfl) (motor : c.motor = (s.chanOf p).motor := by rfl) :
    s.Admits ask token p c :=
  ⟨holder, ⟨douser, motor.trans ((h.chan p).2.trans (running.trans runs.symm))⟩, met,
    fun _ => h.unlocked_of_running running⟩

/-- What moves the channels and the token, and leaves the drives, the show and the lights, keeps the law where the new
channels and token go together. -/
theorem Booth.of_channels {blocks : List Block} (h : s.Booth was) (k : changesOnly blocks s t)
    (away : ∀ b ∈ boothBlocks, b ≠ .chan .a → b ≠ .chan .b → b ≠ .token → b ∉ blocks) (sound : t.sound = t.token)
    (admits : ∀ p, s.Admits (asked p) t.token p (t.chanOf p)) : t.Booth asked := by
  have arc (p : Projector) : t.arcOf p = s.arcOf p := k (.arc p) (away _ (by cases p <;> simp) nofun nofun nofun)
  have shutter (sh : Shutter) : t.shutterOf sh = s.shutterOf sh :=
    k (.shutter sh) (away _ (by cases sh <;> simp) nofun nofun nofun)
  have fire : t.fire = s.fire := k .fire (away _ (by simp) nofun nofun nofun)
  have prog : t.prog = s.prog := k .prog (away _ (by simp) nofun nofun nofun)
  have lights : t.lights = s.lights := k .lights (away _ (by simp) nofun nofun nofun)
  have same (p : Projector) : t.pictureConditions p = s.pictureConditions p :=
    pictureConditions_congr (by rw [arc]) (by rw [shutter]) (by rw [fire])
  constructor
  case token => exact fun p => (admits p).token
  case sound => exact sound
  case chan => exact fun p => (admits p).fits
  case conditions => simpa only [same] using fun p => (admits p).conditions
  case arc => simpa only [arc] using h.arc
  case shutter => simpa only [shutter] using h.shutter
  case stop => rw [fire, prog, h.stop]
  case emergency => rw [lights, fire, h.emergency]
  case alarm => rw [fire, h.alarm]
  case motors =>
    exact fun locked p => Bool.eq_false_iff.mpr fun running => by simp [fire, (admits p).live running] at locked
  case arcs => simpa only [fire, arc] using h.arcs
  case shutters => simpa only [fire, shutter] using h.shutters
  case full => simpa only [fire, lights] using h.full

/-- One channel's record changes, under the token as it stands. -/
theorem Booth.setChan (h : s.Booth was) {c : Channel} (others : ∀ q, q ≠ p → asked q → was q)
    (admits : s.Admits (asked p) s.token p c) : (s.setChan p c).Booth asked := by
  refine h.of_channels (setChan_changes s p c) (by cases p <;> simp) h.sound fun q => ?_
  rw [chanOf_setChan]
  split
  · next same => exact same ▸ admits
  · next other => exact { h.admits q with conditions := fun ask => h.conditions q (others q other ask) }

/-- A channel's record changes, its state and outputs staying as they are. -/
theorem Booth.setChan_same (h : s.Booth asked) {c : Channel} (state : c.state = (s.chanOf p).state := by rfl)
    (douser : c.douser = (s.chanOf p).douser := by rfl) (motor : c.motor = (s.chanOf p).motor := by rfl) :
    (s.setChan p c).Booth asked := by
  refine h.setChan (fun _ _ ask => ask) ⟨?_, ?_, ?_, ?_⟩
  · exact state ▸ h.token p
  · rw [Channel.Fits, douser, motor, state]
    exact h.chan p
  · exact state ▸ h.conditions p
  · exact state ▸ h.unlocked_of_running

/-- R41: a channel whose motor is off does not hold the token. -/
theorem Booth.token_ne_of_still (h : s.Booth asked) (still : (s.chanOf p).state.running = false) :
    s.token ≠ some p := by
  intro held
  rw [ChannelState.running_of_holding ((h.token p).mp held)] at still
  cases still

/-- A channel whose motor is off comes to another state with the motor off. -/
theorem Booth.setChan_still (h : s.Booth asked) {c : Channel} (still : (s.chanOf p).state.running = false)
    (off : c.state.running = false) (douser : c.douser = (s.chanOf p).douser := by rfl)
    (motor : c.motor = (s.chanOf p).motor := by rfl) : (s.setChan p c).Booth asked := by
  obtain ⟨motorOff, shut⟩ := (h.chan p).dark_iff.mpr still
  exact h.setChan (fun _ _ ask => ask)
    (admits_off (h.token_ne_of_still still) (douser.trans shut) (motor.trans motorOff) off)

/-! ### Halts and motor starts (R49 to R51, R69, R70) -/

theorem Booth.haltedOut (h : s.Booth asked) (cause : HaltCause) : (s.haltedOut p cause).Booth asked := by
  obtain ⟨here, -, token, sound⟩ := haltedOut_view s p cause
  have changes := haltedOut_changes s p cause
  refine h.of_channels changes (by cases p <;> simp) (by rw [token, sound, h.sound]) fun q => ?_
  by_cases same : q = p
  · subst same
    rw [here, token]
    exact admits_off (by split <;> simp_all) rfl rfl rfl
  · rw [show (s.haltedOut p cause).chanOf q = s.chanOf q from changes (.chan q) (by simp [same]), token]
    refine { h.admits q with token := ?_ }
    rw [← h.token q]
    split
    · next held => simp [held, Ne.symm same]
    · rfl

theorem Booth.halt (h : s.Booth asked) (cause : HaltCause) : (s.halt p cause).Booth asked := by
  cases running : (s.chanOf p).state.running with
  | false => rwa [halt_still running]
  | true =>
    rw [halt_running running]
    split <;> [exact (h.haltedOut cause).pictureLost; exact h.haltedOut cause]

theorem Booth.disarmChannel (h : s.Booth asked) (still : (s.chanOf p).state.running = false) :
    (s.disarmChannel p).Booth asked := by
  rw [disarmChannel_eq]
  refine (h.setLinkedState .threaded).setChan_still ?_ rfl ?_ ?_ <;> simp only [chanOf_setLinkedState]
  exact still

theorem Booth.makeSafe (h : s.Booth asked) (cause : HaltCause) : (s.makeSafe p cause).Booth asked := by
  by_cases armed : (s.chanOf p).state = .armed
  · rw [makeSafe_armed armed]
    exact h.disarmChannel (by rw [armed]; rfl)
  · rw [makeSafe_halts armed]
    exact h.halt cause

/-- R51: a motor start of an ARMED channel, outside the lockout. -/
theorem Booth.motorRuns (h : s.Booth asked) (armed : (s.chanOf p).state = .armed) (unlocked : s.fire.lockout = false) :
    (s.motorRuns p).Booth asked := by
  have prepared := (h.promoteProj (p := p) .nextStart).setLinkedState (p := p) .running
  have token : ((s.promoteProj p .nextStart).setLinkedState p .running).token = s.token :=
    (setLinkedState_changes _ p _ .token (by simp)).1
  have fire : ((s.promoteProj p .nextStart).setLinkedState p .running).fire = s.fire :=
    setLinkedState_changes _ p _ .fire (by simp)
  obtain ⟨-, shut⟩ := (h.chan p).dark_iff.mpr (by rw [armed]; rfl)
  rw [motorRuns_eq]
  have unheld := h.token_ne_of_still (p := p) (by rw [armed]; rfl)
  refine Booth.setMotion (prepared.setChan (fun _ _ ask => ask) ⟨?_, ⟨shut, rfl⟩, by simp [Channel.started], fun _ =>
    ?_⟩) _
  · rw [token]
    exact iff_of_false unheld (by simp [Channel.started, ChannelState.holding])
  · rw [fire, unlocked]

theorem Booth.filmAtStart (h : s.Booth asked) : (s.filmAtStart p).Booth asked := by
  unfold State.filmAtStart
  split <;> [exact h; exact h.halt _]

theorem Booth.startMotor (h : s.Booth asked) (armed : (s.chanOf p).state = .armed)
    (unlocked : s.fire.lockout = false) : (s.startMotor p).Booth asked := (h.motorRuns armed unlocked).filmAtStart

theorem Booth.lateStart (h : s.Booth asked) (unlocked : s.fire.lockout = false) : (s.lateStart p).Booth asked := by
  rw [lateStart_eq]
  split
  · next due => exact h.startMotor due.1 unlocked
  · exact h

end Sys2Proof.Machine.State
end

section
/-! PROOF. The picture, the cues and the ends of reels keep the booth law (R52 to R73). -/

namespace Sys2Proof.Machine.State

variable {asked was : Projector → Prop} {s t : State} {p q : Projector}

/-! ### The screen (R41, R42, R59, R60) -/

/-- R41: the token is the channel's own or none, so that no other channel holds it. -/
theorem Booth.unheld (h : s.Booth asked) (free : s.token = none ∨ s.token = some p) (other : q ≠ p) :
    (s.chanOf q).state.holding = false := by
  refine Bool.eq_false_iff.mpr fun holding => ?_
  rcases free with none | own
  · simp [(h.token q).mpr holding] at none
  · exact other (Option.some.inj (((h.token q).mpr holding).symm.trans own))

/-- R41, R42: a channel whose reel runs and whose picture conditions hold takes the screen from no other. -/
theorem Booth.takeScreen (h : s.Booth asked) (free : s.token = none ∨ s.token = some p)
    (running : (s.chanOf p).state.running = true) (met : s.pictureConditions p = true) :
    (s.takeScreen p).Booth asked := by
  have changes : changesOnly [.chan p, .token] s (s.takeScreen p) :=
    ((setChan_changes s p _).mono (by simp)).andThen (setToken_changes _ _) (by simp)
  refine h.of_channels changes (by cases p <;> simp) rfl fun q => ?_
  by_cases same : q = p
  · subst same
    have here : (s.takeScreen q).chanOf q = { s.chanOf q with state := .onScreen, douser := true } :=
      chanOf_setChan_self s q _
    rw [here]
    exact h.admits_running running (iff_of_true rfl rfl) fun _ _ => met
  · rw [show (s.takeScreen p).chanOf q = s.chanOf q from changes (.chan q) (by simp [same])]
    refine { h.admits q with token := iff_of_false ?_ ?_ }
    · exact fun own => same (Option.some.inj own).symm
    · simp [h.unheld free same]

/-- R59, R62: the holder's reel leaves the screen, and no channel takes it. -/
theorem Booth.leaveScreen_none (h : s.Booth asked) (holding : (s.chanOf p).state.holding = true) (deferred : Bool) :
    ((s.leaveScreen p deferred).setToken none).Booth asked := by
  have changes : changesOnly [.chan p, .token] s ((s.leaveScreen p deferred).setToken none) :=
    ((setChan_changes s p _).mono (by simp)).andThen (setToken_changes _ _) (by simp)
  have running := ChannelState.running_of_holding holding
  refine h.of_channels changes (by cases p <;> simp) rfl fun q => ?_
  by_cases same : q = p
  · subst same
    have here : ((s.leaveScreen q deferred).setToken none).chanOf q =
        { s.chanOf q with state := .tail, douser := false, pastPicture := true, deferred := deferred } :=
      chanOf_setChan_self s q _
    rw [here]
    exact h.admits_running running (iff_of_false nofun nofun) fun _ => nofun
  · rw [show ((s.leaveScreen p deferred).setToken none).chanOf q = s.chanOf q from changes (.chan q) (by simp [same])]
    refine { h.admits q with token := iff_of_false nofun ?_ }
    simp [h.unheld (.inr ((h.token p).mpr holding)) same]

theorem Booth.positionTo (h : s.Booth asked) : (s.positionTo p).Booth asked := h.setProg_same (by rfl)

theorem Booth.applyStart (h : s.Booth asked) : (s.applyStart p).Booth asked := h.applyAction _ _

theorem Booth.swapNotice (h : s.Booth asked) (kind : SwapKind) (before : State) :
    (s.swapNotice p q kind before).Booth asked := by
  cases kind <;> exact h.notify _ _ _

/-- R60: a swap is the holder's leaving the screen and the incoming channel's taking it. -/
theorem takeScreen_leaveScreen (s : State) (out inc : Projector) (deferred : Bool) :
    (s.leaveScreen out deferred).takeScreen inc = ((s.leaveScreen out deferred).setToken none).takeScreen inc := rfl

/-- R60: a swap from the holder to a channel that is ready for picture. -/
theorem Booth.swap (h : s.Booth asked) (out : (s.chanOf p).state.holding = true) (inc : s.readyForPicture q = true)
    (kind : SwapKind) : (s.swap p q kind).Booth asked := by
  obtain ⟨ready, met⟩ := (readyForPicture_iff s q).mp inc
  have other : q ≠ p := by
    rintro rfl
    simp [ready, ChannelState.holding] at out
  have left := h.leaveScreen_none out false
  have chan : ((s.leaveScreen p false).setToken none).chanOf q = s.chanOf q := chanOf_setChan_ne s _ other
  have taken := left.takeScreen (p := q) (.inl rfl) (by rw [chan, ready]; rfl) met
  have swapped := (Booth.swapNotice (p := p) (q := q) (taken.positionTo (p := q)) kind s).applyStart (p := q)
  unfold State.swap
  rw [takeScreen_leaveScreen]
  dsimp only
  split <;> [exact swapped.pictureRegained; exact swapped]

/-- R68: a channel that START_SHOW awaits goes on the screen, with no holder. -/
theorem Booth.openScreen (h : s.Booth asked) (free : s.token = none) (ready : s.readyForPicture p = true) :
    (s.openScreen p).Booth asked := by
  obtain ⟨state, met⟩ := (readyForPicture_iff s p).mp ready
  have running : (s.chanOf p).state.running = true := by rw [state]; rfl
  exact Booth.lateStart (Booth.setChan_same (h.takeScreen (.inl free) running met)) (h.unlocked_of_running running)

/-- R66: a recovery, with no holder. -/
theorem Booth.recover (h : s.Booth asked) (free : s.token = none) (ready : s.readyForPicture p = true) :
    (s.recover p).Booth asked := by
  obtain ⟨state, met⟩ := (readyForPicture_iff s p).mp ready
  have running : (s.chanOf p).state.running = true := by rw [state]; rfl
  refine Booth.lateStart (((h.takeScreen (.inl free) running met).positionTo.notify _ _ _).pictureRegained) ?_
  rw [show (((s.takeScreen p).positionTo p).notify _ _ _).pictureRegained.fire = s.fire from
    pictureRegained_changes _ .fire (by simp)]
  exact h.unlocked_of_running running

theorem Booth.becomesReady (h : s.Booth asked) (ready : s.readyForPicture p = true) :
    (s.becomesReady p).Booth asked := by
  unfold State.becomesReady
  split
  · next holder token =>
    split
    · exact h.swap ((h.token holder).mp token) ready _
    · exact h
  · next free =>
    split <;> [exact h.openScreen free ready; split <;> [exact h.recover free ready; exact h]]

/-- R52: the speed is reached. -/
theorem Booth.speedReached (h : s.Booth asked) : (s.speedReached p).Booth asked := by
  unfold State.speedReached
  split
  · next starting =>
    have running : (s.chanOf p).state.running = true := by rw [starting]; rfl
    have unheld : s.token ≠ some p := fun own => by
      have held := (h.token p).mp own
      simp [starting, ChannelState.holding] at held
    have ready : (s.setChan p { s.chanOf p with state := .ready, runup := .none, runupDue := none }).Booth asked := by
      refine h.setChan (fun _ _ ask => ask)
        (h.admits_running running (iff_of_false unheld nofun) (fun _ => nofun) rfl ?_)
      exact (h.chan p).1.trans (by simp [starting])
    dsimp only
    split
    · next met => exact (ready.notify _ _ _).becomesReady met
    · exact ready.notify _ _ _
  · exact h

/-! ### Reports of picture conditions (R43, R64, R65) -/

/-- A projector whose channel is not on the screen, or whose conditions hold, needs no report. -/
theorem Booth.of_reported (h : s.Booth (· ≠ p)) (met : (s.chanOf p).state = .onScreen → s.pictureConditions p = true) :
    s.Lawful := by
  refine { h with conditions := fun q _ => ?_ }
  by_cases same : q = p
  · exact same ▸ met
  · exact h.conditions q same

/-- R43: a report of the projector whose conditions have changed leaves the law whole. -/
theorem Booth.conditionsReported (h : s.Booth (· ≠ p)) : (s.conditionsReported p).Lawful := by
  have elsewhere (away : (s.chanOf p).state ≠ .onScreen) : s.Lawful := h.of_reported fun screen => absurd screen away
  unfold State.conditionsReported
  dsimp only
  split
  case h_1 screen =>
    split
    · next met => exact h.of_reported fun _ => met
    · refine Booth.pictureLost (h.setChan (fun _ other _ => other) ?_)
      have running : (s.chanOf p).state.running = true := by rw [screen]; rfl
      exact h.admits_running running ((h.token p).trans (by simp [screen, ChannelState.holding])) fun _ => nofun
  case h_2 dark =>
    have whole := elsewhere (by simp [dark])
    split
    · next met =>
      have running : (s.chanOf p).state.running = true := by rw [dark]; rfl
      refine Booth.pictureRegained (Booth.notify (whole.setChan (fun _ _ ask => ask) ?_) _ _ _)
      exact h.admits_running running ((h.token p).trans (by simp [dark, ChannelState.holding])) fun _ _ => met
    · exact whole
  case h_3 ready =>
    have whole := elsewhere (by simp [ready])
    split
    · next met => exact whole.becomesReady ((readyForPicture_iff s p).mpr ⟨ready, met⟩)
    · exact whole
  all_goals
    next state => exact elsewhere (by simp [state])

end Sys2Proof.Machine.State
end

section
/-! PROOF. The cues, the footage points and the ends of reels keep the booth law (R53 to R59, R62, R72, R73). -/

namespace Sys2Proof.Machine

/-- R72, R73: the record of a channel whose reel is finished. -/
abbrev Channel.finished (c : Channel) : Channel :=
  { c with state := .idle, entry := none, deferred := false, pastPicture := false }

namespace State

variable {asked : Projector → Prop} {s t : State} {p q : Projector}

/-! ### Cues and the reel end (R53 to R59, R62) -/

theorem Booth.pictureEnd (h : s.Booth asked) (holding : (s.chanOf p).state.holding = true) :
    (s.pictureEnd p).Booth asked := by
  have left := h.leaveScreen_none holding (s.chanOf p).deferred
  unfold State.pictureEnd
  dsimp only
  split <;> [exact left.showPictureEnd _ _; exact left]

theorem Booth.runOut (h : s.Booth asked) (holding : (s.chanOf p).state.holding = true) : (s.runOut p).Booth asked :=
  ((h.leaveScreen_none holding true).notify _ _ _).pictureLost

theorem Booth.reelEnds (h : s.Booth asked) (holding : (s.chanOf p).state.holding = true) :
    (s.reelEnds p).Booth asked := by
  unfold State.reelEnds
  split <;> [exact h.pictureEnd holding; exact h.runOut holding]

theorem Booth.takeMotorCue (h : s.Booth asked) (holding : (s.chanOf p).state.holding = true) (cause : CueCause) :
    (s.takeMotorCue p cause).Booth asked := by
  have unlocked := h.unlocked_of_running (ChannelState.running_of_holding holding)
  have taken (data : List Byte) : ((s.setChan p { s.chanOf p with motorCueTaken := true }).notify .cueMotor p.code
      data).Booth asked := h.setChan_same.notify _ _ _
  have alone (data : List Byte) : (((s.setChan p { s.chanOf p with motorCueTaken := true }).notify .cueMotor p.code
      data).noIncoming p).Booth asked := (taken data).notify _ _ _
  unfold State.takeMotorCue
  dsimp only
  split
  · exact taken _
  · split
    · split
      case h_1 armed => exact (taken _).startMotor armed unlocked
      case h_2 | h_3 => exact taken _
      all_goals exact alone _
    · exact alone _

theorem Booth.defer (h : s.Booth asked) (unlocked : s.fire.lockout = false) : (s.defer p).Booth asked := by
  have deferred : (s.setChan p { s.chanOf p with deferred := true }).Booth asked := h.setChan_same
  unfold State.defer
  dsimp only
  split
  · split
    · next armed => exact deferred.startMotor armed unlocked
    · exact deferred
  · exact deferred

theorem Booth.takeChange (h : s.Booth asked) (holding : (s.chanOf p).state.holding = true) (cause : CueCause) :
    (s.takeChange p cause).Booth asked := by
  have taken (data : List Byte) : ((s.setChan p { s.chanOf p with changeTaken := true }).notify .cueChange p.code
      data).Booth asked := h.setChan_same.notify _ _ _
  have here (data : List Byte) : (((s.setChan p { s.chanOf p with changeTaken := true }).notify .cueChange p.code
      data).chanOf p).state.holding = true := by
    rw [show ((s.setChan p { s.chanOf p with changeTaken := true }).notify .cueChange p.code data).chanOf p =
      { s.chanOf p with changeTaken := true } from chanOf_setChan_self s p _]
    exact holding
  have unlocked := h.unlocked_of_running (ChannelState.running_of_holding holding)
  unfold State.takeChange
  dsimp only
  split
  · exact (taken _).pictureEnd (here _)
  · split
    · split
      · next ready => exact (taken _).swap (here _) ready _
      · exact (taken _).defer unlocked
    · exact (taken _).defer unlocked

theorem Booth.foilEvent (h : s.Booth asked) (holding : (s.chanOf p).state.holding = true) :
    (s.foilEvent p).Booth asked := by
  have counted : (s.setChan p { s.chanOf p with foilCount := min ((s.chanOf p).foilCount + 1) 255 }).Booth asked :=
    h.setChan_same
  have here : ((s.setChan p { s.chanOf p with foilCount := min ((s.chanOf p).foilCount + 1) 255 }).chanOf
      p).state.holding = true := by rwa [chanOf_setChan_self]
  unfold State.foilEvent
  dsimp only
  split
  · exact counted
  · split
    · exact counted
    all_goals
      split <;> [skip; split]
      · exact counted.takeMotorCue here _
      · exact counted.takeChange here _
      · exact counted.notify _ _ _

theorem Booth.footagePoint (h : s.Booth asked) (holding : (s.chanOf p).state.holding = true) (x : FootagePoint) :
    (s.footagePoint p x).Booth asked := by
  have missing (which : Byte) : (s.foilMissing p which).Booth asked := h.notify _ _ _
  unfold State.footagePoint
  dsimp only
  split
  · exact h
  · cases x <;> dsimp only
    · split <;> [exact h.takeMotorCue holding _; exact h]
    · split <;> [exact (missing 0).takeMotorCue holding _; exact h]
    · split <;> [exact h.takeChange holding _; exact h]
    · split <;> [exact (missing 1).takeChange holding _; exact h]
    · exact h.reelEnds holding
    · exact h

/-! ### The end of a reel (R72, R73) -/

/-- The entry's part of a reel's end, and SHW's, leave the law to the channel's part. -/
theorem Booth.finishReel (h : (s.setChan p (s.chanOf p).finished).Booth asked) : (s.finishReel p).Booth asked := by
  unfold State.finishReel
  dsimp only
  split
  · exact h
  · exact ((((h.setPlan _).notify _ _ _).setProg_same (by rfl))).testExhausted _

/-- R73: the motor stops and the reel is finished. -/
theorem Booth.reelDone (h : s.Booth asked) : (s.reelDone p).Booth asked := by
  unfold State.reelDone
  split
  · next tail =>
    obtain ⟨douser, -⟩ := h.chan p
    have unheld : s.token ≠ some p := fun own => by
      have held := (h.token p).mp own
      simp [tail, ChannelState.holding] at held
    have finished : ((s.setChan p { (s.chanOf p).finished with motor := false }).setMotion p
        (s.motionOf p).stopped).Booth asked :=
      (h.setChan (fun _ _ ask => ask) (admits_off unheld (by simp [douser, tail]) rfl rfl)).setMotion _
    refine Booth.finishReel ?_
    rw [stopMotor_eq]
    have here : ((s.setChan p { s.chanOf p with motor := false }).setMotion p (s.motionOf p).stopped).chanOf p =
        { s.chanOf p with motor := false } := chanOf_setChan_self s p _
    rw [here]
    refine cast (congrArg _ ?_) finished
    exact (congrArg (·.setMotion p (s.motionOf p).stopped) (setChan_setChan s p _ _)).symm
  · exact h

theorem Booth.filmGone (h : s.Booth asked) : (s.filmGone p).Booth asked := by
  unfold State.filmGone
  split <;> first
    | exact h
    | exact h.halt _
    | exact h.reelDone

/-! ### Film motion (R23 to R36) -/

theorem Booth.testSpeed (h : s.Booth asked) : (s.testSpeed p).Booth asked := by
  unfold State.testSpeed
  dsimp only
  split <;> [exact ((h.setMotion _).setMotion _).speedReached; exact h.setMotion _]

theorem Booth.tryPoint (h : s.Booth asked) (x : FootagePoint) : (s.tryPoint p x).Booth asked := by
  unfold State.tryPoint
  split
  · next due =>
    simp only [Bool.and_eq_true] at due
    exact (h.setMotion _).footagePoint due.1.1 x
  · exact h

theorem Booth.testPoints (h : s.Booth asked) : (s.testPoints p).Booth asked := by
  have tried (points : List FootagePoint) : (points.foldl (State.tryPoint p) s).Booth asked :=
    List.foldlRecOn (motive := Booth asked) _ _ h fun _ hu x _ => hu.tryPoint x
  have tail : (s.tryTailEnd p).Booth asked := by
    unfold State.tryTailEnd
    split <;> [exact (h.setMotion _).reelDone; exact h]
  unfold State.testPoints
  split <;> first
    | exact h
    | exact tried _
    | exact tail

theorem Booth.pulse (h : s.Booth asked) : (s.pulse p).Booth asked := by
  have counted {t : State} (ht : t.Booth asked) : (t.countFrame p).Booth asked := by
    unfold State.countFrame
    split <;> [exact (ht.setMotion _).testPoints; exact ht]
  unfold State.pulse
  split <;> [exact h; exact counted (h.setMotion _).testSpeed]

theorem Booth.foilActivation (h : s.Booth asked) : (s.foilActivation p).Booth asked := by
  unfold State.foilActivation
  split
  · next activated =>
    simp only [Bool.and_eq_true] at activated
    exact (h.setMotion _).foilEvent activated.1
  · exact h

end State

end Sys2Proof.Machine
end

section
/-! PROOF. Arcs, shutters, heat and fire keep the booth law (R77 to R118). -/

namespace Sys2Proof.Machine

theorem Arc.out_fits {x : Arc} (h : x.Fits) : x.out.Fits := by
  unfold Arc.out
  split <;> [exact h; exact x.fits_become nofun]

theorem Arc.state_out (x : Arc) : x.out.state = .off := by
  unfold Arc.out
  split <;> [assumption; rfl]

theorem Channel.safe_fits {c : Channel} (h : c.Fits) : c.safe.Fits := by
  obtain ⟨douser, motor⟩ := h
  unfold Channel.safe
  split
  · next armed => exact ⟨by simp [douser, armed], by rw [motor, armed]; rfl⟩
  · split <;> [exact ⟨rfl, rfl⟩; exact ⟨douser, motor⟩]

/-- R106: a port shutter reports to its own projector. -/
theorem Projector.projector_port (p : Projector) : p.port.projector = some p := by cases p <;> rfl

namespace State

variable {asked : Projector → Prop} {s t : State} {p q : Projector}

/-- The law with the picture conditions asked of fewer projectors. -/
theorem Booth.mono {less : Projector → Prop} (h : s.Booth asked) (sub : ∀ q, less q → asked q) : s.Booth less :=
  { h with conditions := fun q ask => h.conditions q (sub q ask) }

/-! ### Arcs (R78 to R96) -/

/-- One arc's record changes; its own projector's picture conditions are to be reported. -/
theorem Booth.setArc (h : s.Lawful) {x : Arc} (fits : x.Fits)
    (live : x.state.closesContactor = true → s.fire.lockout = false) : (s.setArc p x).Booth (· ≠ p) := by
  have conditions (q : Projector) (other : q ≠ p) : (s.setArc p x).pictureConditions q = s.pictureConditions q :=
    pictureConditions_congr (by rw [arcOf_setArc_ne s x other]) rfl rfl
  refine { h with conditions := fun q other screen => ?_, arc := fun q => ?_, arcs := fun locked q => ?_ }
  · rw [conditions q other]
    exact h.conditions q trivial screen
  · by_cases same : q = p
    · rwa [same, arcOf_setArc_self]
    · rw [arcOf_setArc_ne s x same]
      exact h.arc q
  · by_cases same : q = p
    · rw [same, arcOf_setArc_self]
      exact Bool.eq_false_iff.mpr fun closed => Bool.false_ne_true ((live closed).symm.trans locked)
    · rw [arcOf_setArc_ne s x same]
      exact h.arcs locked q

/-- One arc's record changes, its state staying as it is. -/
theorem Booth.setArc_fits (h : s.Lawful) {x : Arc} (fits : x.Fits) (state : x.state = (s.arcOf p).state) :
    (s.setArc p x).Lawful := by
  have unlocked (closed : x.state.closesContactor = true) : s.fire.lockout = false :=
    Bool.eq_false_iff.mpr fun locked => by simp [state, h.arcs locked p] at closed
  have conditions : (s.setArc p x).pictureConditions p = s.pictureConditions p :=
    pictureConditions_congr (by rw [arcOf_setArc_self, state]) rfl rfl
  refine (Booth.setArc h fits unlocked).of_reported fun screen => conditions.trans ?_
  exact h.conditions p trivial screen

/-- One arc's record changes, its state, contactor and phase staying as they are. -/
theorem Booth.setArc_same (h : s.Lawful) {x : Arc} (state : x.state = (s.arcOf p).state := by rfl)
    (contactor : x.contactor = (s.arcOf p).contactor := by rfl) (phase : x.phase = (s.arcOf p).phase := by rfl) :
    (s.setArc p x).Lawful := by
  refine h.setArc_fits ?_ state
  rw [Arc.Fits, contactor, phase, state]
  exact h.arc p

/-- R78: an arc comes to a state other than STRIKING; only one that burns needs the lockout away. -/
theorem Booth.arcTo (h : s.Lawful) (new : ArcState) (rests : new ≠ .striking)
    (live : new.closesContactor = true → s.fire.lockout = false) (cause : ArcCause) :
    (s.arcTo p new cause).Lawful :=
  (Booth.notify (Booth.setArc h ((s.arcOf p).fits_become rests) live) _ _ _).conditionsReported

/-- R78: an arc goes out. -/
theorem Booth.arcEnds (h : s.Lawful) {new : ArcState} (cause : ArcCause)
    (dark : new.closesContactor = false := by rfl) : (s.arcTo p new cause).Lawful := by
  refine h.arcTo new ?_ (fun closed => absurd closed (by simp [dark])) cause
  rintro rfl
  cases dark

theorem Booth.putOut (h : s.Lawful) (cause : ArcCause) : (s.putOut p cause).Lawful := by
  unfold State.putOut
  split <;> [exact h; exact h.arcEnds _]

theorem Booth.exhaustArc (h : s.Lawful) : (s.exhaustArc p).Lawful := (h.notify _ _ _).arcEnds _

theorem Booth.failStrike (h : s.Lawful) : (s.failStrike p).Lawful := (h.notify _ _ _).arcEnds _

theorem Booth.beginStrike (h : s.Lawful) (unlocked : s.fire.lockout = false) : (s.beginStrike p).Lawful := by
  refine (Booth.notify (Booth.setArc h ?_ fun _ => unlocked) _ _ _).conditionsReported
  exact ⟨rfl, iff_of_false nofun (not_not_intro rfl)⟩

theorem Booth.testTouch (h : s.Lawful) : (s.testTouch p).Lawful := by
  unfold State.testTouch
  split
  · next touches =>
    have striking := (h.arc p).striking_of_phase (by rw [touches.1]; nofun)
    exact h.setArc_fits ⟨(h.arc p).1, iff_of_false nofun (not_not_intro striking)⟩ rfl
  · exact h

/-- R82: the arc that a draw leaves LIT was STRIKING, which the lockout forbids. -/
theorem Booth.endDraw (h : s.Lawful) (draws : (s.arcOf p).phase = .draw) : (s.endDraw p).Lawful := by
  have striking := (h.arc p).striking_of_phase (by rw [draws]; nofun)
  have unlocked : s.fire.lockout = false :=
    Bool.eq_false_iff.mpr fun locked => by simpa [striking, ArcState.closesContactor] using h.arcs locked p
  unfold State.endDraw
  split
  · split
    · exact Booth.arcTo h.setArc_same .lit (by decide) (fun _ => unlocked) _
    · exact h.exhaustArc
  · exact h.failStrike

theorem Booth.completeBucket (h : s.Lawful) : (s.completeBucket p).Lawful := by
  unfold State.completeBucket State.runningCheck
  dsimp only
  split <;> [exact Booth.setArc_same (Booth.notify h.setArc_same _ _ _); exact h.setArc_same]

theorem Booth.regulate (h : s.Lawful) : (s.regulate p).Lawful := by
  have fed : (s.feed p).Lawful := h.setArc_same
  have counted {t : State} (ht : t.Lawful) : (t.countInterval p).Lawful := by
    unfold State.countInterval
    split <;> [exact ht.completeBucket; exact ht.setArc_same]
  unfold State.regulate
  dsimp only
  split
  · exact h.arcEnds _
  · split
    · exact fed.exhaustArc
    · split
      · exact Booth.arcEnds (fed.setArc_same) _
      · exact counted fed.setArc_same

theorem Booth.stubChanged (h : s.Lawful) : (s.stubChanged p).Lawful := by
  unfold State.stubChanged
  split <;> [exact h.exhaustArc; exact h]

theorem Booth.loadCarbon (h : s.Lawful) (length : Nat) : (s.loadCarbon p length).Lawful := by
  unfold State.loadCarbon
  dsimp only
  split <;> [exact h.setArc_same; exact Booth.arcEnds h.setArc_same _]

/-! ### Shutters (R99 to R106) -/

/-- One shutter's record changes; the picture conditions of the projector it serves are to be reported. -/
theorem Booth.placeShutter (h : s.Lawful) (sh : Shutter) {new : ShutterState}
    (live : new.holds = true → s.fire.lockout = false) (cause : ShutterCause) :
    (s.placeShutter sh new cause).Booth fun q => q.port ≠ sh := by
  have here : (s.placeShutter sh new cause).shutterOf sh = _ := shutterOf_setShutter_self s sh _
  have away {sh' : Shutter} (other : sh' ≠ sh) : (s.placeShutter sh new cause).shutterOf sh' = s.shutterOf sh' :=
    shutterOf_setShutter_ne s _ other
  have conditions (q : Projector) (other : q.port ≠ sh) :
      (s.placeShutter sh new cause).pictureConditions q = s.pictureConditions q :=
    pictureConditions_congr rfl (by rw [away other]) rfl
  refine { h with conditions := fun q other screen => ?_, shutter := fun sh' => ?_, shutters := fun locked sh' => ?_ }
  · rw [conditions q other]
    exact h.conditions q trivial screen
  · by_cases same : sh' = sh
    · rw [same, here]
      exact ⟨rfl, rfl⟩
    · rw [away same]
      exact h.shutter sh'
  · by_cases same : sh' = sh
    · rw [same, here]
      exact Bool.eq_false_iff.mpr fun held => Bool.false_ne_true ((live held).symm.trans locked)
    · rw [away same]
      exact h.shutters locked sh'

theorem Booth.shutterTo (h : s.Lawful) (sh : Shutter) {new : ShutterState}
    (live : new.holds = true → s.fire.lockout = false) (cause : ShutterCause) :
    (s.shutterTo sh new cause).Lawful := by
  have placed := (h.placeShutter sh live cause).notify .shutterState sh.code
    [((s.placeShutter sh new cause).shutterOf sh).state.code, (s.shutterOf sh).state.code,
      ((s.placeShutter sh new cause).shutterOf sh).lastCause.code, sensesByte (s.placeShutter sh new cause) sh]
  unfold State.shutterTo
  dsimp only
  split
  · next p serves =>
    refine (placed.mono fun q other port => other ?_).conditionsReported
    have same := Projector.projector_port q
    rw [port, serves] at same
    exact (Option.some.inj same).symm
  · next none =>
    refine placed.mono fun q _ port => ?_
    rw [← port, Projector.projector_port] at none
    cases none

/-- R99: a raised shutter needs the lockout away. -/
theorem Booth.unlocked_of_holds (h : s.Booth asked) {sh : Shutter} (holds : (s.shutterOf sh).state.holds = true) :
    s.fire.lockout = false :=
  Bool.eq_false_iff.mpr fun locked => by simp [h.shutters locked sh] at holds

theorem holds_jammedOrDown (s : State) (sh : Shutter) : (s.jammedOrDown sh).holds = false := by
  unfold State.jammedOrDown
  split <;> rfl

/-! ### Heat and fire (R107 to R117) -/

/-- R112: fire entry brings the whole booth to the lockout's part of the law. -/
theorem Booth.fireEntry (h : s.Booth asked) (x : Source) : (s.fireEntry x).Lawful := by
  obtain ⟨fire, blocks, token, -, lights, prog, shutters, -⟩ := Machine.fireEntry x s
  obtain ⟨none, silent⟩ := token fun p _ => h.token p
  have safe (p : Projector) : (s.fireEntry x).chanOf p = (s.chanOf p).safe := (blocks p).1
  have out (p : Projector) : (s.fireEntry x).arcOf p = (s.arcOf p).out := (blocks p).2.2
  have still (p : Projector) : ((s.fireEntry x).chanOf p).state.running = false := by
    rw [safe, Channel.running_safe]
  constructor
  case token =>
    refine fun p => iff_of_false (by simp [none]) fun holding => ?_
    simpa [still p] using ChannelState.running_of_holding holding
  case sound => rw [none, silent h.sound]
  case chan => exact fun p => safe p ▸ Channel.safe_fits (h.chan p)
  case conditions =>
    intro p _ screen
    simpa [screen, ChannelState.running] using still p
  case arc => exact fun p => out p ▸ Arc.out_fits (h.arc p)
  case shutter =>
    intro sh
    rw [shutters]
    split <;> [exact ⟨rfl, rfl⟩; exact h.shutter sh]
  case stop => simp [fire, prog]
  case emergency => rw [fire, lights]
  case alarm => rw [fire]
  case motors => exact fun _ => still
  case arcs =>
    intro _ p
    rw [out, Arc.state_out]
    rfl
  case shutters =>
    intro _ sh
    rw [shutters]
    split
    · rfl
    · next still => cases state : (s.shutterOf sh).state <;> simp_all [ShutterState.holds]
  case full =>
    intro _ g
    rw [lights]
    cases g <;> exact ⟨rfl, rfl⟩

/-- The fire record changes, the lockout and the alarm staying as they are. -/
theorem Booth.setFire_same (h : s.Booth asked) {x : FireRec} (lockout : x.lockout = s.fire.lockout)
    (alarm : x.alarm = s.fire.alarm) : (s.setFire x).Booth asked := by
  have conditions (q : Projector) : (s.setFire x).pictureConditions q = s.pictureConditions q :=
    pictureConditions_congr rfl rfl lockout
  have lockout : (s.setFire x).fire.lockout = s.fire.lockout := lockout
  have alarm : (s.setFire x).fire.alarm = s.fire.alarm := alarm
  constructor
  case conditions => exact fun q ask screen => (conditions q).trans (h.conditions q ask screen)
  case stop => rw [lockout]; exact h.stop
  case emergency => rw [lockout]; exact h.emergency
  case alarm => rw [lockout, alarm]; exact h.alarm
  case motors => rw [lockout]; exact h.motors
  case arcs => rw [lockout]; exact h.arcs
  case shutters => rw [lockout]; exact h.shutters
  case full => rw [lockout]; exact h.full
  case token => exact h.token
  case sound => exact h.sound
  case chan => exact h.chan
  case arc => exact h.arc
  case shutter => exact h.shutter

theorem Booth.fireSource (h : s.Lawful) (x : Source) : (s.fireSource x).Lawful := by
  unfold State.fireSource
  split
  · split <;> [exact h; exact (h.setFire_same (by rfl) (by rfl)).notify _ _ _]
  · exact h.fireEntry x

theorem Booth.testFireInput (h : s.Lawful) (x : FireInput) : (s.testFireInput x).Lawful := by
  unfold State.testFireInput
  split <;> [exact h.fireSource _; exact h]

theorem Booth.compareHeat (h : s.Booth asked) : (s.compareHeat p).Booth asked := by
  unfold State.compareHeat
  dsimp only
  split
  · split <;> [exact h.setHeat _; exact h]
  · split <;> exact h.setHeat _
  · split <;> exact h.setHeat _
  · exact h.setHeat _

theorem Booth.stage1TimerTest (h : s.Booth asked) : (s.stage1TimerTest p).Booth asked := by
  rcases stage1TimerTest_cases s p with ⟨-, same⟩ | ⟨-, acts⟩
  · rwa [same]
  · rw [acts]
    exact Booth.makeSafe ((h.setHeat _).notify _ _ _) _

theorem Booth.dousedTimerTest (h : s.Lawful) : (s.dousedTimerTest p).Lawful := by
  rcases dousedTimerTest_cases s p with ⟨-, same⟩ | ⟨-, trips⟩
  · rwa [same]
  · rw [trips]
    exact Booth.fireSource (h.setHeat _) _

theorem showAfterFire_ne_fireStop (s : State) : s.showAfterFire ≠ .fireStop := by
  unfold State.showAfterFire
  split <;> nofun

/-- R116: out of the lockout every motor is off, so that the reports of the end of the lockout change nothing. -/
theorem Booth.fireCleared (h : s.Lawful) (locked : s.fire.lockout = true) : s.fireCleared.Lawful := by
  let cleared := ((s.setFire ⟨false, none, [], none, false⟩).calmHeat .a).calmHeat .b
  let lit := cleared.setLights cleared.lights.endEmergency
  let shown := lit.setProg { lit.prog with state := lit.showAfterFire }
  have still (p : Projector) : (shown.chanOf p).state.running = false := h.motors locked p
  have lawful : shown.Lawful := by
    refine { h with
      conditions := fun p _ screen => by simpa [screen, ChannelState.running] using still p
      stop := iff_of_false Bool.false_ne_true lit.showAfterFire_ne_fireStop
      emergency := rfl, alarm := rfl
      motors := nofun, arcs := nofun, shutters := nofun, full := nofun }
  have silent : (shown.conditionsReported .a).conditionsReported .b = shown := by
    rw [conditionsReported_still (still .a), conditionsReported_still (still .b)]
  exact Booth.notify (silent ▸ lawful) _ _ _

/-! ### Power-on (R118) -/

theorem shutterAtPower_fits (s : State) (sh : Shutter) : (s.shutterAtPower sh).Fits := by
  unfold State.shutterAtPower State.jammedOrDown
  split <;> exact ⟨rfl, rfl⟩

theorem lawful_poweredUp (s : State) : s.poweredUp.Lawful := by
  constructor
  case token => exact fun p => iff_of_false nofun (by cases p <;> nofun)
  case sound => rfl
  case chan => exact fun p => by cases p <;> exact ⟨rfl, rfl⟩
  case conditions => exact fun p _ => by cases p <;> nofun
  case arc => exact fun p => by cases p <;> exact ⟨rfl, iff_of_true rfl nofun⟩
  case shutter =>
    exact fun sh => by cases sh <;> exact shutterAtPower_fits _ _
  case stop => exact iff_of_false nofun nofun
  case emergency | alarm => rfl
  case motors | arcs | shutters | full => nofun

end State

end Sys2Proof.Machine
end

section
/-! PROOF. Every request keeps the booth law (R9 to R19, R45 to R76, R80 to R102, R115, R123, R145 to R149, R154, R159,
R160, R172, R179, R186). -/

namespace Sys2Proof.Machine.State

variable {asked : Projector → Prop} {s t : State} {p q : Projector}

/-! ### The plan (R9 to R16) -/

theorem Booth.setEntries (h : s.Booth asked) (entries : List Entry) : (s.setEntries entries).Booth asked := h.setPlan _

theorem Booth.releaseChannel (h : s.Booth asked) (i : Nat) : (s.releaseChannel i).Booth asked := by
  unfold State.releaseChannel
  split
  · split
    · next threaded => exact h.setChan_still (by rw [threaded]; rfl) rfl
    · exact h
  · exact h

theorem Booth.relink (h : s.Booth asked) (f : Nat → Option Nat) : (s.relink f).Booth asked :=
  Booth.setChan_same (Booth.setChan_same (h.setProg_same (by rfl)))

theorem Booth.planWrite (h : s.Booth asked) (i : Nat) (x : EntryForm) :
    (planWriteAnswer i x s).state.Booth asked := by
  unfold planWriteAnswer
  split <;> [exact h; split <;> [exact h; skip]]
  dsimp only
  split <;> [exact ((h.releaseChannel i).setEntries _).testExhausted _; exact h]

theorem Booth.planSkip (h : s.Booth asked) (i : Nat) : (planSkipAnswer i s).state.Booth asked := by
  have skipped (entries : List Entry) : (((s.releaseChannel i).setEntries entries).testExhausted false).Booth asked :=
    ((h.releaseChannel i).setEntries _).testExhausted _
  unfold planSkipAnswer
  split
  · exact h
  · split
    case h_5 | h_6 =>
      dsimp only
      split <;> [exact skipped _; exact h]
    all_goals exact h

theorem Booth.planInsert (h : s.Booth asked) (i : Nat) (x : EntryForm) :
    (planInsertAnswer i x s).state.Booth asked := by
  unfold planInsertAnswer
  split <;> [exact h; split <;> [exact h; split <;> [exact h; skip]]]
  dsimp only
  split <;> [exact (h.setEntries _).relink _; exact h]

theorem Booth.planDelete (h : s.Booth asked) (i : Nat) : (planDeleteAnswer i s).state.Booth asked := by
  unfold planDeleteAnswer
  split <;> [exact h; split <;> [exact h; skip]]
  dsimp only
  split <;> [exact (((h.releaseChannel i).setEntries _).relink _).testExhausted _; exact h]

theorem Booth.releaseForRestart (h : s.Booth asked) : (s.releaseForRestart p).Booth asked := by
  unfold State.releaseForRestart
  split
  · next prepared =>
    refine h.setChan_still ?_ rfl
    rcases prepared with state | state <;> rw [state] <;> rfl
  · exact h

theorem Booth.planHeader (h : s.Booth asked) (count : Nat) : (planHeaderAnswer count s).state.Booth asked := by
  have counted := h.setPlan { s.plan with repeatCount := count }
  change (s.writeHeader count).Booth asked
  unfold State.writeHeader
  dsimp only
  split
  · next ended =>
    simp only [Bool.and_eq_true, decide_eq_true_eq] at ended
    refine Booth.setProg_open (counted.releaseForRestart.releaseForRestart.setPlan _) ?_ nofun
    have prog (u : State) : ((u.releaseForRestart .a).releaseForRestart .b).prog = u.prog :=
      (releaseForRestart_changes _ .b .prog (by simp)).trans (releaseForRestart_changes u .a .prog (by simp))
    rw [prog_setPlan, prog, prog_setPlan, ended.1]
    nofun
  · exact counted

/-! ### The channels (R45 to R72) -/

theorem Booth.declareThreaded (h : s.Lawful) (idle : (s.chanOf p).state = .idle) (i : Nat) :
    (s.declareThreaded p i).Lawful := by
  refine Booth.setArc_same (Booth.setMotion ?_ _)
  exact (h.setPlan _).setChan_still (by rw [chanOf_setPlan, idle]; rfl) rfl

theorem Booth.threadedAnswer (h : s.Lawful) (label : Byte) : (threadedAnswer label p s).state.Lawful := by
  unfold Machine.threadedAnswer
  split
  · split <;> exact h
  · next idle =>
    split
    · exact h
    · split <;> [exact h; split <;> [exact h; exact h.declareThreaded (not_not.mp idle) _]]

theorem Booth.unlinkPending (h : s.Booth asked) (still : (s.chanOf p).state.running = false) :
    (s.unlinkPending p).Booth asked := by
  rw [unlinkPending_eq]
  refine (h.setLinkedState .pending).setChan_still ?_ rfl ?_ ?_ <;> simp only [chanOf_setLinkedState]
  exact still

theorem Booth.unthreadAnswer (h : s.Booth asked) : (unthreadAnswer p s).state.Booth asked := by
  unfold Machine.unthreadAnswer
  split
  · next threaded => exact h.unlinkPending (by rw [threaded]; rfl)
  all_goals exact h

/-- R47: an ARM that is taken is taken outside the lockout. -/
theorem unlocked_of_armRefusal (taken : armRefusal p s = none) : s.fire.lockout = false := by
  rw [armRefusal_eq] at taken
  split at taken <;> [cases taken; split at taken]
  · cases taken
  · next unlocked => exact Bool.eq_false_iff.mpr unlocked

theorem Booth.armChannel (h : s.Booth asked) (threaded : (s.chanOf p).state = .threaded)
    (unlocked : s.fire.lockout = false) : (s.armChannel p).Booth asked := by
  unfold State.armChannel
  rw [modChan_eq, chanOf_setLinkedState]
  refine Booth.lateStart (Booth.setChan_still (h.setLinkedState .armed) ?_ rfl ?_ ?_) ?_
  · rw [chanOf_setLinkedState, threaded]
    rfl
  · rw [chanOf_setLinkedState]
  · rw [chanOf_setLinkedState]
  · exact (congrArg FireRec.lockout (setLinkedState_changes s p .armed .fire (by simp))).trans unlocked

theorem Booth.armAnswer (h : s.Booth asked) : (armAnswer p s).state.Booth asked := by
  unfold Machine.armAnswer
  split
  · next threaded =>
    split
    · exact h
    · next taken => exact h.armChannel threaded (unlocked_of_armRefusal taken)
  all_goals exact h

theorem Booth.disarmAnswer (h : s.Booth asked) : (disarmAnswer p s).state.Booth asked := by
  unfold Machine.disarmAnswer
  split
  · next armed => exact h.disarmChannel (by rw [armed]; rfl)
  all_goals exact h

theorem Booth.stopAnswer (h : s.Booth asked) : (stopAnswer p s).state.Booth asked := by
  unfold Machine.stopAnswer
  split <;> first
    | exact h
    | exact h.halt _

theorem Booth.clearAnswer (h : s.Booth asked) : (clearAnswer p s).state.Booth asked := by
  unfold Machine.clearAnswer
  split
  · next halted =>
    have still : (s.chanOf p).state.running = false := by rw [halted]; rfl
    change (s.clearChannel p).Booth asked
    unfold State.clearChannel
    split
    · exact Booth.finishReel (h.setChan_still still rfl)
    · split <;> [exact (h.disarmChannel still).testExhausted _; exact (h.unlinkPending still).testExhausted _]
  · exact h

/-! ### The start of the show (R67, R154, R159) -/

/-- R67: what START_SHOW's checks have found. -/
theorem of_startCheck (found : s.startCheck = .ok q) :
    s.fire.lockout = false ∧ s.token = none ∧ ((s.chanOf q).state = .armed ∨ (s.chanOf q).state = .ready) := by
  unfold State.startCheck at found
  split at found <;> [cases found; split at found <;> [cases found; split at found]]
  · next unlocked startable _ _ channel =>
    cases found
    simp only [Bool.not_eq_true', Bool.not_eq_false, State.startable, Bool.and_eq_true, Option.isNone_iff_eq_none]
      at startable
    have free := startable.2
    obtain ⟨-, ready⟩ := Option.filter_eq_some_iff.mp channel
    exact ⟨Bool.eq_false_iff.mpr unlocked, free, by simpa using ready⟩
  · cases found

theorem openShow_changes (s : State) (byPanel : Bool) (q : Projector) :
    changesOnly (everyLink ++ [.chan q, .prog, .lights, .freeCount]) s (s.openShow byPanel q) :=
  (((showStarted_changes s byPanel).mono (by simp)).andThen (setChan_changes _ q _) (by simp)).andThen
    (applyStart_changes _ q) (by simp)

theorem Booth.openShow (h : s.Booth asked) (byPanel : Bool) : (s.openShow byPanel q).Booth asked :=
  (h.showStarted byPanel).setChan_same.applyStart

/-- R67: START_SHOW taken on the channel its checks have found. -/
theorem Booth.startOn (h : s.Booth asked) (found : s.startCheck = .ok q) (byPanel : Bool) :
    (s.startOn byPanel q).Booth asked := by
  obtain ⟨unlocked, free, -⟩ := of_startCheck found
  have opened := h.openShow (q := q) byPanel
  have changes := openShow_changes s byPanel q
  unfold State.startOn
  dsimp only
  split
  · next armed =>
    have fire : (s.openShow byPanel q).fire = s.fire := changes .fire (by simp)
    exact (opened.motorRuns ((state_openShow s byPanel q).trans armed) (by rw [fire, unlocked])).positionTo.filmAtStart
  · split
    · next ready =>
      have token : (s.openShow byPanel q).token = s.token := (changes .token (by simp)).1
      exact opened.positionTo.openScreen (token.trans free) ready
    · exact opened.positionTo

theorem Booth.startShowAnswer (h : s.Booth asked) : (startShowAnswer s).state.Booth asked := by
  unfold Machine.startShowAnswer
  split
  · next found => exact h.startOn found true
  · exact h

theorem Booth.timerExpires (h : s.Booth asked) : s.timerExpires.Booth asked := by
  have ends (outcome : Byte) : ((s.setProg { s.prog with timer := none }).intermissionEnds outcome).Booth asked :=
    Booth.notify (h.setProg_same (by rfl)) _ _ _
  unfold State.timerExpires
  dsimp only
  split
  · split
    · next found => exact (ends 1).startOn found false
    · exact ends 1
  · exact ends 2

/-! ### CHANGE_NOW and booth reset (R63, R76) -/

theorem Booth.changeNowAnswer (h : s.Booth asked) : (changeNowAnswer s).state.Booth asked := by
  unfold Machine.changeNowAnswer
  split
  · next holder found =>
    obtain ⟨token, ready⟩ := Option.filter_eq_some_iff.mp found
    rw [Bool.and_eq_true] at ready
    exact h.swap ((h.token holder).mp token) ready.1 _
  · exact h

/-- R76: both channels and the token after a booth reset. -/
abbrev channelsReset (s : State) : State := ((s.resetChannel .a).resetChannel .b).setToken none

theorem channelsReset_changes (s : State) :
    changesOnly [.chan .a, .chan .b, .motion .a, .motion .b, .token] s s.channelsReset := by
  have reset (u : State) (p : Projector) :
      changesOnly [.chan .a, .chan .b, .motion .a, .motion .b, .token] u (u.resetChannel p) :=
    ((stopMotor_changes u p).mono (by cases p <;> simp)).andThen (setChan_changes _ p _) (by cases p <;> simp)
  exact ((reset s .a).trans (reset _ .b)).andThen (setToken_changes _ none) (by simp)

theorem Booth.channelsReset (h : s.Booth asked) : s.channelsReset.Booth asked :=
  h.of_channels (channelsReset_changes s) (by decide) rfl fun p => by cases p <;> exact admits_off nofun rfl rfl rfl

/-- R153: outside the lockout the show is not in FIRE_STOP. -/
theorem Booth.not_stopped (h : s.Booth asked) (unlocked : s.fire.lockout = false) : s.prog.state ≠ .fireStop :=
  fun stop => by simpa [unlocked] using h.stop.mpr stop

theorem Booth.boothReset (h : s.Lawful) (unlocked : s.fire.lockout = false) : s.boothReset.Lawful := by
  have planned := h.channelsReset.setPlan { s.plan with entries := s.plan.entries.map unprepared }
  have out := (planned.putOut (p := .a) .boothReset).putOut (p := .b) .boothReset
  have fire := (putOut_changes _ .b .boothReset .fire (by simp)).trans
    (putOut_changes (s.channelsReset.setPlan { s.plan with entries := s.plan.entries.map unprepared }) .a .boothReset
      .fire (by simp))
  have shows := out.not_stopped ((congrArg FireRec.lockout fire).trans unlocked)
  unfold State.boothReset
  exact Booth.testExhausted (out.setProg_open shows (by simp)) _

theorem Booth.boothResetAnswer (h : s.Lawful) : (boothResetAnswer s).state.Lawful := by
  unfold Machine.boothResetAnswer
  split
  · exact h
  · next unlocked => exact h.boothReset (Bool.eq_false_iff.mpr unlocked)

/-! ### Arcs, shutters, fire and lights (R80, R93, R100, R102, R115, R123) -/

theorem Booth.strikeAnswer (h : s.Lawful) : (strikeAnswer p s).state.Lawful := by
  unfold Machine.strikeAnswer
  split <;> [exact h; split <;> [exact h; split <;> [exact h; skip]]]
  next unlocked _ => exact h.beginStrike (Bool.eq_false_iff.mpr unlocked)

theorem Booth.carbonLoadAnswer (h : s.Lawful) (length : Nat) : (carbonLoadAnswer length p s).state.Lawful := by
  unfold Machine.carbonLoadAnswer
  split <;> first
    | exact h
    | exact h.loadCarbon _

theorem Booth.shutterRaiseAnswer (h : s.Lawful) (sh : Shutter) : (shutterRaiseAnswer sh s).state.Lawful := by
  unfold Machine.shutterRaiseAnswer
  split
  case h_4 | h_5 =>
    split
    · exact h
    · next unlocked => exact h.shutterTo sh (fun _ => Bool.eq_false_iff.mpr unlocked) _
  all_goals exact h

theorem Booth.shutterDropAnswer (h : s.Lawful) (sh : Shutter) : (shutterDropAnswer sh s).state.Lawful := by
  unfold Machine.shutterDropAnswer
  split <;> first
    | exact h
    | exact h.shutterTo (new := .dropping) sh nofun _

theorem Booth.fireResetAnswer (h : s.Lawful) : (fireResetAnswer s).state.Lawful := by
  unfold Machine.fireResetAnswer
  split
  · exact h
  · next locked => split <;> [exact h; split <;> [exact h; exact h.fireCleared (by simpa using locked)]]

theorem Booth.lightsAnswer (h : s.Booth asked) (mask level : Byte) (fade : Half) :
    (lightsAnswer mask level fade s).state.Booth asked := by
  unfold Machine.lightsAnswer
  split
  · exact h
  · dsimp only
    split <;> [exact h.freeUsed; exact (h.applyAction _ _).freeUsed]

/-! ### The dimmer bus (R145 to R149) -/

theorem Booth.busResetAnswer (h : s.Booth asked) : (busResetAnswer s).state.Booth asked := by
  unfold Machine.busResetAnswer
  split <;> [exact h.setBus _; exact h]

theorem Booth.packReadAnswer (h : s.Booth asked) (a : Byte) : (packReadAnswer a s).state.Booth asked := by
  unfold Machine.packReadAnswer
  split <;> [exact h; split <;> exact h]

theorem Booth.packWriteAnswer (h : s.Booth asked) (a g top : Byte) : (packWriteAnswer a g top s).state.Booth asked := by
  unfold Machine.packWriteAnswer
  split <;> [exact h; exact h.setBus _]

theorem Booth.packForgetAnswer (h : s.Booth asked) (a : Byte) : (packForgetAnswer a s).state.Booth asked := by
  unfold Machine.packForgetAnswer
  split <;> [exact h; split <;> [exact h; exact h.setBus _]]

/-! ### Parameters, links and the intermission timer (R160, R172, R179, R182, R186 to R190) -/

theorem Booth.paramActs (h : s.Lawful) (x : ParamRef) : (s.paramActs x).Lawful := by
  unfold State.paramActs
  split
  · exact h.testTouch
  · exact h.stubChanged
  · exact h.compareHeat
  · exact h.stage1TimerTest.stage1TimerTest
  · exact h.dousedTimerTest.dousedTimerTest
  all_goals exact h

theorem Booth.limitRaised (h : s.Booth asked) (x : ParamRef) : (s.limitRaised x).1.Booth asked := by
  unfold State.limitRaised
  split <;> [exact h.setPar _; exact h]

theorem Booth.paramWriteAnswer (h : s.Lawful) (value : Half) (x : Option ParamRef) :
    (paramWriteAnswer value x s).state.Lawful := by
  cases x with
  | none => exact h
  | some ref => exact ((h.setPar _).limitRaised ref).paramActs ref

theorem Booth.paramReadAnswer (h : s.Booth asked) (x : Option ParamRef) : (paramReadAnswer x s).state.Booth asked := by
  cases x <;> exact h

theorem Booth.routeReadAnswer (h : s.Booth asked) (k : Byte) : (routeReadAnswer k s).state.Booth asked := by
  unfold Machine.routeReadAnswer
  split <;> exact h

theorem Booth.routeWriteAnswer (h : s.Booth asked) (mask k : Byte) : (routeWriteAnswer mask k s).state.Booth asked := by
  unfold Machine.routeWriteAnswer
  split <;> [exact h; exact h.of_changes (setMask_changes _ _ _) (by decide)]

theorem Booth.intermissionExtendAnswer (h : s.Booth asked) (seconds : Half) :
    (intermissionExtendAnswer seconds s).state.Booth asked := by
  unfold Machine.intermissionExtendAnswer
  split <;> [exact h.setProg_same (by rfl); exact h]

theorem Booth.identAnswer (h : s.Booth asked) (l : Connector) (role : Byte) :
    (identAnswer l role s).state.Booth asked := by
  unfold Machine.identAnswer
  split <;> [exact h; split <;> [exact h; split <;> [exact h; exact (h.setLink _ _).notify _ _ _]]]

theorem Booth.statusAnswer (h : s.Booth asked) (sect : Byte) : (statusAnswer sect s).state.Booth asked := by
  unfold Machine.statusAnswer
  split <;> [exact h.freeUsed; exact h]

theorem Booth.planReadAnswer (h : s.Booth asked) (i : Byte) : (planReadAnswer i s).state.Booth asked := by
  unfold Machine.planReadAnswer
  split <;> [exact h; split <;> exact h]

/-! ### Every request -/

theorem Booth.screen {α : Type} {owner : α → State → Answer} (h : s.Booth asked)
    (owns : ∀ x, (owner x s).state.Booth asked) (l : Connector) (subject : Option α) (rights : Rights α) :
    (screen l subject rights owner s).state.Booth asked := by
  unfold Machine.screen
  split <;> [exact h; split <;> [exact h; split <;> [exact owns _; exact h]]]

theorem Booth.requestAnswer (h : s.Lawful) (l : Connector) (r : Request) : (requestAnswer l r s).state.Lawful := by
  cases r with
  | ident role => exact h.identAnswer l role
  | status sect => exact h.screen (fun _ => h.statusAnswer sect) _ _ _
  | planRead i => exact h.screen (fun _ => h.planReadAnswer i) _ _ _
  | planWrite i x => exact h.screen (fun _ => h.planWrite i.toNat x) _ _ _
  | planInsert i x => exact h.screen (fun _ => h.planInsert i.toNat x) _ _ _
  | planDelete i => exact h.screen (fun _ => h.planDelete i.toNat) _ _ _
  | planSkip i => exact h.screen (fun _ => h.planSkip i.toNat) _ _ _
  | planHeader n => exact h.screen (fun _ => h.planHeader n.toNat) _ _ _
  | threaded p label => exact h.screen (fun _ => h.threadedAnswer label) _ _ _
  | unthread p => exact h.screen (fun _ => h.unthreadAnswer) _ _ _
  | arm p => exact h.screen (fun _ => h.armAnswer) _ _ _
  | disarm p => exact h.screen (fun _ => h.disarmAnswer) _ _ _
  | stop p => exact h.screen (fun _ => h.stopAnswer) _ _ _
  | clear p => exact h.screen (fun _ => h.clearAnswer) _ _ _
  | startShow => exact h.screen (fun _ => h.startShowAnswer) _ _ _
  | changeNow => exact h.screen (fun _ => h.changeNowAnswer) _ _ _
  | strike p => exact h.screen (fun _ => h.strikeAnswer) _ _ _
  | arcOff p => exact h.screen (fun _ => h.putOut _) _ _ _
  | carbonLoad p n => exact h.screen (fun _ => h.carbonLoadAnswer n.toNat) _ _ _
  | shutterRaise sh => exact h.screen (fun x => h.shutterRaiseAnswer x) _ _ _
  | shutterDrop sh => exact h.screen (fun x => h.shutterDropAnswer x) _ _ _
  | lights mask level fade => exact h.screen (fun _ => h.lightsAnswer mask level fade) _ _ _
  | fireReset => exact h.screen (fun _ => h.fireResetAnswer) _ _ _
  | boothReset => exact h.screen (fun _ => h.boothResetAnswer) _ _ _
  | busReset => exact h.screen (fun _ => h.busResetAnswer) _ _ _
  | packRead a => exact h.screen (fun _ => h.packReadAnswer a) _ _ _
  | packWrite a g top => exact h.screen (fun _ => h.packWriteAnswer a g top) _ _ _
  | packForget a => exact h.screen (fun _ => h.packForgetAnswer a) _ _ _
  | paramRead x p => exact h.screen (fun x => h.paramReadAnswer x) _ _ _
  | paramWrite x p v => exact h.screen (fun x => h.paramWriteAnswer v x) _ _ _
  | routeRead k => exact h.screen (fun _ => h.routeReadAnswer k) _ _ _
  | routeWrite k mask => exact h.screen (fun _ => h.routeWriteAnswer mask k) _ _ _
  | intermissionExtend n => exact h.screen (fun _ => h.intermissionExtendAnswer n) _ _ _

end Sys2Proof.Machine.State
end

section
/-! PROOF. Every step keeps the booth law: frames and bytes, the dimmer bus, and each command of the table. -/

namespace Sys2Proof.Machine

namespace State

variable {asked : Projector → Prop} {s t : State} {p q : Projector}

/-! ### Requests, frames and bytes (R168 to R176) -/

theorem Booth.takeRequest (h : s.Lawful) {answer : State → Answer} (l : Connector) (kind : Byte) (params : List Byte)
    (owns : ∀ t : State, t.Lawful → (answer t).state.Lawful) : (s.takeRequest l kind params answer).Lawful := by
  unfold State.takeRequest
  split <;> [exact h; split <;> [exact h.setLink _ _; exact Booth.setLink (owns _ (h.setLink _ _)) _ _]]

theorem Booth.request (h : s.Lawful) (l : Connector) (r : Request) : (s.request l r).Lawful :=
  h.takeRequest l _ _ fun _ ht => ht.requestAnswer l r

theorem Booth.frame (h : s.Lawful) (l : Connector) (kind : Byte) (params : List Byte) :
    (s.frame l kind params).Lawful := by
  unfold State.frame
  split
  · exact h.request l _
  · refine h.takeRequest l _ _ fun t ht => ?_
    unfold malformedAnswer
    split <;> exact ht

theorem Booth.modLink (h : s.Booth asked) (l : Connector) (f : Link → Link) : (s.modLink l f).Booth asked :=
  h.setLink _ _

theorem Booth.checkFrame (h : s.Lawful) (l : Connector) (assembly : List Byte) :
    (s.checkFrame l assembly).Lawful := by
  unfold State.checkFrame
  split
  · dsimp only
    split <;> [exact (h.modLink l _).frame l _ _; exact h.modLink l _]
  · exact h.modLink l _

theorem Booth.receiveByte (h : s.Lawful) (l : Connector) (b : Byte) (framingError : Bool) :
    (s.receiveByte l b framingError).Lawful := by
  have lengthByte : (s.lengthByte l b).Lawful := by
    unfold State.lengthByte
    split <;> exact h.modLink l _
  have bodyByte : (s.bodyByte l b).Lawful := by
    unfold State.bodyByte
    dsimp only
    split <;> [exact h.modLink l _; exact h.checkFrame l _]
  unfold State.receiveByte
  split
  · split <;> [exact h.modLink l _; exact h]
  · split <;> [exact h.modLink l _; exact lengthByte]
  · split <;> [exact h.modLink l _; exact bodyByte]
  · exact h

theorem Booth.gap (h : s.Booth asked) (l : Connector) : (s.gap l).Booth asked := by
  unfold State.gap
  split <;> first
    | exact h
    | exact h.modLink l _

theorem Booth.linkReset (h : s.Booth asked) (l : Connector) : (s.linkReset l).Booth asked := by
  unfold State.linkReset
  dsimp only
  split <;> [exact (h.setLink l _).notify _ _ _; exact h.setLink l _]

theorem Booth.markReturns (h : s.Booth asked) (l : Connector) : (s.markReturns l).Booth asked := by
  unfold State.markReturns
  split <;> [exact h.modLink l _; exact h]

theorem Booth.frameSent (h : s.Booth asked) (l : Connector) : (s.frameSent l).Booth asked := by
  unfold State.frameSent
  split <;> first
    | exact h
    | exact h.modLink l _

theorem Booth.frameBody (h : s.Lawful) (l : Connector) (body : List Byte) : (s.frameBody l body).Lawful := by
  unfold State.frameBody
  split
  · exact h
  · split
    · exact h.modLink l _
    · split <;> [exact h.frame l _ _; exact h.modLink l _]

/-! ### The show clock and the intermission timer (R159, R163) -/

theorem Booth.timerFalls (h : s.Booth asked) : s.timerFalls.Booth asked := h.setProg_same (by rfl)

theorem Booth.clockTenth (h : s.Booth asked) : s.clockTenth.Booth asked := by
  unfold State.clockTenth
  split <;> exact h.setProg_same (by rfl)

/-! ### The dimmer bus (R122, R136 to R146) -/

theorem Booth.fadeStep (h : s.Booth asked) : s.fadeStep.Booth asked := by
  refine List.foldlRecOn (motive := Booth asked) _ _ h fun t ht g _ => ?_
  have stepped := ht.setLights (t.lights.kept_stepped g)
  unfold State.fadeStepOn
  dsimp only
  split <;> [exact stepped.notify _ _ _; exact stepped]

theorem Booth.cycleStart (h : s.Booth asked) : s.cycleStart.Booth asked :=
  Booth.setBus (Booth.fadeStep ((h.passTo _).setPar _)) _

theorem Booth.sendPacket (h : s.Booth asked) : s.sendPacket.Booth asked := by
  unfold State.sendPacket
  dsimp only
  split <;> [exact h; split <;> [exact h; split <;> exact h.setBus _]]

theorem Booth.windowEnds (h : s.Booth asked) (reply : List Byte) : (s.windowEnds reply).Booth asked := by
  have written (b : Bus) := h.setBus b
  unfold State.windowEnds
  split
  · exact h
  · dsimp only
    split
    · exact written _
    · split
      · unfold State.packAnswers
        dsimp only
        split <;> [exact (written _).setBus _; exact ((written _).setBus _).notify _ _ _]
      · unfold State.packMisses
        dsimp only
        split <;> [exact ((written _).setBus _).notify _ _ _; exact (written _).setBus _]

theorem Booth.roundAnswered (h : s.Booth asked) (contenders : List Serial) (ack : List Byte) :
    (s.roundAnswered contenders ack).Booth asked := by
  have assigned := h.setBus { s.bus with
    out := [assignMessage (readSerial contenders) (s.bus.addressFor (readSerial contenders))] }
  unfold State.roundAnswered
  dsimp only
  split
  · unfold State.roundWon
    split
    · exact Booth.notify (assigned.setBus _) _ _ _
    · split <;> exact Booth.notify (assigned.setBus _) _ _ _
  · unfold State.roundVoid
    dsimp only
    split <;> [exact assigned; exact assigned.setBus _]

theorem Booth.countRound (h : s.Booth asked) (answered : Bool) : (s.countRound answered).Booth asked := by
  have counted := h.setBus { s.bus with rounds := s.bus.rounds + 1 }
  have enumerated (complete : Bool) :
      ((s.modBus fun b => { b with rounds := b.rounds + 1 }).enumerated complete).Booth asked :=
    Booth.notify (counted.setBus _) _ _ _
  unfold State.countRound
  split
  · dsimp only
    split <;> [exact enumerated _; split <;> [exact enumerated _; exact counted]]
  · exact h

theorem Booth.roundEnds (h : s.Booth asked) (contenders : List Serial) (ack : List Byte) :
    (s.roundEnds contenders ack).Booth asked := by
  have due : (s.modBus fun b => { b with roundDue := false, out := [] }).Booth asked := h.setBus _
  unfold State.roundEnds
  split
  · dsimp only
    split <;> [exact due.countRound _; exact (due.roundAnswered _ _).countRound _]
  · exact h

theorem Booth.breakEnds (h : s.Booth asked) : s.breakEnds.Booth asked := by
  unfold State.breakEnds
  split <;> [exact (h.passTo _).setBus _; exact h]

end State

/-! ### Each command -/

/-- An outcome whose next state, where it has one, meets the booth law. -/
abbrev EndsLawful (o : Host.Outcome State Fault Refusal) : Prop := ∀ t, o = .next t → t.Lawful

section

variable {s : State} (h : s.Lawful)

include h

theorem endsLawful_completed : EndsLawful s.completed := by
  intro t ht
  cases ht
  exact h.finish

theorem endsLawful_ringTimeout (p : Projector) : EndsLawful (execRingTimeout p s) := by
  unfold execRingTimeout
  split <;> [exact endsLawful_completed (h.setMotion _); exact endsLawful_completed h]

theorem endsLawful_stallTimeout (p : Projector) : EndsLawful (execStallTimeout p s) := by
  unfold execStallTimeout
  split
  · exact endsLawful_completed h
  · split <;> [exact endsLawful_completed ((h.setMotion _).halt _); exact endsLawful_completed h]

theorem endsLawful_foilInputChange (p : Projector) (active : Bool) : EndsLawful (execFoilInputChange p active s) := by
  unfold execFoilInputChange
  split
  · exact endsLawful_completed h
  · dsimp only
    split <;> first
      | exact endsLawful_completed ((h.setInputs _).setMotion _)
      | exact endsLawful_completed (h.setInputs _)

theorem endsLawful_foilQualifyExpiry (p : Projector) : EndsLawful (execFoilQualifyExpiry p s) := by
  unfold execFoilQualifyExpiry
  split
  · exact endsLawful_completed ((h.passToDue _).setMotion _).foilActivation
  · exact endsLawful_completed h

theorem endsLawful_foilReleaseExpiry (p : Projector) : EndsLawful (execFoilReleaseExpiry p s) := by
  unfold execFoilReleaseExpiry
  split <;> [exact endsLawful_completed ((h.passToDue _).setMotion _); exact endsLawful_completed h]

theorem endsLawful_filmSwitchChange (p : Projector) (closed : Bool) : EndsLawful (execFilmSwitchChange p closed s) := by
  unfold execFilmSwitchChange
  split <;> [exact endsLawful_completed h; exact endsLawful_completed ((h.setInputs _).setMotion _)]

theorem endsLawful_filmFilterExpiry (p : Projector) : EndsLawful (execFilmFilterExpiry p s) := by
  unfold execFilmFilterExpiry
  split
  · exact endsLawful_completed h
  · split
    · dsimp only
      split <;> [exact endsLawful_completed (h.setMotion _).filmGone; exact endsLawful_completed (h.setMotion _)]
    · exact endsLawful_completed h

theorem endsLawful_runupStage1Expiry (p : Projector) : EndsLawful (execRunupStage1Expiry p s) := by
  unfold execRunupStage1Expiry
  split
  · exact endsLawful_completed (State.Booth.setChan_same ((h.passToDue _).notify _ _ _))
  · exact endsLawful_completed h

theorem endsLawful_runupStage2Expiry (p : Projector) : EndsLawful (execRunupStage2Expiry p s) := by
  unfold execRunupStage2Expiry
  split <;> [exact endsLawful_completed ((h.passToDue _).halt _); exact endsLawful_completed h]

theorem endsLawful_touchTimerExpiry (p : Projector) : EndsLawful (execTouchTimerExpiry p s) := by
  unfold execTouchTimerExpiry
  split <;> [exact endsLawful_completed (h.passToDue _).failStrike; exact endsLawful_completed h]

theorem endsLawful_drawTimerExpiry (p : Projector) (voltage : Byte) :
    EndsLawful (execDrawTimerExpiry p voltage s) := by
  unfold execDrawTimerExpiry
  split
  · next draws =>
    refine endsLawful_completed (State.Booth.endDraw ((h.passToDue _).setInputs _) ?_)
    exact (congrArg Arc.phase (passToDue_changes s _ (.arc p) (by simp))).trans draws
  · exact endsLawful_completed h

theorem endsLawful_regulationInterval (p : Projector) (voltage : Byte) :
    EndsLawful (execRegulationInterval p voltage s) := by
  have sensed : ((((s.passTo (s.arcOf p).regulationDue).modArc p fun x => { x with
      regulationDue := (s.arcOf p).regulationDue + Config.regulationCounts }).promoteProj p .nextInterval).senseVoltage
        p voltage).Lawful :=
    ((State.Booth.setArc_same (h.passTo _)).promoteProj _).setInputs _
  unfold execRegulationInterval
  dsimp only
  split <;> [exact endsLawful_completed (State.Booth.regulate sensed.setArc_same); exact endsLawful_completed sensed]

theorem endsLawful_strikeElapsedTick (p : Projector) : EndsLawful (execStrikeElapsedTick p s) := by
  unfold execStrikeElapsedTick
  split <;> [exact endsLawful_completed h.setArc_same; exact endsLawful_completed h]

/-- R101, R104: only a raise that was allowed leads to HELD. -/
theorem endsLawful_openSenseChange (sh : Shutter) (made : Bool) : EndsLawful (execOpenSenseChange sh made s) := by
  have sensed := h.setInputs { s.inputs with openSense := s.inputs.openSense.setShutter sh made }
  unfold execOpenSenseChange
  dsimp only
  split
  case h_1 raising =>
    have unlocked : s.fire.lockout = false := h.unlocked_of_holds (sh := sh) (by rw [raising]; rfl)
    exact endsLawful_completed (sensed.shutterTo sh (fun _ => unlocked) _)
  case h_2 => exact endsLawful_completed (sensed.shutterTo sh (by simp [State.holds_jammedOrDown]) _)
  all_goals exact endsLawful_completed sensed

theorem endsLawful_closedSenseChange (sh : Shutter) (made : Bool) : EndsLawful (execClosedSenseChange sh made s) := by
  have sensed := h.setInputs { s.inputs with closedSense := s.inputs.closedSense.setShutter sh made }
  unfold execClosedSenseChange
  dsimp only
  split
  case h_1 | h_2 => exact endsLawful_completed (sensed.shutterTo (new := .down) sh nofun _)
  case h_3 => exact endsLawful_completed (sensed.shutterTo (new := .jammed) sh nofun _)
  all_goals exact endsLawful_completed sensed

theorem endsLawful_raiseTimeout (sh : Shutter) : EndsLawful (execRaiseTimeout sh s) := by
  unfold execRaiseTimeout
  split
  · exact endsLawful_completed ((h.passToDue _).shutterTo sh (by simp [State.holds_jammedOrDown]) _)
  · exact endsLawful_completed h

theorem endsLawful_dropTimeout (sh : Shutter) : EndsLawful (execDropTimeout sh s) := by
  unfold execDropTimeout
  split
  · exact endsLawful_completed ((h.passToDue _).shutterTo sh (by simp [State.holds_jammedOrDown]) _)
  · exact endsLawful_completed h

theorem endsLawful_intermissionExpiry : EndsLawful (execIntermissionExpiry s) := by
  unfold execIntermissionExpiry
  split
  · split <;> [exact endsLawful_completed h.timerExpires; exact endsLawful_completed h.timerFalls]
  · exact endsLawful_completed h

theorem endsLawful_showClockTick : EndsLawful (execShowClockTick s) := by
  unfold execShowClockTick
  split <;> [exact endsLawful_completed h.clockTenth; exact endsLawful_completed h]

omit h in
/-- R118: POWER_ON, from any state. -/
theorem endsLawful_powerOn (s : State) : EndsLawful (execPowerOn s) :=
  endsLawful_completed ((((State.lawful_poweredUp s).compareHeat.compareHeat.testFireInput _).testFireInput
    _).testFireInput _)

/-- Every command keeps the law. -/
theorem endsLawful_exec (c : Instr) : EndsLawful (exec c s) := by
  cases c with
  | powerOn => exact endsLawful_powerOn s
  | frameReceived l body => exact endsLawful_completed (h.frameBody l body)
  | interbyteGapTimeout l => exact endsLawful_completed (h.gap l)
  | linkBreak l => exact endsLawful_completed (h.linkReset l)
  | linkMarkReturn l => exact endsLawful_completed (h.markReturns l)
  | transmitFrameEnd l => exact endsLawful_completed (h.frameSent l)
  | unknownRequestKind l kind rest => exact endsLawful_completed (h.frameBody l (kind :: rest))
  | byteReceived l b framingError => exact endsLawful_completed (h.receiveByte l b framingError)
  | ident | status | planRead | planWrite | planInsert | planDelete | planSkip | planHeader | threaded | unthread
  | arm | disarm | stop | clear | startShow | changeNow | boothReset | strike | arcOff | carbonLoad | shutterRaise
  | shutterDrop | fireReset | lights | busReset | packRead | packWrite | packForget | paramRead | paramWrite
  | routeRead | routeWrite | intermissionExtend => exact endsLawful_completed (h.request _ _)
  | tachPulse p instant => exact endsLawful_completed (h.passTo instant).pulse
  | ringTimeout p => exact endsLawful_ringTimeout h p
  | stallTimeout p => exact endsLawful_stallTimeout h p
  | foilInputChange p active => exact endsLawful_foilInputChange h p active
  | foilQualifyExpiry p => exact endsLawful_foilQualifyExpiry h p
  | foilReleaseExpiry p => exact endsLawful_foilReleaseExpiry h p
  | filmSwitchChange p closed => exact endsLawful_filmSwitchChange h p closed
  | filmFilterExpiry p => exact endsLawful_filmFilterExpiry h p
  | runupStage1Expiry p => exact endsLawful_runupStage1Expiry h p
  | runupStage2Expiry p => exact endsLawful_runupStage2Expiry h p
  | arcCurrentChange p current => exact endsLawful_completed (h.setInputs _).testTouch
  | touchTimerExpiry p => exact endsLawful_touchTimerExpiry h p
  | drawTimerExpiry p voltage => exact endsLawful_drawTimerExpiry h p voltage
  | regulationInterval p voltage => exact endsLawful_regulationInterval h p voltage
  | strikeElapsedTick p => exact endsLawful_strikeElapsedTick h p
  | openSenseChange sh made => exact endsLawful_openSenseChange h sh made
  | closedSenseChange sh made => exact endsLawful_closedSenseChange h sh made
  | raiseTimeout sh => exact endsLawful_raiseTimeout h sh
  | dropTimeout sh => exact endsLawful_dropTimeout h sh
  | heatReadingChange p reading => exact endsLawful_completed (h.setInputs _).compareHeat
  | heatStage1Expiry p => exact endsLawful_completed h.stage1TimerTest
  | dousedWaitExpiry p => exact endsLawful_completed h.dousedTimerTest
  | heatStageTimerTick p => exact endsLawful_completed (h.setHeat _)
  | fireSourceOpen x => exact endsLawful_completed ((h.setInputs _).fireSource _)
  | fireSourceClose x => exact endsLawful_completed (h.setInputs _)
  | keySwitchChange turnedOn => exact endsLawful_completed (h.setInputs _)
  | dimmerCycleStart => exact endsLawful_completed h.cycleStart
  | busBreakEnd => exact endsLawful_completed h.breakEnds
  | levelPacketSent => exact endsLawful_completed h.sendPacket
  | levelReplyWindowEnd reply => exact endsLawful_completed (h.windowEnds reply)
  | identifyRoundEnd contenders ack => exact endsLawful_completed (h.roundEnds contenders ack)
  | intermissionTimerTick => exact endsLawful_completed h.timerFalls
  | intermissionExpiry => exact endsLawful_intermissionExpiry h
  | showClockTick => exact endsLawful_showClockTick h

end

/-- A step on an empty queue moves the motion count alone; any other runs the command at the front. -/
theorem State.Booth.step {s t : State} (h : s.Lawful) (ran : step s = .next t) : t.Lawful := by
  unfold Machine.step at ran
  split at ran
  · cases ran
    exact State.Booth.of_changes h (tick_changes s) (by decide)
  · next c rest _ =>
    have popped : ({ s with pending := rest } : State).Lawful := { h with }
    exact endsLawful_exec popped c t ran

/-- Settles O55: the law, block by block, is kept by every command. -/
theorem boothLawKept : Obligations.BoothLawKept := fun s t law ran =>
  (boothLaw_iff t).mpr (((boothLaw_iff s).mp law).step ran)

end Sys2Proof.Machine
end

section
/-! PROOF. STOP and CLEAR in every channel state (R69 to R73). -/

namespace Sys2Proof.Machine

namespace State

variable {s : State} {p : Projector} {i : Nat}

/-! ### A reel's end (R72, R73) -/

/-- R72, R73: a reel that has left the screen is finished, up to the test for exhaustion. -/
abbrev reelFinished (s : State) (p : Projector) (i : Nat) : State :=
  (((s.setChan p (s.chanOf p).finished).setPlan { s.plan with entries := s.plan.entries.modify i fun e =>
      { e with state := .done, framesRun := some (s.motionOf p).frames } }).notify .reelDone p.code
        (byte i :: half (s.motionOf p).frames)).setProg { s.prog with lastDone := some i }

theorem finishReel_eq (entry : (s.chanOf p).entry = some i) :
    s.finishReel p = (s.reelFinished p i).testExhausted true := by
  unfold State.finishReel
  rw [entry]
  rfl

theorem reelFinished_changes (s : State) (p : Projector) (i : Nat) :
    changesOnly (everyLink ++ [.plan, .prog, .chan p]) s (s.reelFinished p i) :=
  ((((setChan_changes s p _).mono (by simp)).andThen (setPlan_changes _ _) (by simp)).andThen
    (notify_changes _ _ _ _) (by simp)).andThen (setProg_changes _ _) (by simp)

theorem chanOf_reelFinished (s : State) (p : Projector) (i : Nat) :
    (s.reelFinished p i).chanOf p = (s.chanOf p).finished := chanOf_setChan_self s p _

theorem notified_reelFinished (s : State) (p : Projector) (i : Nat) :
    notified [s.noticeNow .reelDone p.code (byte i :: half (s.motionOf p).frames)] s (s.reelFinished p i) :=
  ((notified_notify _ _ _ _).before (fun _ => rfl) rfl).after fun _ => rfl

/-! ### The test for exhaustion -/

@[simp] theorem chanOf_testExhausted (s : State) (atReelDone : Bool) (p : Projector) :
    (s.testExhausted atReelDone).chanOf p = s.chanOf p := testExhausted_changes s atReelDone (.chan p) (by simp)

end State

variable {s : State} {p : Projector}

theorem channelAnswer_testExhausted (s : State) (p : Projector) (code : ResultCode) (atReelDone : Bool) :
    channelAnswer p code (s.testExhausted atReelDone) = ⟨s.testExhausted atReelDone, code, channelData s p⟩ := by
  simp [channelAnswer, channelData]

/-! ### STOP and CLEAR (R71, R72) -/

theorem stopAnswer_running (running : (s.chanOf p).state.running = true) :
    stopAnswer p s = channelAnswer p .ok (s.halt p .request) := by
  unfold stopAnswer
  cases state : (s.chanOf p).state <;> simp_all [ChannelState.running]

theorem stopAnswer_halted (halted : (s.chanOf p).state = .halted) : stopAnswer p s = channelAnswer p .ok s := by
  rw [stopAnswer, halted]

theorem stopAnswer_still (still : (s.chanOf p).state = .idle ∨ (s.chanOf p).state = .threaded ∨
    (s.chanOf p).state = .armed) : stopAnswer p s = channelAnswer p .notReady s := by
  unfold stopAnswer
  rcases still with state | state | state <;> rw [state]

theorem clearAnswer_busy (busy : (s.chanOf p).state ≠ .halted) : clearAnswer p s = channelAnswer p .notReady s :=
  if_neg busy

theorem clearAnswer_halted (halted : (s.chanOf p).state = .halted) :
    clearAnswer p s = channelAnswer p .ok (s.clearChannel p) := if_pos halted

theorem clearChannel_past (past : (s.chanOf p).pastPicture = true) : s.clearChannel p = s.finishReel p := if_pos past

theorem clearChannel_closed (shown : (s.chanOf p).pastPicture = false) (closed : (s.motionOf p).filmClosed = true) :
    s.clearChannel p =
      (s.movedWith p .threaded { s.chanOf p with state := .threaded }).testExhausted false := by
  rw [State.clearChannel, if_neg (by simp [shown]), if_pos closed, State.disarmChannel_eq]

theorem clearChannel_open (shown : (s.chanOf p).pastPicture = false) (gone : (s.motionOf p).filmClosed = false) :
    s.clearChannel p =
      (s.movedWith p .pending { s.chanOf p with state := .idle, entry := none }).testExhausted false := by
  rw [State.clearChannel, if_neg (by simp [shown]), if_neg (by simp [gone]), State.unlinkPending_eq]

/-- Settles O24: the halt by its cause, and STOP and CLEAR by the channel's state. -/
theorem reelsHaltedAndCleared : Obligations.ReelsHaltedAndCleared := by
  constructor
  · intro p cause s t c tells
    refine ⟨fun still => State.halt_still still cause, fun running => ?_, fun armed => ?_,
      fun unarmed => State.makeSafe_halts unarmed cause⟩
    · obtain ⟨chan, motion, token, sound⟩ := State.halt_view running cause
      obtain ⟨lost, quiet⟩ := State.halt_show running cause
      have told := State.notified_halt running cause
      exact ⟨chan, motion, token, sound, lost, quiet, by cases cause <;> exact told, State.halt_changes s p cause⟩
    · rw [State.makeSafe_armed armed, State.disarmChannel_eq]
      exact ⟨State.plan_setLinkedState s p _, State.chanOf_setChan_self _ p _,
        State.setLinkedState_setChan_changes s p _ _⟩
  · intro l r p s h right c held now
    have stops := channelRequest_passes (requestBody (.stop p.code)) h right stopAnswer
    have clears := channelRequest_passes (requestBody (.clear p.code)) h right clearAnswer
    let u := s.takeSlot l (requestBody (.clear p.code))
    refine ⟨fun running => ?_, fun halted => ?_, fun still => ?_, fun busy => ?_, fun i halted past entry => ?_,
      fun halted shown closed => ?_, fun halted shown gone => ?_⟩
    · exact grants_of h.2 _ (stops.trans (stopAnswer_running (s := s.takeSlot l _) running))
        (notified_nil fun _ => rfl) trivial (changesOnly_refl _ _)
    · exact repliesOnly_of h.2 (stops.trans (stopAnswer_halted (s := s.takeSlot l _) halted))
    · exact repliesOnly_of h.2 (stops.trans (stopAnswer_still (s := s.takeSlot l _) still))
    · exact repliesOnly_of h.2 (clears.trans (clearAnswer_busy (s := s.takeSlot l _) busy))
    · refine grants_of h.2 (u.reelFinished p i) (clears.trans ?_) (u.notified_reelFinished p i)
        ⟨rfl, rfl, u.chanOf_reelFinished p i⟩ (u.reelFinished_changes p i)
      rw [clearAnswer_halted (s := u) halted, clearChannel_past (s := u) past, State.finishReel_eq (s := u) entry,
        channelAnswer_testExhausted, channelData, u.chanOf_reelFinished]
      rfl
    · refine grants_movedWith h.2 (clears.trans ?_)
      rw [clearAnswer_halted (s := u) halted, clearChannel_closed (s := u) shown closed, channelAnswer_testExhausted,
        channelData, State.chanOf_setChan_self]
      rfl
    · refine grants_movedWith h.2 (clears.trans ?_)
      rw [clearAnswer_halted (s := u) halted, clearChannel_open (s := u) shown gone, channelAnswer_testExhausted,
        channelData, State.chanOf_setChan_self]
      rfl

end Sys2Proof.Machine
end

section
/-! PROOF. START_SHOW by its checks, the intermission timer and the show clock (R67, R154, R159, R163). -/

namespace Sys2Proof.Machine

/-- R124: the lights after an action, where there is one. -/
def Lighting.acted (x : Lighting) (action : Option LightAction) (clock : Nat) (source : FadeSource) : Lighting :=
  match action with
  | some y => x.act clock y.mask y.level y.fade source
  | none => x

/-- R154: the show once START_SHOW is taken, out of IDLE, STALLED or INTERMISSION. -/
def Progress.started (x : Progress) : Progress :=
  { x with
    state := .running
    clockStarted := true
    timer := if x.state = .intermission then none else x.timer
    timerEntry := if x.state = .intermission then none else x.timerEntry }

namespace State

variable {s t : State} {q : Projector} {byPanel : Bool}

theorem applyAction_eq (s : State) (x : Option LightAction) (source : FadeSource) :
    s.applyAction x source = s.setLights (s.lights.acted x s.prog.clock source) := by
  cases x <;> rfl

theorem entryAt_congr (plan : t.plan = s.plan) : t.entryAt = s.entryAt := by
  funext i
  rw [State.entryAt, plan]
  rfl

/-- R5: the entry of a channel turns on the plan and the channel's link alone. -/
theorem entryOf_congr (plan : t.plan = s.plan) (entry : (t.chanOf q).entry = (s.chanOf q).entry) :
    t.entryOf q = s.entryOf q := by
  rw [State.entryOf, State.entryOf, entry, entryAt_congr plan]

/-! ### The checks (R67) -/

/-- R67, step 2: the show states from which START_SHOW is taken. -/
abbrev mayStart (s : State) : Prop :=
  s.prog.state = .idle ∨ s.prog.state = .stalled ∨ s.prog.state = .intermission

theorem startable_iff (s : State) : s.startable = true ↔ s.mayStart ∧ s.token = none := by
  simp [State.startable, mayStart, or_assoc]

theorem startChannel_eq_some (s : State) (q : Projector) :
    s.startChannel = some q ↔
      s.nextChannel = some q ∧ ((s.chanOf q).state = .armed ∨ (s.chanOf q).state = .ready) := by
  simp [State.startChannel, Option.filter_eq_some_iff]

theorem startChannel_eq_none (no : ∀ q, ¬(s.nextChannel = some q ∧
    ((s.chanOf q).state = .armed ∨ (s.chanOf q).state = .ready))) : s.startChannel = none :=
  Option.eq_none_iff_forall_not_mem.mpr fun q found => no q ((startChannel_eq_some s q).mp found)

theorem startCheck_locked (locked : s.fire.lockout = true) : s.startCheck = .error .fireLockout := if_pos locked

theorem startCheck_refused (unlocked : s.fire.lockout = false)
    (refused : ¬(s.mayStart ∧ s.token = none) ∨ s.startChannel = none) : s.startCheck = .error .notReady := by
  rw [← startable_iff] at refused
  unfold State.startCheck
  rw [if_neg (by simp [unlocked])]
  split
  · rfl
  · next startable =>
    rw [refused.resolve_left (by simpa using startable)]

theorem startCheck_found (unlocked : s.fire.lockout = false) (may : s.mayStart) (free : s.token = none)
    (channel : s.startChannel = some q) : s.startCheck = .ok q := by
  have startable := (startable_iff s).mpr ⟨may, free⟩
  simp [State.startCheck, unlocked, startable, channel]

/-! ### The show started (R154, R124) -/

theorem showStarted_prog (may : s.mayStart) (byPanel : Bool) : (s.showStarted byPanel).prog = s.prog.started := by
  unfold State.showStarted Progress.started
  rcases may with state | state | state <;> rw [state]
  · rfl
  · rfl
  · cases byPanel
    · rfl
    · cases timer : s.prog.timer <;> simp

/-- R156: the lights after the restore of a show that was STALLED. -/
abbrev restored (s : State) : Lighting :=
  if s.prog.state = .stalled then s.lights.restoreAction s.prog.clock (s.heldDev .restoreFade) else s.lights

theorem showStarted_lights (may : s.mayStart) (byPanel : Bool) : (s.showStarted byPanel).lights = s.restored := by
  unfold State.showStarted restored
  rcases may with state | state | state <;> rw [state]
  · rfl
  · rfl
  · cases byPanel
    · rfl
    · cases timer : s.prog.timer <;> simp <;> rfl

/-- R154: nothing is sent but at a panel's START_SHOW out of INTERMISSION. -/
theorem showStarted_silent (silent : s.prog.state ≠ .intermission ∨ byPanel = false) :
    changesOnly [.prog, .lights] s (s.showStarted byPanel) := by
  unfold State.showStarted
  dsimp only
  split
  case h_1 => exact (setProg_changes _ _).mono (by simp)
  case h_2 => exact ((setProg_changes s _).mono (by simp)).andThen (applyRestore_changes _) (by simp)
  case h_3 state =>
    rw [silent.resolve_left (not_not_intro state), if_neg Bool.false_ne_true]
    exact (setProg_changes _ _).mono (by simp)
  all_goals exact changesOnly_refl _ _

/-- R154: INTERMISSION_END of a panel's START_SHOW, with the seconds left. -/
theorem showStarted_ends (state : s.prog.state = .intermission) : ∃ x y : Byte,
    (∀ n, s.prog.timer = some n → [x, y] = half n) ∧
      notified [s.noticeNow .intermissionEnd (indexByte s.prog.timerEntry) [0, 0, x, y]] s (s.showStarted true) := by
  unfold State.showStarted
  rw [state]
  cases timer : s.prog.timer with
  | none => exact ⟨s.freeAt 0, s.freeAt 1, nofun, (notified_notify s _ _ _).after fun _ => rfl⟩
  | some n =>
    refine ⟨_, _, fun m same => ?_, (notified_notify s _ _ _).after fun _ => rfl⟩
    cases same
    rfl

/-- R67, R124: what the start of the show leaves, up to the motor start or the screen. -/
theorem openShow_view (may : s.mayStart) (byPanel : Bool) (q : Projector) :
    (s.openShow byPanel q).prog = s.prog.started ∧
      (s.openShow byPanel q).chanOf q = { s.chanOf q with openOnReady := true } ∧
      (s.openShow byPanel q).lights =
        s.restored.acted ((s.entryOf q).bind (·.startAction)) s.prog.clock .start := by
  have chan : (s.showStarted byPanel).chanOf q = s.chanOf q := showStarted_changes s byPanel (.chan q) (by simp)
  have plan : (s.showStarted byPanel).plan = s.plan := showStarted_changes s byPanel .plan (by simp)
  have prog := showStarted_prog may byPanel
  let opened := (s.showStarted byPanel).setChan q { s.chanOf q with openOnReady := true }
  have here : opened.chanOf q = { s.chanOf q with openOnReady := true } := chanOf_setChan_self _ q _
  have entry : opened.entryOf q = s.entryOf q := entryOf_congr plan (by rw [here])
  have eq : s.openShow byPanel q =
      opened.setLights (opened.lights.acted ((s.entryOf q).bind (·.startAction)) opened.prog.clock .start) := by
    rw [State.openShow, modChan_eq, chan, State.applyStart, applyAction_eq, entry]
  rw [eq]
  refine ⟨prog, here, ?_⟩
  rw [lights_setLights, lights_setChan, prog_setChan, showStarted_lights may, prog]
  rfl

theorem openShow_silent (silent : s.prog.state ≠ .intermission ∨ byPanel = false) (q : Projector) :
    changesOnly [.prog, .chan q, .lights] s (s.openShow byPanel q) :=
  (((showStarted_silent silent).mono (by simp)).andThen (setChan_changes _ q _) (by simp)).andThen
    (applyStart_changes _ q) (by simp)

theorem openShow_links (s : State) (byPanel : Bool) (q : Projector) (l : Connector) :
    (s.openShow byPanel q).linkOf l = (s.showStarted byPanel).linkOf l :=
  (applyStart_changes _ q).links l (by simp)

/-! ### The intermission timer (R159) -/

/-- R159: the show with its timer gone. -/
abbrev untimed (s : State) : State := s.setProg { s.prog with timer := none }

theorem timerExpires_waits (none : s.resumeChannel = none) : s.timerExpires = s.untimed.intermissionEnds 2 := by
  have none : s.untimed.resumeChannel = .none := none
  unfold State.timerExpires
  dsimp only
  rw [none]

theorem timerExpires_resumes (channel : s.resumeChannel = some q) (check : s.startCheck = .ok q) :
    s.timerExpires = (s.untimed.intermissionEnds 1).startOn false q := by
  have channel : s.untimed.resumeChannel = some q := channel
  have check : (s.untimed.intermissionEnds 1).startCheck = .ok q := check
  unfold State.timerExpires
  dsimp only
  rw [channel]
  dsimp only
  rw [check]

theorem timerExpires_refused {code : ResultCode} (channel : s.resumeChannel = some q)
    (check : s.startCheck = .error code) : s.timerExpires = s.untimed.intermissionEnds 1 := by
  have channel : s.untimed.resumeChannel = some q := channel
  have check : (s.untimed.intermissionEnds 1).startCheck = .error code := check
  unfold State.timerExpires
  dsimp only
  rw [channel]
  dsimp only
  rw [check]

theorem untimed_changes (s : State) (outcome : Byte) :
    changesOnly (everyLink ++ [.prog]) s (s.untimed.intermissionEnds outcome) :=
  ((setProg_changes s _).mono (by simp)).andThen (notify_changes _ _ _ _) (by simp)

theorem notified_intermissionEnds (s : State) (outcome : Byte) :
    notified [s.noticeNow .intermissionEnd (indexByte s.prog.timerEntry) [1, outcome, 0, 0]] s
      (s.untimed.intermissionEnds outcome) :=
  (notified_notify s.untimed _ _ _).before (fun _ => rfl) rfl

/-! ### The show clock (R163) -/

theorem clockRuns_iff (s : State) :
    s.clockRuns = true ↔ s.prog.clockStarted = true ∧
      (s.prog.state = .running ∨ s.prog.state = .intermission ∨ s.prog.state = .stalled) := by
  simp [State.clockRuns, or_assoc]

/-- R163: the tenths counted, all seconds together. -/
theorem clockTenth_counts (seconds : s.prog.clock ≤ 65535) (tenths : s.prog.tenths ≤ 9) :
    ∃ clock tenths', s.clockTenth = s.setProg { s.prog with clock := clock, tenths := tenths' } ∧
      clock * 10 + tenths' =
        (if s.prog.clock = 65535 ∧ s.prog.tenths = 9 then 655350 else s.prog.clock * 10 + s.prog.tenths + 1) ∧
      tenths' ≤ 9 ∧ clock ≤ 65535 := by
  unfold State.clockTenth
  split
  · next more => exact ⟨s.prog.clock, s.prog.tenths + 1, rfl, by split <;> omega, by omega, seconds⟩
  · next full =>
    refine ⟨min (s.prog.clock + 1) Config.maxHalf, 0, rfl, ?_, Nat.zero_le _, min_le_right _ _⟩
    simp only [Config.maxHalf]
    split <;> omega

end State

/-! ### START_SHOW (R67, R171, R173) -/

/-- R173: a request that every role may make reaches its owner. -/
theorem anyRequest_passes {l : Connector} {r : Role} {s : State} (body : List Byte) (h : heard l r s)
    (owner : State → Answer) :
    screen l (some ()) anyRole (fun _ => owner) (s.takeSlot l body) = owner (s.takeSlot l body) :=
  screen_passes (role := r) ((binding_takeSlot l body s l).trans h.1) rfl

theorem startShowAnswer_refused {s : State} {code : ResultCode} (refused : s.startCheck = .error code) :
    startShowAnswer s = s.answer code := by
  rw [startShowAnswer, refused]

theorem startShowAnswer_taken {s : State} {q : Projector} (found : s.startCheck = .ok q) :
    startShowAnswer s = (s.startOn true q).answer .ok := by
  rw [startShowAnswer, found]

/-- Settles O25: START_SHOW by its checks, and what it makes of the show before the motor start or the screen. -/
theorem showStarts : Obligations.ShowStarts := by
  intro l r s h startable found
  let v := s.takeSlot l (requestBody .startShow)
  have passes : requestAnswer l .startShow v = startShowAnswer v := anyRequest_passes _ h startShowAnswer
  refine ⟨fun locked => ?_, fun unlocked refused => ?_, fun q unlocked startable found => ?_⟩
  · exact repliesOnly_of h.2 (passes.trans (startShowAnswer_refused (State.startCheck_locked (s := v) locked)))
  · have none : (∀ q, ¬found q) → v.startChannel = none := State.startChannel_eq_none (s := v)
    exact repliesOnly_of h.2
      (passes.trans (startShowAnswer_refused (State.startCheck_refused (s := v) unlocked (refused.imp_right none))))
  · obtain ⟨may, free⟩ := startable
    have check := State.startCheck_found (s := v) unlocked may free ((State.startChannel_eq_some v q).mpr found)
    obtain ⟨prog, chan, lights⟩ := State.openShow_view (s := v) may true q
    have only := State.openShow_changes v true q
    intro rest restored effect
    have effects : effect (v.openShow true q) := by
      refine ⟨prog, chan, lights.trans ?_⟩
      cases hx : (s.entryOf q).bind (·.startAction) <;> simp only [v, entryOf_takeSlot, hx] <;> rfl
    refine ⟨fun state => ?_, fun state => ?_⟩
    · have silent := State.openShow_silent (s := v) (byPanel := true) (.inl state) q
      exact grants_of h.2 (v.openShow true q) (passes.trans (startShowAnswer_taken check))
        (notified_nil fun m => silent.links m (by simp)) effects (silent.mono (List.subset_append_right _ _))
    · obtain ⟨x, y, timer, told⟩ := State.showStarted_ends (s := v) state
      exact ⟨x, y, timer, grants_of h.2 (v.openShow true q) (passes.trans (startShowAnswer_taken check))
        (told.after (State.openShow_links v true q)) effects (only.mono (by simp))⟩

/-! ### The timers of the show (R159, R160, R163) -/

/-- R159, R160: INTERMISSION_EXPIRY at the last second. -/
theorem exec_intermissionExpiry {s : State} {n : Nat} (timer : s.prog.timer = some n) :
    exec .intermissionExpiry s = .next (if n ≤ 1 then s.timerExpires else s.timerFalls).finish := by
  change execIntermissionExpiry s = _
  unfold execIntermissionExpiry
  rw [timer]
  dsimp only
  split <;> rfl

/-- Settles O54: the timer by what is left of it, the expiry by what it finds, and the clock by the show's state. -/
theorem showTimersCount : Obligations.ShowTimersCount := by
  refine ⟨?_, ?_, ?_⟩
  · intro s stopped found ended resumes startable lastSecond
    have expires (last : lastSecond) : exec .intermissionExpiry s = .next s.timerExpires.finish := by
      obtain ⟨n, timer, least⟩ := last
      rw [exec_intermissionExpiry timer, if_pos least]
    have resumed {q : Projector} (resumes : resumes) (found : found q) : s.resumeChannel = some q :=
      (if_pos resumes).trans ((State.startChannel_eq_some s q).mpr found)
    refine ⟨⟨s.timerFalls, rfl, notified_nil fun _ => rfl, rfl, (timerFalls_changes s).mono (by simp)⟩,
      fun none => ?_, fun n timer more => ?_, fun last waits => ?_, fun q last resumes found startable => ?_,
      fun q last resumes found refused => ?_⟩
    · change execIntermissionExpiry s = _
      rw [execIntermissionExpiry, none]
      rfl
    · refine ⟨s.timerFalls, ?_, notified_nil fun _ => rfl, ?_, (timerFalls_changes s).mono (by simp)⟩
      · rw [exec_intermissionExpiry timer, if_neg (by omega)]
        rfl
      · simp [State.timerFalls, timer, Nat.not_le.mpr more]
    · have none : s.resumeChannel = none := by
        unfold State.resumeChannel
        split
        · next resumes => exact State.startChannel_eq_none (waits.resolve_left (not_not_intro resumes))
        · rfl
      refine ⟨s.untimed.intermissionEnds 2, ?_, s.notified_intermissionEnds 2, rfl, s.untimed_changes 2⟩
      rw [expires last, State.timerExpires_waits none]
      rfl
    · obtain ⟨unlocked, free, may⟩ := startable
      refine ⟨s.untimed.intermissionEnds 1, ?_, s.notified_intermissionEnds 1, rfl, s.untimed_changes 1⟩
      rw [expires last, State.timerExpires_resumes (resumed resumes found)
        (State.startCheck_found unlocked may free ((State.startChannel_eq_some s q).mpr found))]
    · refine ⟨s.untimed.intermissionEnds 1, ?_, s.notified_intermissionEnds 1, rfl, s.untimed_changes 1⟩
      have check : ∃ code, s.startCheck = .error code := by
        cases locked : s.fire.lockout with
        | true => exact ⟨_, State.startCheck_locked locked⟩
        | false =>
          refine ⟨_, State.startCheck_refused locked (.inl fun ⟨may, free⟩ => refused ⟨locked, free, may⟩)⟩
      obtain ⟨code, check⟩ := check
      rw [expires last, State.timerExpires_refused (resumed resumes found) check]
      rfl
  · intro q s state
    obtain ⟨prog, chan, lights⟩ := State.openShow_view (s := s) (.inr (.inr state)) false q
    refine ⟨s.openShow false q, prog.trans ?_, chan, lights.trans ?_, State.openShow_silent (.inr rfl) q, rfl⟩
    · simp [Progress.started, state]
    · rw [State.restored, if_neg (by simp [state])]
      rfl
  · intro s seconds tenths runsOn
    have clock : exec .showClockTick s = if runsOn then .next s.clockTenth.finish else .next s.finish := by
      simp only [runsOn, ← State.clockRuns_iff]
      rfl
    obtain ⟨x, y, counted, sum, most, seconds'⟩ := State.clockTenth_counts seconds tenths
    refine ⟨fun stands => clock.trans (if_neg stands), fun on => ?_⟩
    refine ⟨s.clockTenth, clock.trans (if_pos on), ?_⟩
    rw [counted]
    exact ⟨notified_nil fun _ => rfl, ⟨rfl, sum, most, seconds'⟩, (setProg_changes _ _).mono (by simp)⟩

end Sys2Proof.Machine
end

section
/-! PROOF. The picture regained, swaps, and reports of the picture conditions (R43, R58 to R68). -/

namespace Sys2Proof.Machine

namespace State

variable {s t : State} {p q out inc : Projector} {kind : SwapKind}

/-! ### The picture regained (R156) -/

theorem pictureRegained_prog (s : State) :
    s.pictureRegained.prog =
      { s.prog with state := if s.prog.state = .stalled then .running else s.prog.state } := by
  unfold State.pictureRegained
  split <;> rfl

theorem pictureRegained_lights (s : State) : s.pictureRegained.lights = s.restored := by
  unfold State.pictureRegained restored
  split <;> rfl

theorem takeScreen_changes (s : State) (p : Projector) : changesOnly [.chan p, .token] s (s.takeScreen p) :=
  ((setChan_changes s p _).mono (by simp)).andThen (setToken_changes _ _) (by simp)

theorem chanOf_takeScreen (s : State) (p : Projector) :
    (s.takeScreen p).chanOf p = { s.chanOf p with state := .onScreen, douser := true } := chanOf_setChan_self s p _

/-! ### The swap (R60, R61, R63) -/

/-- R60: the channels, the token and the position of a swap, before anything is sent. -/
abbrev exchanged (s : State) (out inc : Projector) : State :=
  ((s.leaveScreen out false).takeScreen inc).positionTo inc

/-- R60: a swap, but for what SHW makes of a picture regained. -/
abbrev swapped (s : State) (out inc : Projector) (kind : SwapKind) : State :=
  ((s.exchanged out inc).swapNotice out inc kind s).applyStart inc

/-- R60, R156: the swap regains the picture out of DARK alone. -/
theorem swap_eq (s : State) (out inc : Projector) (kind : SwapKind) :
    s.swap out inc kind =
      if (s.chanOf out).state = .dark then (s.swapped out inc kind).pictureRegained else s.swapped out inc kind := rfl

theorem swapped_swap_changes (s : State) (out inc : Projector) (kind : SwapKind) :
    changesOnly [.prog, .lights] (s.swapped out inc kind) (s.swap out inc kind) := by
  rw [swap_eq]
  split <;> [exact Machine.pictureRegained_changes _; exact changesOnly_refl _ _]

/-- R156: a swap out of DARK regains the picture of a STALLED show. -/
theorem swap_prog (s : State) (out inc : Projector) (kind : SwapKind) :
    (s.swap out inc kind).prog =
      if (s.chanOf out).state = .dark ∧ (s.swapped out inc kind).prog.state = .stalled then
        { (s.swapped out inc kind).prog with state := .running }
      else (s.swapped out inc kind).prog := by
  rw [swap_eq]
  by_cases dark : (s.chanOf out).state = .dark
  · rw [if_pos dark, pictureRegained_prog]
    split <;> simp_all
  · simp [dark]

theorem swap_lights (s : State) (out inc : Projector) (kind : SwapKind) :
    (s.swap out inc kind).lights =
      if (s.chanOf out).state = .dark then (s.swapped out inc kind).restored else (s.swapped out inc kind).lights := by
  rw [swap_eq]
  split <;> [exact pictureRegained_lights _; rfl]

/-- R60, R61, R63, R74: the notice of a swap. -/
def swapNotices (s : State) (out inc : Projector) (kind : SwapKind) : Notice :=
  let position := indexByte (s.chanOf inc).entry
  match kind with
  | .cue => s.noticeNow .changeover inc.code (half (s.rf out) ++ [position, 0])
  | .request => s.noticeNow .changeover inc.code (half (s.rf out) ++ [position, 1])
  | .late => s.noticeNow .lateChangeover inc.code
      (signedHalf ((((s.entryOf out).map (·.allowance)).getD 0 : Int) - s.rf out) ++ [position])

theorem exchanged_changes (s : State) (out inc : Projector) :
    changesOnly [.chan out, .chan inc, .token, .prog] s (s.exchanged out inc) :=
  (((setChan_changes s out _).mono (by simp)).andThen (takeScreen_changes _ inc) (by simp)).andThen
    (setProg_changes _ _) (by simp)

theorem swapNotice_eq (other : inc ≠ out) (kind : SwapKind) :
    (s.exchanged out inc).swapNotice out inc kind s = (s.exchanged out inc).route (s.swapNotices out inc kind) := by
  have chan : (s.leaveScreen out false).chanOf inc = s.chanOf inc := chanOf_setChan_ne s _ other
  have position : (s.exchanged out inc).prog.position = (s.chanOf inc).entry := by
    change (((s.leaveScreen out false).takeScreen inc).chanOf inc).entry = _
    rw [chanOf_takeScreen, chan]
  cases kind <;> simp only [State.swapNotice, position] <;> rfl

/-- R60, R124, R153: what a swap leaves before the picture is regained. -/
theorem swapped_view (other : inc ≠ out) (kind : SwapKind) :
    (s.swapped out inc kind).chanOf out =
        { s.chanOf out with state := .tail, douser := false, pastPicture := true, deferred := false } ∧
      (s.swapped out inc kind).chanOf inc = { s.chanOf inc with state := .onScreen, douser := true } ∧
      (s.swapped out inc kind).token = some inc ∧ (s.swapped out inc kind).sound = some inc ∧
      (s.swapped out inc kind).prog = { s.prog with position := (s.chanOf inc).entry } ∧
      (s.swapped out inc kind).lights =
        s.lights.acted ((s.entryOf inc).bind (·.startAction)) s.prog.clock .start ∧
      notified [s.swapNotices out inc kind] s (s.swapped out inc kind) ∧
      changesOnly (everyLink ++ [.chan out, .chan inc, .token, .prog, .lights]) s (s.swapped out inc kind) := by
  have before := exchanged_changes s out inc
  have chan : (s.leaveScreen out false).chanOf inc = s.chanOf inc := chanOf_setChan_ne s _ other
  have here : (s.exchanged out inc).chanOf inc = { s.chanOf inc with state := .onScreen, douser := true } := by
    change ((s.leaveScreen out false).takeScreen inc).chanOf inc = _
    rw [chanOf_takeScreen, chan]
  have left : (s.exchanged out inc).chanOf out = _ :=
    (chanOf_setChan_ne (s.leaveScreen out false) _ other.symm).trans (chanOf_setChan_self s out _)
  have prog : (s.exchanged out inc).prog = { s.prog with position := (s.chanOf inc).entry } := by
    change { s.prog with position := (((s.leaveScreen out false).takeScreen inc).chanOf inc).entry } = _
    rw [chanOf_takeScreen, chan]
  let sent := (s.exchanged out inc).route (s.swapNotices out inc kind)
  have routed := route_changes (s.exchanged out inc) (s.swapNotices out inc kind)
  have entry : sent.entryOf inc = s.entryOf inc :=
    entryOf_congr (before .plan (by simp)) ((congrArg Channel.entry here).trans rfl)
  have acts : s.swapped out inc kind =
      sent.setLights (sent.lights.acted ((s.entryOf inc).bind (·.startAction)) sent.prog.clock .start) := by
    rw [swapped, swapNotice_eq other, State.applyStart, applyAction_eq, entry]
  rw [acts]
  refine ⟨left, here, rfl, rfl, prog, ?_, ?_, ?_⟩
  · rw [lights_setLights, show sent.prog = (s.exchanged out inc).prog from rfl, prog]
    rfl
  · exact ((notified_route _ _).before (fun l => before.links l (by simp)) (before .routing (by simp))).after
      fun _ => rfl
  · exact ((before.mono (by simp)).andThen routed (by simp)).andThen (setLights_changes _ _) (by simp)

/-! ### CHANGE_NOW (R63) -/

theorem changeNowFrom_ready (holds : s.token = some out) (ready : s.readyForPicture out.other = true)
    (next : s.isNext out.other = true) : s.changeNowFrom = some out := by
  simp [State.changeNowFrom, holds, ready, next]

theorem changeNowFrom_unready (holds : s.token = some out)
    (unready : ¬(s.readyForPicture out.other = true ∧ s.isNext out.other = true)) : s.changeNowFrom = none := by
  simpa [State.changeNowFrom, holds] using unready

end State

theorem changeNowAnswer_none {s : State} (none : s.changeNowFrom = none) : changeNowAnswer s = s.answer .notReady := by
  rw [changeNowAnswer, none]

theorem changeNowAnswer_some {s : State} {out : Projector} (found : s.changeNowFrom = some out) :
    changeNowAnswer s = (s.swap out out.other .request).answer .ok := by
  rw [changeNowAnswer, found]

theorem Projector.other_ne (p : Projector) : p.other ≠ p := by cases p <;> nofun

/-- Settles O26: the swap, with the picture regained out of DARK, and CHANGE_NOW by its checks. -/
theorem pictureSwaps : Obligations.PictureSwaps := by
  intro out kind s inc t position regains acted
  obtain ⟨left, here, token, sound, prog, lights, told, only⟩ := State.swapped_view (s := s) out.other_ne kind
  have last : changesOnly [.prog, .lights] (s.swapped out inc kind) t := State.swapped_swap_changes s out inc kind
  have lights : (s.swapped out inc kind).lights = acted := by
    refine lights.trans ?_
    simp only [acted, Lighting.acted]
    cases (s.entryOf inc).bind (·.startAction) <;> rfl
  refine ⟨(last (.chan out) (by simp)).trans left, (last (.chan inc) (by simp)).trans here,
    (last .token (by simp)).1.trans token, (last .token (by simp)).2.trans sound, ?_, ?_, ?_, ?_, fun l r h => ?_⟩
  · rw [State.swap_prog, prog]
    by_cases regain : regains
    · rw [if_pos regain, if_pos regain]
    · rw [if_neg regain, if_neg regain]
  · have par : (s.swapped out inc kind).par = s.par := only .par (by simp)
    have fade : (s.swapped out inc kind).heldDev .restoreFade = s.heldDev .restoreFade := by
      simp only [State.heldDev, par]
    rw [State.swap_lights, State.restored, lights, prog, fade]
    by_cases dark : (s.chanOf out).state = .dark <;> simp [regains, dark]
  · refine notified.after ?_ fun l => last.links l (by simp)
    cases kind <;> exact told
  · exact (only.mono (by cases out <;> simp [Projector.other])).andThen last (by simp)
  · let v := s.takeSlot l (requestBody .changeNow)
    have passes : requestAnswer l .changeNow v = changeNowAnswer v := anyRequest_passes _ h changeNowAnswer
    have isReady : (s.readyForPicture inc = true ∧ s.isNext inc = true) ↔ (s.chanOf inc).state = .ready ∧
        s.pictureConditions inc = true ∧ s.nextEntry.isSome = true ∧ (s.chanOf inc).entry = s.nextEntry := by
      rw [State.readyForPicture_iff, State.isNext_iff, and_assoc]
    intro ready
    refine ⟨fun ⟨holds, ready⟩ => ?_, fun holds unready => ?_, fun free => ?_⟩
    · obtain ⟨ready, next⟩ := isReady.mpr ready
      exact grants_of h.2 v (passes.trans (changeNowAnswer_some (State.changeNowFrom_ready (s := v) holds ready next)))
        (notified_nil fun _ => rfl) trivial (changesOnly_refl _ _)
    · have unready := fun both => unready ⟨holds, isReady.mp both⟩
      exact repliesOnly_of h.2
        (passes.trans (changeNowAnswer_none (State.changeNowFrom_unready (s := v) holds unready)))
    · have none : v.changeNowFrom = none := by
        rw [State.changeNowFrom, show v.token = none from free]
        rfl
      exact repliesOnly_of h.2 (passes.trans (changeNowAnswer_none none))

end Sys2Proof.Machine
end

section
/-! PROOF. Reports of the picture conditions (R43, R64 to R66, R68), and the speed-reached event (R52). -/

namespace Sys2Proof.Machine

namespace State

variable {s t : State} {p q : Projector}

/-! ### The holder's picture (R64, R65) -/

theorem goDark_changes (s : State) (p : Projector) : changesOnly [.chan p, .prog, .lights] s (s.goDark p) :=
  ((setChan_changes s p _).mono (by simp)).andThen (Machine.pictureLost_changes _) (by simp)

theorem chanOf_goDark (s : State) (p : Projector) :
    (s.goDark p).chanOf p = { s.chanOf p with state := .dark, douser := false } :=
  (Machine.pictureLost_changes _ (.chan p) (by simp)).trans (chanOf_setChan_self s p _)

theorem lostPicture_goDark (s : State) (p : Projector) : lostPicture s (s.goDark p) :=
  lostPicture_pictureLost rfl rfl rfl

/-- R65, R66: the channel is on the screen and RECOVERY is sent, before the show has its picture again. -/
abbrev relit (s : State) (p : Projector) : State :=
  (s.setChan p { s.chanOf p with state := .onScreen, douser := true }).notify .recovery p.code [0]

theorem leaveDark_eq (s : State) (p : Projector) : s.leaveDark p = (s.relit p).pictureRegained := rfl

theorem relit_changes (s : State) (p : Projector) : changesOnly (everyLink ++ [.chan p]) s (s.relit p) :=
  ((setChan_changes s p _).mono (by simp)).andThen (notify_changes _ _ _ _) (by simp)

/-! ### The screen without a holder (R66, R68) -/

/-- R68: a channel is opened for START_SHOW, before the late start test of the other. -/
abbrev opened (s : State) (p : Projector) : State :=
  (s.takeScreen p).setChan p
    { s.chanOf p with
      state := .onScreen
      douser := true
      openOnReady := false
      deferred := (s.chanOf p).deferred || (s.chanOf p).changeTaken }

theorem openScreen_eq (s : State) (p : Projector) : s.openScreen p = (s.opened p).lateStart p.other := by
  rw [State.openScreen, modChan_eq, chanOf_takeScreen]

/-- R66: a channel recovers the screen, before the late start test of the other. -/
abbrev recovered (s : State) (p : Projector) : State :=
  (((s.takeScreen p).setProg { s.prog with position := (s.chanOf p).entry }).notify .recovery p.code
    [1]).pictureRegained

theorem recover_eq (s : State) (p : Projector) : s.recover p = (s.recovered p).lateStart p.other := by
  have position : (s.takeScreen p).positionTo p =
      (s.takeScreen p).setProg { s.prog with position := (s.chanOf p).entry } := by
    rw [State.positionTo, chanOf_takeScreen]
    rfl
  rw [State.recover, position]

/-- R66: what a recovery leaves of the channel and the token, and what it sends. -/
theorem recovered_view (s : State) (p : Projector) :
    (s.recovered p).chanOf p = { s.chanOf p with state := .onScreen, douser := true } ∧
      (s.recovered p).token = some p ∧ (s.recovered p).sound = some p ∧
      notified [s.noticeNow .recovery p.code [1]] s (s.recovered p) ∧
      changesOnly (everyLink ++ [.chan p, .token, .prog, .lights]) s (s.recovered p) := by
  let placed := (s.takeScreen p).setProg { s.prog with position := (s.chanOf p).entry }
  have before : changesOnly (everyLink ++ [.chan p, .token, .prog, .lights]) s placed :=
    ((takeScreen_changes s p).mono (by simp)).andThen (setProg_changes _ _) (by simp)
  have last := Machine.pictureRegained_changes (placed.notify .recovery p.code [1])
  refine ⟨(last (.chan p) (by simp)).trans (chanOf_takeScreen s p), (last .token (by simp)).1,
    (last .token (by simp)).2, ?_, (before.andThen (notify_changes _ _ _ _) (by simp)).andThen last (by simp)⟩
  exact ((notified_notify placed _ _ _).before (fun _ => rfl) rfl).after fun l => last.links l (by simp)

/-! ### The cases of a report (R43) -/

theorem conditionsReported_lost (screen : (s.chanOf p).state = .onScreen) (unmet : s.pictureConditions p = false) :
    s.conditionsReported p = s.goDark p := by
  simp [State.conditionsReported, screen, unmet]

theorem conditionsReported_regained (dark : (s.chanOf p).state = .dark) (met : s.pictureConditions p = true) :
    s.conditionsReported p = s.leaveDark p := by
  simp [State.conditionsReported, dark, met]

theorem conditionsReported_ready (ready : (s.chanOf p).state = .ready) :
    s.conditionsReported p = if s.pictureConditions p = true then s.becomesReady p else s := by
  simp [State.conditionsReported, ready]

theorem conditionsReported_same
    (same : (s.chanOf p).state = .onScreen ∧ s.pictureConditions p = true ∨
      ((s.chanOf p).state = .dark ∨ (s.chanOf p).state = .ready) ∧ s.pictureConditions p = false ∨
      ((s.chanOf p).state ≠ .onScreen ∧ (s.chanOf p).state ≠ .dark ∧ (s.chanOf p).state ≠ .ready)) :
    s.conditionsReported p = s := by
  unfold State.conditionsReported
  rcases same with ⟨screen, met⟩ | ⟨dark | ready, unmet⟩ | ⟨lit, undark, unready⟩
  · simp [screen, met]
  · simp [dark, unmet]
  · simp [ready, unmet]
  · cases state : (s.chanOf p).state <;> simp_all

/-! ### A channel ready for picture (R43) -/

theorem becomesReady_held (held : s.token = some q) :
    s.becomesReady p =
      if q = p.other ∧ (s.chanOf q).deferred = true ∧ s.isNext p = true then s.swap q p .late else s := by
  simp [State.becomesReady, held, and_assoc]

theorem becomesReady_free (free : s.token = none) :
    s.becomesReady p =
      if (s.chanOf p).openOnReady = true then s.openScreen p
      else if s.prog.state = .stalled ∧ s.isNext p = true then s.recover p
      else s := by
  simp [State.becomesReady, free]

end State

/-- Settles O27: the report by the channel's state and its conditions. -/
theorem pictureReports : Obligations.PictureReports := by
  intro p s met t c isNext regained
  have met_iff : s.pictureConditions p = true ↔ met := State.pictureConditions_iff s p
  have unmet_iff : s.pictureConditions p = false ↔ ¬met := by rw [← met_iff, Bool.not_eq_true]
  have next_iff : s.isNext p = true ↔ isNext := State.isNext_iff s p
  refine ⟨fun screen unmet => ?_, fun dark met => ?_, fun same => ?_, fun ready met => ?_, ?_⟩
  · have eq : t = s.goDark p := State.conditionsReported_lost screen (unmet_iff.mpr unmet)
    rw [eq]
    exact ⟨s.chanOf_goDark p, s.lostPicture_goDark p, s.goDark_changes p⟩
  · have eq : t = s.leaveDark p := State.conditionsReported_regained dark (met_iff.mpr met)
    have before := s.relit_changes p
    have last := pictureRegained_changes (s.relit p)
    have told : notified [s.noticeNow .recovery p.code [0]] s (s.relit p) :=
      (notified_notify _ _ _ _).before (fun _ => rfl) rfl
    rw [eq, State.leaveDark_eq]
    refine ⟨(last (.chan p) (by simp)).trans (State.chanOf_setChan_self s p _),
      ⟨?_, State.pictureRegained_lights _⟩, ?_, told.after fun l => last.links l (by simp),
      (before.mono (by simp)).andThen last (by simp)⟩
    · rw [State.pictureRegained_prog]
      rfl
    · rw [State.pictureRegained_prog]
      rfl
  · exact State.conditionsReported_same (by simpa only [met_iff, unmet_iff] using same)
  · have eq : t = s.becomesReady p := (State.conditionsReported_ready ready).trans (if_pos (met_iff.mpr met))
    rw [eq]
    refine ⟨fun held deferred next => ?_, fun held stays => ?_, fun free opens => ?_, fun free shut stays => ?_,
      fun free shut stalled next => ?_⟩
    · rw [State.becomesReady_held held, if_pos ⟨rfl, deferred, next_iff.mpr next⟩]
    · rw [State.becomesReady_held held, if_neg]
      exact fun ⟨_, deferred, next⟩ => stays ⟨deferred, next_iff.mp next⟩
    · rw [State.becomesReady_free free, if_pos opens]
    · rw [State.becomesReady_free free, if_neg (Bool.eq_false_iff.mp shut), if_neg]
      exact fun ⟨stalled, next⟩ => stays ⟨stalled, next_iff.mp next⟩
    · obtain ⟨chan, token, sound, told, only⟩ := s.recovered_view p
      refine ⟨s.recovered p, ?_, chan, token, sound, ⟨?_, State.pictureRegained_lights _⟩, ?_, told, only⟩
      · rw [State.becomesReady_free free, if_neg (Bool.eq_false_iff.mp shut),
          if_pos ⟨stalled, next_iff.mpr next⟩, State.recover_eq]
      · rw [State.recovered, State.pictureRegained_prog]
        rfl
      · rw [State.recovered, State.pictureRegained_prog]
        simp [stalled, c, State.notify, State.route]
  · refine ⟨s.opened p, s.openScreen_eq p, State.chanOf_setChan_self _ p _, rfl, rfl, ?_⟩
    exact (s.takeScreen_changes p).andThen (setChan_changes _ p _) (by simp)

/-! ### The run-up (R52) -/

namespace State

variable {s : State} {p : Projector}

/-- R52: a channel whose speed is reached, with AT_SPEED sent, before it looks for its picture. -/
abbrev atSpeed (s : State) (p : Projector) : State :=
  (s.setChan p { s.chanOf p with state := .ready, runup := .none, runupDue := none }).notify .atSpeed p.code
    (half (s.motionOf p).speed10 ++ [byte (s.tenthsSinceStart p)])

theorem speedReached_eq (starting : (s.chanOf p).state = .starting) :
    s.speedReached p = (s.atSpeed p).conditionsReported p := by
  have ready : ((s.atSpeed p).chanOf p).state = .ready :=
    congrArg Channel.state (chanOf_setChan_self s p _)
  have same : (s.atSpeed p).readyForPicture p = true ↔ (s.atSpeed p).pictureConditions p = true := by
    rw [readyForPicture_iff, and_iff_right ready]
  rw [conditionsReported_ready ready, State.speedReached, if_pos starting]
  simp only [← same]
  rfl

theorem speedReached_still (other : (s.chanOf p).state ≠ .starting) : s.speedReached p = s := if_neg other

/-- R52: stage 2 is timed from the end of stage 1. -/
abbrev slowed (s : State) (p : Projector) : State :=
  let t := s.passToDue (s.chanOf p).runupDue
  (t.notify .slowRunup p.code (half (t.motionOf p).speed10)).setChan p
    { s.chanOf p with
      runup := .two
      runupDue := some (t.motionCount + (s.held p .tR2 - s.held p .tR1) * 1000) }

theorem exec_runupStage1 (one : (s.chanOf p).runup = .one) :
    exec (.runupStage1Expiry p) s = .next (s.slowed p).finish := by
  have passed := passToDue_changes s (s.chanOf p).runupDue
  have held (q : ProjParam) : (s.passToDue (s.chanOf p).runupDue).held p q = s.held p q := by
    rw [State.held, passed .par (by simp)]
    rfl
  have chan (n : Notice) : ((s.passToDue (s.chanOf p).runupDue).route n).chanOf p = s.chanOf p :=
    passed (.chan p) (by simp)
  change execRunupStage1Expiry p s = _
  unfold execRunupStage1Expiry
  rw [if_pos one]
  dsimp only
  rw [held, held, modChan_eq, State.notify, chan]
  rfl

end State

/-- Settles O36: the two stages of a run-up, and the speed-reached event as a report of the channel made READY. -/
theorem runupTimed : Obligations.RunupTimed := by
  intro p s c now speed
  have passed := passToDue_changes s c.runupDue
  have count : (s.passToDue c.runupDue).motionCount = now := State.motionCount_passToDue s c.runupDue
  refine ⟨fun other => ?_, fun one => ?_, fun other => ?_, fun two => ?_, State.speedReached_still, fun starting => ?_⟩
  · exact if_neg other
  · refine ⟨s.slowed p, State.exec_runupStage1 one, ?_, ⟨count, ?_⟩, ?_⟩
    · have notice : (s.passToDue c.runupDue).noticeNow .slowRunup p.code
          (half ((s.passToDue c.runupDue).motionOf p).speed10) = s.noticeNow .slowRunup p.code speed := by
        rw [passed (.motion p) (by simp), noticeNow_eq (congrArg Progress.clock (passed .prog (by simp)))]
      rw [← notice]
      exact ((notified_notify (s.passToDue c.runupDue) _ _ _).before (fun l => passed.links l (by simp))
        (passed .routing (by simp))).after fun _ => rfl
    · rw [State.chanOf_setChan_self, count]
    · exact ((passed.mono (by simp)).andThen (notify_changes _ _ _ _) (by simp)).andThen (setChan_changes _ p _)
        (by simp)
  · exact if_neg other
  · exact ⟨s.passToDue c.runupDue, if_pos two, notified_nil fun l => passed.links l (by simp), count,
      passed.mono (by simp)⟩
  · refine ⟨s.atSpeed p, State.speedReached_eq starting, State.chanOf_setChan_self s p _, ?_, ?_⟩
    · exact (notified_notify _ _ _ _).before (fun _ => rfl) rfl
    · exact ((setChan_changes s p _).mono (by simp)).andThen (notify_changes _ _ _ _) (by simp)

end Sys2Proof.Machine
end

section
/-! PROOF. The cues (R53 to R58). -/

namespace Sys2Proof.Machine

namespace State

variable {s t : State} {p q : Projector} {e : Entry} {cause : CueCause}

/-- R3: the entry's break, in the words of R57. -/
theorem hasBreak_eq (linked : s.entryOf p = some e) : s.hasBreak p = decide (e.brk ≠ .absent) := by
  simp [State.hasBreak, Entry.noBreak, linked]

/-- R5, R17: the next channel turns on the plan, the position and the channels' links alone. -/
theorem nextChannel_congr (plan : t.plan = s.plan) (position : t.prog.position = s.prog.position)
    (entry : ∀ q, (t.chanOf q).entry = (s.chanOf q).entry) :
    t.nextEntry = s.nextEntry ∧ t.nextChannel = s.nextChannel := by
  have next : t.nextEntry = s.nextEntry := by
    rw [State.nextEntry, State.nextEntry, position, plan, entryAt_congr plan]
  have linked : t.linkedTo = s.linkedTo := by
    funext i
    simp only [State.linkedTo, entry]
  exact ⟨next, by rw [State.nextChannel, State.nextChannel, next, linked]⟩

/-! ### A cue marked on its channel -/

/-- A change of the channel's own marks, and a notice of it. -/
structure Marked (s : State) (p : Projector) (c : Channel) (notices : List Notice) (u : State) : Prop where
  chan : u.chanOf p = c
  told : notified notices s u
  only : changesOnly (everyLink ++ [.chan p]) s u

theorem marked_notify (s : State) (p : Projector) (c : Channel) (kind : NoticeKind) (data : List Byte) :
    s.Marked p c [s.noticeNow kind p.code data] ((s.setChan p c).notify kind p.code data) where
  chan := chanOf_setChan_self s p c
  told := (notified_notify _ _ _ _).before (fun _ => rfl) rfl
  only := ((setChan_changes s p c).mono (by simp)).andThen (notify_changes _ _ _ _) (by simp)

/-- What the marks leave of the next entry, the entry and the break of the channel. -/
theorem Marked.reads {c : Channel} {notices : List Notice} (h : s.Marked p c notices t)
    (entry : c.entry = (s.chanOf p).entry) (state : c.state = (s.chanOf p).state) :
    t.entryOf p = s.entryOf p ∧ t.nextEntry = s.nextEntry ∧ t.nextChannel = s.nextChannel ∧
      ∀ q, (t.chanOf q).state = (s.chanOf q).state ∧ t.readyForPicture q = s.readyForPicture q := by
  have plan : t.plan = s.plan := h.only .plan (by simp)
  have prog : t.prog = s.prog := h.only .prog (by simp)
  have chan (q : Projector) :
      (t.chanOf q).entry = (s.chanOf q).entry ∧ (t.chanOf q).state = (s.chanOf q).state := by
    by_cases same : q = p
    · rw [same, h.chan]
      exact ⟨entry, state⟩
    · rw [h.only (.chan q) (by simp [same])]
      exact ⟨rfl, rfl⟩
  obtain ⟨next, channel⟩ := nextChannel_congr plan (by rw [prog]) fun q => (chan q).1
  refine ⟨entryOf_congr plan (chan p).1, next, channel, fun q => ⟨(chan q).2, ?_⟩⟩
  have conditions : t.pictureConditions q = s.pictureConditions q :=
    pictureConditions_congr (by rw [h.only (.arc q) (by simp)]) (by rw [h.only (.shutter q.port) (by simp)])
      (by rw [h.only .fire (by simp)])
  rw [State.readyForPicture, State.readyForPicture, conditions, (chan q).2]

/-! ### The motor cue (R57) -/

/-- R57: the motor cue is marked and CUE_MOTOR sent. -/
abbrev motorCued (s : State) (p : Projector) (cause : CueCause) : State :=
  (s.setChan p { s.chanOf p with motorCueTaken := true }).notify .cueMotor p.code (s.footageData p ++ [cause.code])

theorem takeMotorCue_eq (linked : s.entryOf p = some e) (cause : CueCause) :
    s.takeMotorCue p cause =
      if e.brk ≠ .absent then s.motorCued p cause
      else match s.nextChannel with
        | none => (s.motorCued p cause).noIncoming p
        | some q =>
          if (s.chanOf q).state = .armed then (s.motorCued p cause).startMotor q
          else if (s.chanOf q).state = .starting ∨ (s.chanOf q).state = .ready then s.motorCued p cause
          else (s.motorCued p cause).noIncoming p := by
  have marked := s.marked_notify p { s.chanOf p with motorCueTaken := true } .cueMotor
    (s.footageData p ++ [cause.code])
  obtain ⟨-, -, channel, chan⟩ := marked.reads rfl rfl
  have channel : (s.motorCued p cause).nextChannel = s.nextChannel := channel
  have chan (q : Projector) : ((s.motorCued p cause).chanOf q).state = (s.chanOf q).state := (chan q).1
  have unfolded : s.takeMotorCue p cause =
      if s.hasBreak p then s.motorCued p cause
      else match (s.motorCued p cause).nextChannel with
        | some q =>
          match ((s.motorCued p cause).chanOf q).state with
          | .armed => (s.motorCued p cause).startMotor q
          | .starting | .ready => s.motorCued p cause
          | .idle | .threaded | .onScreen | .dark | .tail | .halted => (s.motorCued p cause).noIncoming p
        | none => (s.motorCued p cause).noIncoming p := rfl
  rw [unfolded, hasBreak_eq linked, channel]
  simp only [decide_eq_true_eq]
  split
  · rfl
  · cases s.nextChannel with
    | none => rfl
    | some q =>
      dsimp only
      rw [chan]
      cases (s.chanOf q).state <;> rfl

theorem noIncoming_motorCued (s : State) (p : Projector) (cause : CueCause) :
    (s.motorCued p cause).noIncoming p =
      (s.motorCued p cause).notify .noIncoming p.code [(s.chanOf p.other).state.code, indexByte s.nextEntry] := by
  obtain ⟨-, next, -, chan⟩ := (s.marked_notify p { s.chanOf p with motorCueTaken := true } .cueMotor
    (s.footageData p ++ [cause.code])).reads rfl rfl
  rw [State.noIncoming, next, (chan p.other).1]

/-! ### The changeover point (R58) -/

/-- R58: the changeover point is marked and CUE_CHANGE sent. -/
abbrev changeCued (s : State) (p : Projector) (cause : CueCause) : State :=
  (s.setChan p { s.chanOf p with changeTaken := true }).notify .cueChange p.code (s.footageData p ++ [cause.code])

/-- R58: the holder is deferred, before an ARMED next channel is started. -/
abbrev deferring (s : State) (p : Projector) : State := s.setChan p { s.chanOf p with deferred := true }

theorem defer_eq (s : State) (p : Projector) :
    s.defer p =
      match s.nextChannel with
      | some q => if (s.chanOf q).state = .armed then (s.deferring p).startMotor q else s.deferring p
      | none => s.deferring p := by
  have entry (q : Projector) : ((s.deferring p).chanOf q).entry = (s.chanOf q).entry ∧
      ((s.deferring p).chanOf q).state = (s.chanOf q).state := by
    rw [deferring, chanOf_setChan]
    split <;> simp_all
  obtain ⟨-, channel⟩ := nextChannel_congr (s := s) (t := s.deferring p) rfl rfl fun q => (entry q).1
  have unfolded : s.defer p =
      match (s.deferring p).nextChannel with
      | some q => if ((s.deferring p).chanOf q).state = .armed then (s.deferring p).startMotor q else s.deferring p
      | none => s.deferring p := rfl
  rw [unfolded, channel]
  cases s.nextChannel with
  | none => rfl
  | some q => simp only [(entry q).2]

theorem takeChange_eq (linked : s.entryOf p = some e) (cause : CueCause) :
    s.takeChange p cause =
      if e.brk ≠ .absent then (s.changeCued p cause).pictureEnd p
      else match s.nextChannel with
        | none => (s.changeCued p cause).deferring p
        | some q =>
          if s.readyForPicture q = true then (s.changeCued p cause).swap p q .cue
          else if (s.chanOf q).state = .armed then ((s.changeCued p cause).deferring p).startMotor q
          else (s.changeCued p cause).deferring p := by
  have marked := s.marked_notify p { s.chanOf p with changeTaken := true } .cueChange
    (s.footageData p ++ [cause.code])
  obtain ⟨-, -, channel, chan⟩ := marked.reads rfl rfl
  have channel : (s.changeCued p cause).nextChannel = s.nextChannel := channel
  have chan (q : Projector) : ((s.changeCued p cause).chanOf q).state = (s.chanOf q).state ∧
      (s.changeCued p cause).readyForPicture q = s.readyForPicture q := chan q
  have unfolded : s.takeChange p cause =
      if s.hasBreak p then (s.changeCued p cause).pictureEnd p
      else match (s.changeCued p cause).nextChannel with
        | some q =>
          if (s.changeCued p cause).readyForPicture q then (s.changeCued p cause).swap p q .cue
          else (s.changeCued p cause).defer p
        | none => (s.changeCued p cause).defer p := rfl
  rw [unfolded, hasBreak_eq linked, defer_eq, channel]
  simp only [decide_eq_true_eq]
  split
  · rfl
  · cases s.nextChannel with
    | none => rfl
    | some q => simp only [(chan q).1, (chan q).2]

/-! ### Foil events and footage points (R53 to R56) -/

/-- R54, R55: a foil is counted. -/
abbrev foilCounted (s : State) (p : Projector) : State :=
  s.setChan p { s.chanOf p with foilCount := min ((s.chanOf p).foilCount + 1) 255 }

theorem foilCounted_reads (s : State) (p : Projector) :
    (s.foilCounted p).entryOf p = s.entryOf p ∧ (s.foilCounted p).footageData p = s.footageData p ∧
      ∀ distance, (s.foilCounted p).inWindow p distance = s.inWindow p distance := by
  have entry : (s.foilCounted p).entryOf p = s.entryOf p := entryOf_congr rfl (by rw [chanOf_setChan_self])
  have rf : (s.foilCounted p).rf p = s.rf p := by
    rw [State.rf, State.remaining, entry]
    rfl
  refine ⟨entry, ?_, fun distance => ?_⟩
  · rw [State.footageData, rf]
    rfl
  · rw [State.inWindow, rf]
    rfl

theorem foilEvent_eq (linked : s.entryOf p = some e) :
    s.foilEvent p =
      match e.cue with
      | .footage => s.foilCounted p
      | .foil =>
        if (s.chanOf p).foilCount = 0 then (s.foilCounted p).takeMotorCue p .foil
        else if (s.chanOf p).foilCount = 1 then (s.foilCounted p).takeChange p .foil
        else (s.foilCounted p).strayFoil p
      | .guarded =>
        if (s.chanOf p).motorCueTaken = false ∧ s.inWindow p e.lead = true then (s.foilCounted p).takeMotorCue p .foil
        else if (s.chanOf p).changeTaken = false ∧ s.inWindow p e.allowance = true then
          (s.foilCounted p).takeChange p .foil
        else (s.foilCounted p).strayFoil p := by
  obtain ⟨entry, -, window⟩ := s.foilCounted_reads p
  have chan : (s.foilCounted p).chanOf p =
      { s.chanOf p with foilCount := min ((s.chanOf p).foilCount + 1) 255 } := chanOf_setChan_self s p _
  have first : min ((s.chanOf p).foilCount + 1) 255 = 1 ↔ (s.chanOf p).foilCount = 0 := by omega
  have second : min ((s.chanOf p).foilCount + 1) 255 = 2 ↔ (s.chanOf p).foilCount = 1 := by omega
  unfold State.foilEvent
  rw [modChan_eq]
  dsimp only
  rw [entry, linked, chan]
  dsimp only
  cases e.cue with
  | footage => rfl
  | foil => simp only [first, second]
  | guarded => simp only [window, Bool.and_eq_true, Bool.not_eq_true']

theorem inWindow_iff (s : State) (p : Projector) (distance : Nat) :
    s.inWindow p distance = true ↔ ((s.rf p : Int) - distance).natAbs ≤ s.held p .guard := decide_eq_true_iff

end State

/-- Settles O28: the foil event by the cue method, the footage points one by one, and the two cues. -/
theorem cuesTaken : Obligations.CuesTaken := by
  intro p e cause s linked f g near
  obtain ⟨-, data, -⟩ := s.foilCounted_reads p
  have near_iff (distance : Nat) : s.inWindow p distance = true ↔ near distance := s.inWindow_iff p distance
  have stray : (s.foilCounted p).strayFoil p =
      (s.foilCounted p).notify .strayFoil p.code (f ++ [byte ((s.foilCounted p).chanOf p).foilCount]) := by
    rw [State.strayFoil, data]
    rfl
  refine ⟨⟨s.foilCounted p, State.chanOf_setChan_self s p _, setChan_changes s p _, ?_⟩, ?_, ?_, ?_, ?_, ?_, ?_⟩
  · intro stray'
    have event := State.foilEvent_eq linked
    rw [stray] at event
    simp only [near_iff] at event
    exact event
  · simp [State.footagePoint, linked]
  · simp [State.footagePoint, linked]
  · simp [State.footagePoint, linked, State.foilMissing, State.footageData, f]
  · simp [State.footagePoint, linked, State.foilMissing, State.footageData, f]
  · obtain ⟨chan, told, only⟩ := s.marked_notify p { s.chanOf p with motorCueTaken := true } .cueMotor
      (s.footageData p ++ [cause.code])
    refine ⟨s.motorCued p cause, chan, told, only, ?_⟩
    intro missing
    have alone : (s.motorCued p cause).noIncoming p = missing := State.noIncoming_motorCued s p cause
    have taken := State.takeMotorCue_eq linked cause
    rw [alone] at taken
    exact taken
  · obtain ⟨chan, told, only⟩ := s.marked_notify p { s.chanOf p with changeTaken := true } .cueChange
      (s.footageData p ++ [cause.code])
    refine ⟨s.changeCued p cause, chan, told, only, ?_⟩
    intro deferred
    have same : (s.changeCued p cause).deferring p = deferred := rfl
    have taken := State.takeChange_eq linked cause
    rw [same] at taken
    exact taken

end Sys2Proof.Machine
end

section
/-! PROOF. The reel end, the end of TAIL, and booth reset (R59, R62, R73, R76). -/

namespace Sys2Proof.Machine

/-- R76: a channel record after a booth reset. -/
def Channel.cleared (c : Channel) : Channel :=
  { c with
    state := .idle
    entry := none
    runup := .none
    runupDue := none
    deferred := false
    openOnReady := false
    pastPicture := false
    douser := false
    motor := false }

namespace State

variable {s t : State} {p : Projector} {i : Nat} {e : Entry}

/-! ### The reel end (R59, R62) -/

/-- R59, R62: the holder's reel has left the screen, and no channel has taken it. -/
abbrev screenLeft (s : State) (p : Projector) (deferred : Bool) : State :=
  (s.leaveScreen p deferred).setToken none

theorem screenLeft_changes (s : State) (p : Projector) (deferred : Bool) :
    changesOnly [.chan p, .token] s (s.screenLeft p deferred) :=
  ((setChan_changes s p _).mono (by simp)).andThen (setToken_changes _ _) (by simp)

theorem chanOf_screenLeft (s : State) (p : Projector) (deferred : Bool) :
    (s.screenLeft p deferred).chanOf p =
      { s.chanOf p with state := .tail, douser := false, pastPicture := true, deferred := deferred } :=
  chanOf_setChan_self s p _

theorem footagePoint_reelEnd (linked : s.entryOf p = some e) :
    s.footagePoint p .reelEnd = if e.brk ≠ .absent then s.pictureEnd p else s.runOut p := by
  simp [State.footagePoint, State.reelEnds, linked, hasBreak_eq linked]

theorem runOut_eq (s : State) (p : Projector) :
    s.runOut p =
      ((s.screenLeft p true).notify .runOut p.code (half (s.motionOf p).frames)).pictureLost := rfl

theorem pictureEnd_eq (entry : (s.chanOf p).entry = some i) (linked : s.entryOf p = some e) :
    s.pictureEnd p = (s.screenLeft p (s.chanOf p).deferred).showPictureEnd i e.brk := by
  unfold State.pictureEnd
  rw [entry, linked]

/-- R157: what a picture end that begins an intermission leaves of the show. -/
theorem showPictureEnd_intermission (shows : s.prog.state = .running ∨ s.prog.state = .stalled) (i duration : Nat)
    (action : Option LightAction) :
    let t := s.showPictureEnd i (.intermission duration action)
    t.prog = { s.prog with
        state := .intermission
        timerEntry := some i
        timer := if duration = 0 then none else some duration } ∧
      t.lights = s.lights.acted action s.prog.clock .intermission ∧
      notified [s.noticeNow .intermissionStart (byte i) (half duration ++ [byte s.plan.passNumber])] s t := by
  unfold State.showPictureEnd
  rw [if_pos shows]
  dsimp only
  rw [State.beginIntermission, applyAction_eq]
  exact ⟨rfl, rfl, (notified_notify _ _ _ _).before (fun _ => rfl) rfl⟩

/-- R158: what a picture end that ends the show leaves of it. -/
theorem showPictureEnd_ending (shows : s.prog.state = .running ∨ s.prog.state = .stalled) (i : Nat)
    (action : Option LightAction) :
    let t := s.showPictureEnd i (.ending action)
    t.prog = { s.prog with state := .ended } ∧
      t.lights = s.lights.acted action s.prog.clock .ending ∧
      notified [s.noticeNow .showEnd (byte i) [0, byte s.plan.passNumber, byte s.plan.repeatCount]] s t := by
  unfold State.showPictureEnd
  rw [if_pos shows]
  dsimp only
  rw [State.endShow, applyAction_eq]
  exact ⟨rfl, rfl, (notified_notify _ _ _ _).before (fun _ => rfl) rfl⟩

/-! ### The end of TAIL (R73) -/

theorem reelDone_tail (tail : (s.chanOf p).state = .tail) (entry : (s.chanOf p).entry = some i) :
    s.reelDone p = ((s.stopMotor p).reelFinished p i).testExhausted true := by
  rw [State.reelDone, if_pos tail]
  refine finishReel_eq (Eq.trans ?_ entry)
  rw [stopMotor_eq, chanOf_setMotion, chanOf_setChan_self]

/-! ### Booth reset (R76) -/

/-- R76: the channels and the plan after a booth reset. -/
abbrev boothCleared (s : State) : State :=
  s.channelsReset.setPlan { s.plan with entries := s.plan.entries.map unprepared }

/-- R76: a booth reset, up to the test for exhaustion. -/
abbrev boothStopped (s : State) : State :=
  let t := (s.boothCleared.putOut .a .boothReset).putOut .b .boothReset
  t.setProg { t.prog with
    state := .idle, timer := none, timerEntry := none, clock := 0, tenths := 0, clockStarted := false }

theorem unprepared_eq (e : Entry) :
    unprepared e =
      if e.state = .threaded ∨ e.state = .armed ∨ e.state = .running then
        { e with state := .pending, framesRun := none } else e := by
  unfold unprepared
  cases state : e.state <;> simp [Entry.renewed]

end State

/-- Settles O29: the reel end by the entry's break, the picture end by the show, and the end of TAIL. -/
theorem reelsEnd : Obligations.ReelsEnd := by
  intro p i e s entry at_i c shows out acted t u
  have linked : s.entryOf p = some e := by rw [State.entryOf, entry]; exact at_i
  have ends : t = if e.brk ≠ .absent then s.pictureEnd p else s.runOut p := State.footagePoint_reelEnd linked
  have acts (x : Option LightAction) (source : FadeSource) :
      s.lights.acted x s.prog.clock source = acted x source := by cases x <;> rfl
  let left := s.screenLeft p c.deferred
  have pictureEnd : u = left.showPictureEnd i e.brk := State.pictureEnd_eq entry linked
  have leaves := s.screenLeft_changes p c.deferred
  have told {notices : List Notice} {v : State} (h : notified notices left v) : notified notices s v :=
    h.before (fun _ => rfl) rfl
  refine ⟨fun breaks => ends.trans (if_pos breaks), fun unbroken => ?_,
    ⟨⟨?_, ?_, ?_⟩, ?_, fun still => ?_, fun duration action shown brk => ?_, fun action shown brk => ?_⟩,
    fun other => if_neg other, fun tail => ?_⟩
  · have gone := s.screenLeft_changes p true
    have lost := pictureLost_changes ((s.screenLeft p true).notify .runOut p.code (half (s.motionOf p).frames))
    rw [ends, if_neg (not_not_intro unbroken), State.runOut_eq]
    refine ⟨⟨(lost (.chan p) (by simp)).trans (s.chanOf_screenLeft p true), (lost .token (by simp)).1,
      (lost .token (by simp)).2⟩, State.lostPicture_pictureLost rfl rfl rfl, ?_, ?_⟩
    · exact ((notified_notify (s.screenLeft p true) _ _ _).before (fun _ => rfl) rfl).after fun l =>
        lost.links l (by simp)
    · exact ((gone.mono (by simp)).andThen (notify_changes _ _ _ _) (by simp)).andThen lost (by simp)
  · rw [pictureEnd]
    exact (showPictureEnd_changes left i e.brk (.chan p) (by simp)).trans (s.chanOf_screenLeft p c.deferred)
  · rw [pictureEnd]
    exact (showPictureEnd_changes left i e.brk .token (by simp)).1
  · rw [pictureEnd]
    exact (showPictureEnd_changes left i e.brk .token (by simp)).2
  · rw [pictureEnd]
    exact (leaves.mono (by simp)).andThen (showPictureEnd_changes left i e.brk) (by simp)
  · have same : left.showPictureEnd i e.brk = left := if_neg still
    rw [pictureEnd, same]
    exact ⟨rfl, rfl, notified_nil fun _ => rfl⟩
  · obtain ⟨prog, lights, sent⟩ := State.showPictureEnd_intermission (s := left) shown i duration action
    rw [pictureEnd, brk]
    exact ⟨prog, lights.trans (acts _ _), told sent⟩
  · obtain ⟨prog, lights, sent⟩ := State.showPictureEnd_ending (s := left) shown i action
    rw [pictureEnd, brk]
    exact ⟨prog, lights.trans (acts _ _), told sent⟩
  · have stops := stopMotor_changes s p
    have here : (s.stopMotor p).chanOf p = { c with motor := false } := State.chanOf_setChan_self s p _
    have ran : ((s.stopMotor p).motionOf p).frames = (s.motionOf p).frames := by
      rw [State.stopMotor_eq, State.motionOf_setMotion_self]
      rfl
    refine ⟨(s.stopMotor p).reelFinished p i, State.reelDone_tail tail entry, ?_, ?_, ?_, ?_, ?_, ?_⟩
    · rw [State.chanOf_reelFinished, here]
    · exact State.motionOf_setMotion_self _ p _
    · simp only [State.reelFinished, ran]
      rfl
    · rfl
    · have sent := State.notified_reelFinished (s.stopMotor p) p i
      rw [ran] at sent
      exact sent.before (fun l => stops.links l (by simp)) rfl
    · exact (stops.mono (by simp)).andThen (State.reelFinished_changes _ p i) (by simp)

/-- Settles O30: BOOTH_RESET, the channels before the arcs and the show last. -/
theorem boothResets : Obligations.BoothResets := by
  intro l s h
  let v := s.takeSlot l (requestBody .boothReset)
  have passes : requestAnswer l .boothReset v = boothResetAnswer v := houseRequest_passes _ h boothResetAnswer
  refine ⟨fun locked => ?_, fun unlocked => ?_⟩
  · exact repliesOnly_of h.2 (passes.trans (if_pos locked))
  · have cleared : changesOnly [.plan, .chan .a, .chan .b, .motion .a, .motion .b, .token] v v.boothCleared :=
      ((State.channelsReset_changes v).mono (by simp)).andThen (setPlan_changes _ _) (by simp)
    have idle (p : Projector) : v.boothCleared.chanOf p = (s.chanOf p).cleared := by cases p <;> rfl
    have rest (p : Projector) : v.boothCleared.motionOf p = (s.motionOf p).stopped := by cases p <;> rfl
    have arc (p : Projector) : v.boothCleared.arcOf p = s.arcOf p := rfl
    obtain ⟨out, arcs, told⟩ := State.putOutBoth_still (s := v.boothCleared) (fun p => by rw [idle]; rfl) .boothReset
    have answer : requestAnswer l .boothReset v = ⟨v.boothStopped.testExhausted false, .ok, []⟩ :=
      passes.trans (if_neg (by simp [v, unlocked]))
    unfold State.boothStopped at answer
    generalize (v.boothCleared.putOut .a .boothReset).putOut .b .boothReset = w at out arcs told answer
    simp only [arc] at arcs told
    have prog : w.prog = s.prog := out .prog (by simp)
    have plan : w.plan = v.boothCleared.plan := out .plan (by simp)
    obtain ⟨token, sound⟩ := out .token (by simp)
    refine grants_of h.2 _ answer ?_ ⟨fun p => ⟨?_, ?_, ?_⟩, token, sound, ?_, ?_⟩ ?_
    · exact (told.before (fun l => cleared.links l (by simp)) (cleared .routing (by simp))).after fun _ => rfl
    · exact (out (.chan p) (by simp)).trans (idle p)
    · exact (out (.motion p) (by simp)).trans (rest p)
    · exact arcs p
    · refine plan.trans ?_
      simp only [State.boothCleared, State.plan_setPlan, funext State.unprepared_eq]
      rfl
    · rw [State.prog_setProg, prog]
    · exact ((cleared.mono (by simp)).andThen out (by simp)).andThen (setProg_changes _ _) (by simp)

end Sys2Proof.Machine
end

section
/-! PROOF. Arc records: what each operation on an arc makes of its record, and the ARC_STATE of a change of state (R78
to R96). -/

namespace Sys2Proof.Machine

/-! ### The records -/

/-- R80: an arc that begins to strike, its TOUCH timer due at an instant. -/
abbrev Arc.touching (x : Arc) (due : Nat) : Arc :=
  { x with
    state := .striking
    phase := .touch
    strikeDue := some due
    elapsed := 0
    contactor := true
    strikeOut := .touching }

/-- R81: an arc that draws, its DRAW timer due at an instant. -/
abbrev Arc.drawing (x : Arc) (due : Nat) : Arc :=
  { x with phase := .draw, strikeDue := some due, strikeOut := .drawing }

/-- R83: the burn record starts afresh. -/
abbrev Arc.fresh (x : Arc) : Arc := { x with ring := [], completed := 0, bucket := 0, intervals := 0, highRun := 0 }

/-- R93: an arc with a new stock. -/
abbrev Arc.loaded (x : Arc) (carbon : Nat) : Arc := { x with carbon := carbon }

/-- R90: a bucket joins the ring. -/
abbrev Arc.bucketed (x : Arc) : Arc :=
  { x with
    ring := (x.ring ++ [x.bucket]).drop (x.ring.length - 5)
    bucket := 0
    intervals := 0
    completed := min (x.completed + 1) 255 }

namespace State

variable {s t : State} {p q : Projector}

/-- R86: the record of an arc that has been fed. -/
abbrev fedArc (s : State) (p : Projector) : Arc :=
  let steps := min (s.stepsAsked p) ((s.arcOf p).carbon - s.held p .stub)
  { s.arcOf p with
    err := (s.inputs.voltage.get p : Int) - s.held p .vt
    asked := s.stepsAsked p
    issued := steps
    carbon := (s.arcOf p).carbon - steps
    bucket := (s.arcOf p).bucket + steps }

/-! ### A record written, and its ARC_STATE -/

@[simp] theorem setArc_setArc (s : State) (p : Projector) (x y : Arc) : (s.setArc p x).setArc p y = s.setArc p y := by
  simp [State.setArc]

@[simp] theorem setArc_arcOf (s : State) (p : Projector) : s.setArc p (s.arcOf p) = s := by
  simp [State.setArc, State.arcOf]

/-- R78: an arc takes a record, and ARC_STATE goes out. -/
abbrev arcMoved (s : State) (p : Projector) (x : Arc) (cause : ArcCause) : State :=
  (s.setArc p x).arcNotice p (s.arcOf p).state cause

/-- R78, R97: the ARC_STATE of an arc that takes a record. -/
abbrev movedNotice (s : State) (p : Projector) (x : Arc) (cause : ArcCause) : Notice :=
  s.noticeNow .arcState p.code ([x.state.code, (s.arcOf p).state.code, cause.code] ++ half x.carbon)

theorem arcMoved_eq (s : State) (p : Projector) (x : Arc) (cause : ArcCause) :
    s.arcMoved p x cause = (s.setArc p x).route (s.movedNotice p x cause) := by
  unfold arcMoved State.arcNotice
  rw [arcOf_setArc_self]
  rfl

theorem arcOf_arcMoved (s : State) (p : Projector) (x : Arc) (cause : ArcCause) :
    (s.arcMoved p x cause).arcOf p = x := arcOf_setArc_self s p x

theorem arcMoved_changes (s : State) (p : Projector) (x : Arc) (cause : ArcCause) :
    changesOnly (everyLink ++ [.arc p]) s (s.arcMoved p x cause) :=
  ((setArc_changes s p x).mono (by simp)).andThen (notify_changes _ _ _ _) (by simp)

theorem notified_arcMoved (s : State) (p : Projector) (x : Arc) (cause : ArcCause) :
    notified [s.movedNotice p x cause] s (s.arcMoved p x cause) := by
  rw [arcMoved_eq]
  exact (notified_route _ _).before (fun _ => rfl) rfl

/-- An earlier change of the record that leaves the state goes unnoticed. -/
theorem arcMoved_setArc {x : Arc} (state : x.state = (s.arcOf p).state) (y : Arc) (cause : ArcCause) :
    (s.setArc p x).arcMoved p y cause = s.arcMoved p y cause := by
  unfold arcMoved
  rw [arcOf_setArc_self, setArc_setArc, state]

/-! ### The operations -/

theorem arcTo_eq (s : State) (p : Projector) (new : ArcState) (cause : ArcCause) :
    s.arcTo p new cause = (s.arcMoved p ((s.arcOf p).become new) cause).conditionsReported p := rfl

/-- R78: a change of state after one of the record that leaves the state. -/
theorem arcTo_setArc {x : Arc} (state : x.state = (s.arcOf p).state) (new : ArcState) (cause : ArcCause) :
    (s.setArc p x).arcTo p new cause = (s.arcMoved p (x.become new) cause).conditionsReported p := by
  rw [arcTo_eq, arcOf_setArc_self, arcMoved_setArc state]

theorem beginStrike_eq (s : State) (p : Projector) :
    s.beginStrike p =
      (s.arcMoved p ((s.arcOf p).touching (s.motionCount + 30000)) .strikeBegun).conditionsReported p := rfl

theorem testTouch_eq (s : State) (p : Projector) :
    s.testTouch p =
      if (s.arcOf p).phase = .touch ∧ s.held p .strikeThreshold ≤ s.inputs.current.get p then
        s.setArc p ((s.arcOf p).drawing (s.motionCount + 5000))
      else s := rfl

theorem freshBurn_eq (s : State) (p : Projector) : s.freshBurn p = s.setArc p (s.arcOf p).fresh := rfl

/-- R82: STRIKE_FAIL, and then the arc goes OFF. -/
abbrev strikeFailed (s : State) (p : Projector) : State :=
  (s.notify .strikeFail p.code [(s.arcOf p).phase.code, byte (s.inputs.voltage.get p), byte (s.inputs.current.get p),
    byte (s.arcOf p).elapsed]).arcMoved p ((s.arcOf p).become .off) .strikeFailed

theorem failStrike_eq (s : State) (p : Projector) : s.failStrike p = (s.strikeFailed p).conditionsReported p := rfl

/-- R86: CARBON_EXHAUSTED, and then the arc takes this record as it is exhausted. -/
abbrev arcSpent (s : State) (p : Projector) (x : Arc) : State :=
  (s.notify .carbonExhausted p.code (half x.carbon ++ half (s.burnRate p))).arcMoved p (x.become .exhausted) .exhausted

theorem exhaustArc_eq (s : State) (p : Projector) :
    s.exhaustArc p = (s.arcSpent p (s.arcOf p)).conditionsReported p := rfl

theorem burnRate_setArc {x : Arc} (ring : x.ring = (s.arcOf p).ring) (completed : x.completed = (s.arcOf p).completed) :
    (s.setArc p x).burnRate p = s.burnRate p := by
  unfold State.burnRate
  rw [arcOf_setArc_self, ring, completed]
  rfl

/-- R86: the exhaustion of an arc that has been fed. -/
theorem exhaustArc_setArc {x : Arc} (state : x.state = (s.arcOf p).state) (ring : x.ring = (s.arcOf p).ring)
    (completed : x.completed = (s.arcOf p).completed) :
    (s.setArc p x).exhaustArc p = (s.arcSpent p x).conditionsReported p := by
  have moved (n : Notice) : ((s.setArc p x).route n).arcTo p .exhausted .exhausted =
      ((s.route n).arcMoved p (x.become .exhausted) .exhausted).conditionsReported p :=
    arcTo_setArc (s := s.route n) state _ _
  unfold State.exhaustArc
  rw [arcOf_setArc_self, burnRate_setArc ring completed]
  exact moved _

theorem loadCarbon_off (off : (s.arcOf p).state = .off) (length : Nat) :
    s.loadCarbon p length = s.setArc p ((s.arcOf p).loaded length) := if_pos off

theorem loadCarbon_moves (other : (s.arcOf p).state ≠ .off) (length : Nat) :
    s.loadCarbon p length =
      (s.arcMoved p (((s.arcOf p).loaded length).become .off) .loaded).conditionsReported p := by
  rw [← arcTo_setArc (x := (s.arcOf p).loaded length) rfl]
  exact if_neg other

theorem feed_eq (s : State) (p : Projector) : s.feed p = s.setArc p (s.fedArc p) := rfl

theorem runningCheck_eq (s : State) (p : Projector) :
    s.runningCheck p =
      if s.token = some p ∧ (s.arcOf p).lowWarned = false ∧ s.carbonTime p < (s.remainingTime p).getD 0 then
        (s.notify .carbonLow p.code (half (s.carbonTime p) ++ half ((s.remainingTime p).getD 0) ++
          half (s.arcOf p).carbon)).setArc p { s.arcOf p with lowWarned := true }
      else s := by
  unfold State.runningCheck
  simp only [Bool.and_eq_true, decide_eq_true_eq, Bool.not_eq_true', and_assoc]
  rfl

theorem completeBucket_eq (s : State) (p : Projector) :
    s.completeBucket p = (s.setArc p (s.arcOf p).bucketed).runningCheck p := by
  have ring : (s.arcOf p).ring.drop ((s.arcOf p).ring.length + 1 - Config.bucketRing) ++ [(s.arcOf p).bucket] =
      ((s.arcOf p).ring ++ [(s.arcOf p).bucket]).drop ((s.arcOf p).ring.length - 5) :=
    (List.drop_append_of_le_length (Nat.sub_le _ 5)).symm
  unfold State.completeBucket Arc.bucketed
  rw [← ring]
  rfl

/-! ### Regulation, case by case (R85 to R88) -/

/-- R87: the high-alarm run after an arc has been fed. -/
abbrev fedRun (s : State) (p : Projector) : Nat :=
  if (s.held p .highAlarm : Int) < (s.fedArc p).err then (s.arcOf p).highRun + 1 else 0

/-- R87: the record of an arc that has been fed, with its run. -/
abbrev ranArc (s : State) (p : Projector) : Arc := { s.fedArc p with highRun := s.fedRun p }

theorem regulate_lost (low : s.inputs.current.get p < s.held p .holdThreshold) :
    s.regulate p = s.arcTo p .off .arcLost := if_pos low

theorem feed_spent_iff (s : State) (p : Projector) :
    ((s.feed p).arcOf p).carbon ≤ (s.feed p).held p .stub ↔ (s.fedArc p).carbon ≤ s.held p .stub := by
  rw [feed_eq, arcOf_setArc_self]
  rfl

theorem regulate_spent (holds : s.held p .holdThreshold ≤ s.inputs.current.get p)
    (spent : (s.fedArc p).carbon ≤ s.held p .stub) :
    s.regulate p = (s.arcSpent p (s.fedArc p)).conditionsReported p := by
  rw [← exhaustArc_setArc (x := s.fedArc p) rfl rfl rfl]
  exact (if_neg (not_lt.mpr holds)).trans (if_pos ((feed_spent_iff s p).mpr spent))

theorem highRunAfter_feed (s : State) (p : Projector) : (s.feed p).highRunAfter p = s.fedRun p := by
  unfold State.highRunAfter
  rw [feed_eq, arcOf_setArc_self]
  rfl

theorem ranArc_eq (s : State) (p : Projector) :
    ((s.feed p).modArc p fun x => { x with highRun := s.fedRun p }) = s.setArc p (s.ranArc p) := by
  rw [modArc, feed_eq, setArc_setArc, arcOf_setArc_self]

theorem regulate_fed (holds : s.held p .holdThreshold ≤ s.inputs.current.get p)
    (left : s.held p .stub < (s.fedArc p).carbon) :
    s.regulate p =
      if s.fedRun p = 20 then (s.arcMoved p ((s.ranArc p).become .fault) .feedFault).conditionsReported p
      else (s.setArc p (s.ranArc p)).countInterval p := by
  have fed : ¬((s.feed p).arcOf p).carbon ≤ (s.feed p).held p .stub :=
    (feed_spent_iff s p).not.mpr (not_le.mpr left)
  unfold State.regulate
  dsimp only
  rw [if_neg (not_lt.mpr holds), if_neg fed, highRunAfter_feed, ranArc_eq, arcTo_setArc (x := s.ranArc p) rfl]
  rfl

end State
end Sys2Proof.Machine
end


section
/-! PROOF. The carbon stock (R79, R86, R93, R96) as what every operation of a step keeps: the amounts an arc may hold,
and a LIT arc's stock above its stub. -/

namespace Sys2Proof.Machine

/-- An arc's carbon is an amount that is allowed it and, where that is asked, stands above the stub while it is LIT. -/
def Arc.Stocked (allowed : Nat → Prop) (asked : Prop) (stub : Nat) (x : Arc) : Prop :=
  allowed x.carbon ∧ (asked → x.state = .lit → stub < x.carbon)

/-- Both arcs, each with the held stub of its projector. The arcs and the store are all that this speaks of, so that an
update of any other block keeps it by definition. -/
def State.Stocked (allowed : Projector → Nat → Prop) (asked : Prop) (s : State) : Prop :=
  ∀ p, (s.arcOf p).Stocked (allowed p) asked (s.held p .stub)

namespace State

variable {allowed : Projector → Nat → Prop} {asked : Prop} {s t : State} {p q : Projector}

/-! ### The updates -/

theorem Stocked.congr (h : s.Stocked allowed asked) (arc : ∀ p, t.arcOf p = s.arcOf p)
    (stub : ∀ p, t.held p .stub = s.held p .stub) : t.Stocked allowed asked := by
  intro p
  rw [arc, stub]
  exact h p

/-- What leaves both arcs and the store alone. -/
theorem Stocked.away (h : s.Stocked allowed asked) (same : (t.arc, t.par) = (s.arc, s.par)) :
    t.Stocked allowed asked := by
  obtain ⟨arc, par⟩ := Prod.mk.inj same
  refine h.congr (fun p => ?_) fun p => ?_
  · rw [State.arcOf, State.arcOf, arc]
  · rw [State.held, State.held, par]

theorem Stocked.of_changes {blocks : List Block} (h : s.Stocked allowed asked) (k : changesOnly blocks s t)
    (away : ∀ b ∈ [Block.arc .a, .arc .b, .par], b ∉ blocks) : t.Stocked allowed asked := by
  have par : t.par = s.par := k .par (away _ (by simp))
  exact h.congr (fun p => k (.arc p) (away _ (by cases p <;> simp))) fun p => by rw [State.held, State.held, par]

/-- One arc's record is written. -/
theorem Stocked.setArc_of {x : Arc} (others : ∀ q, q ≠ p → (s.arcOf q).Stocked (allowed q) asked (s.held q .stub))
    (own : x.Stocked (allowed p) asked (s.held p .stub)) : (s.setArc p x).Stocked allowed asked := by
  intro q
  by_cases same : q = p
  · subst same
    rwa [arcOf_setArc_self]
  · rw [arcOf_setArc_ne s x same]
    exact others q same

theorem Stocked.setArc (h : s.Stocked allowed asked) {x : Arc} (own : x.Stocked (allowed p) asked (s.held p .stub)) :
    (s.setArc p x).Stocked allowed asked := setArc_of (fun q _ => h q) own

/-- One arc's record is written, its state and its carbon as they were. -/
theorem Stocked.setArc_same (h : s.Stocked allowed asked) {x : Arc}
    (same : (x.carbon, x.state) = ((s.arcOf p).carbon, (s.arcOf p).state)) : (s.setArc p x).Stocked allowed asked := by
  obtain ⟨carbon, state⟩ := Prod.mk.inj same
  refine h.setArc ?_
  rw [Arc.Stocked, carbon, state]
  exact h p

/-- R188: the stub is IMMEDIATE, and no other take-effect point reaches it. -/
theorem Stocked.promoteProj (h : s.Stocked allowed asked) {point : TakeEffect} (later : point ≠ .immediate) :
    (s.promoteProj p point).Stocked allowed asked := by
  refine h.congr (fun _ => rfl) fun q => ?_
  unfold State.held State.promoteProj
  rw [par_setPar]
  by_cases same : q = p
  · subst same
    have away : ProjParam.stub.row.point ≠ point := fun at_point => later at_point.symm
    rw [Pair.get_set_self, ProjParams.get_promote, if_neg away]
  · rw [Pair.get_set_ne _ _ same]

theorem Stocked.passToDue (h : s.Stocked allowed asked) (due : Option Nat) : (s.passToDue due).Stocked allowed asked :=
  h.of_changes (passToDue_changes s due) (by simp)

theorem Stocked.notify (h : s.Stocked allowed asked) (kind : NoticeKind) (subject : Byte) (data : List Byte) :
    (s.notify kind subject data).Stocked allowed asked := h.away (by rfl)

theorem Stocked.finish (h : s.Stocked allowed asked) : s.finish.Stocked allowed asked :=
  h.of_changes (finish_changes s) (by simp)

/-! ### The show and the channels (R49 to R73, R154 to R162) -/

theorem Stocked.testExhausted (h : s.Stocked allowed asked) (atReelDone : Bool) :
    (s.testExhausted atReelDone).Stocked allowed asked := h.of_changes (testExhausted_changes s atReelDone) (by simp)

theorem Stocked.pictureLost (h : s.Stocked allowed asked) : s.pictureLost.Stocked allowed asked :=
  h.of_changes (pictureLost_changes s) (by simp)

theorem Stocked.pictureRegained (h : s.Stocked allowed asked) : s.pictureRegained.Stocked allowed asked :=
  h.of_changes (pictureRegained_changes s) (by simp)

theorem Stocked.applyStart (h : s.Stocked allowed asked) : (s.applyStart p).Stocked allowed asked :=
  h.of_changes (applyStart_changes s p) (by simp)

theorem Stocked.setLinkedState (h : s.Stocked allowed asked) (x : EntryState) :
    (s.setLinkedState p x).Stocked allowed asked := h.of_changes (setLinkedState_changes s p x) (by simp)

theorem Stocked.disarmChannel (h : s.Stocked allowed asked) : (s.disarmChannel p).Stocked allowed asked :=
  h.setLinkedState _

theorem Stocked.halt (h : s.Stocked allowed asked) (cause : HaltCause) : (s.halt p cause).Stocked allowed asked :=
  h.of_changes (halt_changes s p cause) (by simp)

theorem Stocked.makeSafe (h : s.Stocked allowed asked) (cause : HaltCause) :
    (s.makeSafe p cause).Stocked allowed asked := by
  unfold State.makeSafe
  split <;> [exact h.disarmChannel; exact h.halt cause]

/-- R51, R188: a motor start promotes the NEXT_START values. -/
theorem Stocked.motorRuns (h : s.Stocked allowed asked) : (s.motorRuns p).Stocked allowed asked :=
  (h.promoteProj (p := p) (point := .nextStart) nofun).setLinkedState (p := p) .running

theorem Stocked.filmAtStart (h : s.Stocked allowed asked) : (s.filmAtStart p).Stocked allowed asked := by
  unfold State.filmAtStart
  split <;> [exact h.away (by rfl); exact h.halt _]

theorem Stocked.startMotor (h : s.Stocked allowed asked) : (s.startMotor p).Stocked allowed asked :=
  h.motorRuns.filmAtStart

theorem Stocked.lateStart (h : s.Stocked allowed asked) : (s.lateStart p).Stocked allowed asked := by
  unfold State.lateStart
  split <;> [exact h.startMotor; exact h.away (by rfl)]

theorem Stocked.swap (h : s.Stocked allowed asked) (kind : SwapKind) : (s.swap p q kind).Stocked allowed asked := by
  have noticed :
      ((((s.leaveScreen p false).takeScreen q).positionTo q).swapNotice p q kind s).Stocked allowed asked := by
    cases kind <;> exact h.away (by rfl)
  have swapped := noticed.applyStart (p := q)
  unfold State.swap
  dsimp only
  split <;> [exact swapped.pictureRegained; exact swapped]

theorem Stocked.openScreen (h : s.Stocked allowed asked) : (s.openScreen p).Stocked allowed asked := by
  have opened : (s.opened p).Stocked allowed asked := h.away (by rfl)
  rw [openScreen_eq]
  exact opened.lateStart

theorem Stocked.recover (h : s.Stocked allowed asked) : (s.recover p).Stocked allowed asked := by
  have recovered : (s.recovered p).Stocked allowed asked := Stocked.pictureRegained (h.away (by rfl))
  rw [recover_eq]
  exact recovered.lateStart

theorem Stocked.becomesReady (h : s.Stocked allowed asked) : (s.becomesReady p).Stocked allowed asked := by
  unfold State.becomesReady
  split
  · split <;> [exact h.swap _; exact h.away (by rfl)]
  · split <;> [exact h.openScreen; split <;> [exact h.recover; exact h.away (by rfl)]]

theorem Stocked.speedReached (h : s.Stocked allowed asked) : (s.speedReached p).Stocked allowed asked := by
  unfold State.speedReached
  split
  · dsimp only
    split <;> [exact Stocked.becomesReady (h.away (by rfl)); exact h.away (by rfl)]
  · exact h.away (by rfl)

/-- R43: a report of a picture condition. -/
theorem Stocked.conditionsReported (h : s.Stocked allowed asked) : (s.conditionsReported p).Stocked allowed asked := by
  unfold State.conditionsReported
  dsimp only
  split
  · split <;> [exact h.away (by rfl); exact Stocked.pictureLost (h.away (by rfl))]
  · split <;> [exact Stocked.pictureRegained (h.away (by rfl)); exact h.away (by rfl)]
  · split <;> [exact h.becomesReady; exact h.away (by rfl)]
  all_goals exact h.away (by rfl)

/-! ### Cues and the ends of reels (R53 to R59, R62, R72, R73) -/

theorem Stocked.pictureEnd (h : s.Stocked allowed asked) : (s.pictureEnd p).Stocked allowed asked := by
  have left : ((s.leaveScreen p (s.chanOf p).deferred).setToken none).Stocked allowed asked := h.away (by rfl)
  unfold State.pictureEnd
  dsimp only
  split
  · exact left.of_changes (showPictureEnd_changes _ _ _) (by simp)
  · exact h.away (by rfl)

theorem Stocked.reelEnds (h : s.Stocked allowed asked) : (s.reelEnds p).Stocked allowed asked := by
  unfold State.reelEnds
  split <;> [exact h.pictureEnd; exact Stocked.pictureLost (h.away (by rfl))]

theorem Stocked.takeMotorCue (h : s.Stocked allowed asked) (cause : CueCause) :
    (s.takeMotorCue p cause).Stocked allowed asked := by
  unfold State.takeMotorCue
  dsimp only
  split
  · exact h.away (by rfl)
  · split
    · split
      · exact Stocked.startMotor (h.away (by rfl))
      all_goals exact h.away (by rfl)
    · exact h.away (by rfl)

theorem Stocked.defer (h : s.Stocked allowed asked) : (s.defer p).Stocked allowed asked := by
  unfold State.defer
  dsimp only
  split
  · split <;> [exact Stocked.startMotor (h.away (by rfl)); exact h.away (by rfl)]
  · exact h.away (by rfl)

theorem Stocked.takeChange (h : s.Stocked allowed asked) (cause : CueCause) :
    (s.takeChange p cause).Stocked allowed asked := by
  unfold State.takeChange
  dsimp only
  split
  · exact Stocked.pictureEnd (h.away (by rfl))
  · split
    · split <;> [exact Stocked.swap (h.away (by rfl)) _; exact Stocked.defer (h.away (by rfl))]
    · exact Stocked.defer (h.away (by rfl))

theorem Stocked.foilEvent (h : s.Stocked allowed asked) : (s.foilEvent p).Stocked allowed asked := by
  unfold State.foilEvent
  dsimp only
  split
  · exact h.away (by rfl)
  · split
    · exact h.away (by rfl)
    all_goals
      split <;> [exact Stocked.takeMotorCue (h.away (by rfl)) _; skip]
      split <;> [exact Stocked.takeChange (h.away (by rfl)) _; exact h.away (by rfl)]

theorem Stocked.footagePoint (h : s.Stocked allowed asked) (x : FootagePoint) :
    (s.footagePoint p x).Stocked allowed asked := by
  unfold State.footagePoint
  dsimp only
  split
  · exact h.away (by rfl)
  · cases x <;> dsimp only
    · split <;> [exact h.takeMotorCue _; exact h.away (by rfl)]
    · split <;> [exact Stocked.takeMotorCue (h.away (by rfl)) _; exact h.away (by rfl)]
    · split <;> [exact h.takeChange _; exact h.away (by rfl)]
    · split <;> [exact Stocked.takeChange (h.away (by rfl)) _; exact h.away (by rfl)]
    · exact h.reelEnds
    · exact h.away (by rfl)

theorem Stocked.finishReel (h : s.Stocked allowed asked) : (s.finishReel p).Stocked allowed asked := by
  unfold State.finishReel
  dsimp only
  split <;> [exact h.away (by rfl); exact Stocked.testExhausted (h.away (by rfl)) _]

theorem Stocked.reelDone (h : s.Stocked allowed asked) : (s.reelDone p).Stocked allowed asked := by
  unfold State.reelDone
  split <;> [exact Stocked.finishReel (h.away (by rfl)); exact h.away (by rfl)]

/-! ### Film motion (R23 to R36) -/

theorem Stocked.testSpeed (h : s.Stocked allowed asked) : (s.testSpeed p).Stocked allowed asked := by
  unfold State.testSpeed
  dsimp only
  split <;> [exact Stocked.speedReached (h.away (by rfl)); exact h.away (by rfl)]

theorem Stocked.testPoints (h : s.Stocked allowed asked) : (s.testPoints p).Stocked allowed asked := by
  have tried (points : List FootagePoint) : (points.foldl (State.tryPoint p) s).Stocked allowed asked := by
    refine List.foldlRecOn (motive := Stocked allowed asked) _ _ h fun u hu x _ => ?_
    unfold State.tryPoint
    split <;> [exact Stocked.footagePoint (hu.away (by rfl)) x; exact hu]
  have tail : (s.tryTailEnd p).Stocked allowed asked := by
    unfold State.tryTailEnd
    split <;> [exact Stocked.reelDone (h.away (by rfl)); exact h.away (by rfl)]
  unfold State.testPoints
  split
  case h_1 | h_2 => exact tried _
  case h_3 => exact tail
  all_goals exact h

theorem Stocked.pulse (h : s.Stocked allowed asked) : (s.pulse p).Stocked allowed asked := by
  have counted {t : State} (ht : t.Stocked allowed asked) : (t.countFrame p).Stocked allowed asked := by
    unfold State.countFrame
    split <;> [exact Stocked.testPoints (ht.away (by rfl)); exact ht]
  have captured : (s.capturePulse p).Stocked allowed asked := h.away (by rfl)
  unfold State.pulse
  split <;> [exact h.away (by rfl); exact counted captured.testSpeed]

theorem Stocked.foilActivation (h : s.Stocked allowed asked) : (s.foilActivation p).Stocked allowed asked := by
  unfold State.foilActivation
  split <;> [exact Stocked.foilEvent (h.away (by rfl)); exact h.away (by rfl)]

theorem Stocked.filmGone (h : s.Stocked allowed asked) : (s.filmGone p).Stocked allowed asked := by
  unfold State.filmGone
  split
  case h_1 | h_2 | h_3 | h_4 => exact h.halt _
  case h_5 => exact h.reelDone
  all_goals exact h

end State
end Sys2Proof.Machine
end

section
/-! PROOF. Arcs, shutters, heat and fire keep the carbon stock (R77 to R118). -/

namespace Sys2Proof.Machine.State

variable {allowed : Projector → Nat → Prop} {asked : Prop} {s t : State} {p q : Projector}

/-! ### Arcs (R78 to R96) -/

/-- R78: an arc takes a record, which is told and reported. -/
theorem Stocked.arcMoved (h : s.Stocked allowed asked) {x : Arc} (own : x.Stocked (allowed p) asked (s.held p .stub))
    (cause : ArcCause) : ((s.arcMoved p x cause).conditionsReported p).Stocked allowed asked :=
  Stocked.conditionsReported (Stocked.away (h.setArc own) (by rfl))

/-- R78: an arc takes a record as it goes out. -/
theorem Stocked.arcOut (h : s.Stocked allowed asked) {x : Arc} (amount : allowed p x.carbon) {new : ArcState}
    (cause : ArcCause) (out : new ≠ .lit) :
    ((s.arcMoved p (x.become new) cause).conditionsReported p).Stocked allowed asked :=
  h.arcMoved (x := x.become new) ⟨amount, fun _ lit => absurd lit out⟩ cause

theorem Stocked.arcEnds (h : s.Stocked allowed asked) {new : ArcState} (cause : ArcCause) (out : new ≠ .lit) :
    (s.arcTo p new cause).Stocked allowed asked := h.arcOut (h p).1 cause out

theorem Stocked.putOut (h : s.Stocked allowed asked) (cause : ArcCause) : (s.putOut p cause).Stocked allowed asked := by
  unfold State.putOut
  split <;> [exact h; exact h.arcEnds _ nofun]

/-- R86: an arc that takes a record as it is exhausted, whatever it held before. -/
theorem Stocked.arcSpent {x : Arc} (others : ∀ q, q ≠ p → (s.arcOf q).Stocked (allowed q) asked (s.held q .stub))
    (amount : allowed p x.carbon) : ((s.arcSpent p x).conditionsReported p).Stocked allowed asked := by
  have spent : (s.setArc p (x.become .exhausted)).Stocked allowed asked := setArc_of others ⟨amount, fun _ => nofun⟩
  exact Stocked.conditionsReported (spent.away (by rfl))

theorem Stocked.exhaustArc (h : s.Stocked allowed asked) : (s.exhaustArc p).Stocked allowed asked :=
  Stocked.arcSpent (fun q _ => h q) (h p).1

theorem Stocked.failStrike (h : s.Stocked allowed asked) : (s.failStrike p).Stocked allowed asked :=
  Stocked.arcEnds (h.away (by rfl)) _ nofun

theorem Stocked.beginStrike (h : s.Stocked allowed asked) : (s.beginStrike p).Stocked allowed asked :=
  h.arcMoved (x := (s.arcOf p).touching _) ⟨(h p).1, fun _ => nofun⟩ _

theorem Stocked.testTouch (h : s.Stocked allowed asked) : (s.testTouch p).Stocked allowed asked := by
  rw [testTouch_eq]
  split <;> [exact h.setArc_same (by rfl); exact h]

/-- R82, R83: the draw lights an arc only above the stub. -/
theorem Stocked.endDraw (h : s.Stocked allowed asked) : (s.endDraw p).Stocked allowed asked := by
  unfold State.endDraw
  split
  · split
    · next above =>
      rw [freshBurn_eq, arcTo_setArc (x := (s.arcOf p).fresh) rfl]
      exact h.arcMoved (x := (s.arcOf p).fresh.become .lit) ⟨(h p).1, fun _ _ => above⟩ _
    · exact h.exhaustArc
  · exact h.failStrike

theorem Stocked.completeBucket (h : s.Stocked allowed asked) : (s.completeBucket p).Stocked allowed asked := by
  have joined : (s.setArc p (s.arcOf p).bucketed).Stocked allowed asked := h.setArc_same (by rfl)
  rw [completeBucket_eq, runningCheck_eq]
  split
  · exact Stocked.setArc_same (joined.away (by rfl)) (by rfl)
  · exact joined

/-- R86: an arc that is fed keeps its carbon above the stub, or is exhausted. -/
theorem Stocked.regulate (h : s.Stocked allowed asked) (falls : ∀ n, n ≤ (s.arcOf p).carbon → allowed p n) :
    (s.regulate p).Stocked allowed asked := by
  have amount : allowed p (s.fedArc p).carbon := falls _ (Nat.sub_le _ _)
  rcases lt_or_ge (s.inputs.current.get p) (s.held p .holdThreshold) with low | holds
  · rw [regulate_lost low]
    exact h.arcEnds _ nofun
  · rcases le_or_gt (s.fedArc p).carbon (s.held p .stub) with spent | left
    · rw [regulate_spent holds spent]
      exact Stocked.arcSpent (fun q _ => h q) amount
    · rw [regulate_fed holds left]
      have ran : (s.setArc p (s.ranArc p)).Stocked allowed asked := h.setArc ⟨amount, fun _ _ => left⟩
      split
      · exact h.arcOut (x := s.ranArc p) amount _ nofun
      · unfold State.countInterval
        split <;> [exact ran.completeBucket; exact ran.setArc_same (by rfl)]

/-- R96: a LIT arc at or below a new stub is exhausted, which is all that the other arc does not meet already. -/
theorem stocked_stubChanged (others : ∀ q, q ≠ p → (s.arcOf q).Stocked (allowed q) asked (s.held q .stub))
    (amount : allowed p (s.arcOf p).carbon) : (s.stubChanged p).Stocked allowed asked := by
  unfold State.stubChanged
  split
  · exact Stocked.arcSpent others amount
  · next still =>
    intro q
    by_cases same : q = p
    · subst same
      exact ⟨amount, fun _ lit => not_le.mp fun below => still ⟨lit, below⟩⟩
    · exact others q same

/-- R93: the stock is set where the arc is neither LIT nor STRIKING. -/
theorem Stocked.carbonLoadAnswer (h : s.Stocked allowed asked) {length : Nat}
    (load : (s.arcOf p).state ≠ .lit → (s.arcOf p).state ≠ .striking → allowed p (max 100 (min length 6000))) :
    (carbonLoadAnswer length p s).state.Stocked allowed asked := by
  have loaded (dark : (s.arcOf p).state ≠ .lit) (still : (s.arcOf p).state ≠ .striking) :
      (s.loadCarbon p (clamp 100 6000 length).val).Stocked allowed asked := by
    rw [clamp_val (by decide)]
    have amount := load dark still
    by_cases off : (s.arcOf p).state = .off
    · rw [loadCarbon_off off]
      exact h.setArc ⟨amount, fun _ lit => absurd lit dark⟩
    · rw [loadCarbon_moves off]
      exact h.arcOut amount _ nofun
  unfold Machine.carbonLoadAnswer
  split
  · exact h
  · exact h
  all_goals
    next state => exact loaded (by rw [state]; nofun) (by rw [state]; nofun)

/-! ### Shutters (R99 to R106) -/

theorem Stocked.shutterTo (h : s.Stocked allowed asked) (sh : Shutter) (new : ShutterState) (cause : ShutterCause) :
    (s.shutterTo sh new cause).Stocked allowed asked := by
  unfold State.shutterTo
  dsimp only
  split <;> [exact Stocked.conditionsReported (h.away (by rfl)); exact h.away (by rfl)]

/-! ### Heat and fire (R107 to R118) -/

/-- R112: fire entry puts both arcs out, and leaves the store. -/
theorem Stocked.fireEntry (h : s.Stocked allowed asked) (x : Source) : (s.fireEntry x).Stocked allowed asked := by
  obtain ⟨-, blocks, -, -, -, -, -, -, frame⟩ := Machine.fireEntry x s
  have par : (s.fireEntry x).par = s.par := frame .par (by decide)
  intro p
  have out : (s.fireEntry x).arcOf p = (s.arcOf p).out := (blocks p).2.2
  have stub : (s.fireEntry x).held p .stub = s.held p .stub := by rw [State.held, State.held, par]
  rw [out, stub]
  unfold Arc.out
  split <;> [exact h p; exact ⟨(h p).1, fun _ => nofun⟩]

theorem Stocked.fireSource (h : s.Stocked allowed asked) (x : Source) : (s.fireSource x).Stocked allowed asked := by
  unfold State.fireSource
  split
  · split <;> exact h.away (by rfl)
  · exact h.fireEntry x

theorem Stocked.testFireInput (h : s.Stocked allowed asked) (x : FireInput) :
    (s.testFireInput x).Stocked allowed asked := by
  unfold State.testFireInput
  split <;> [exact h.fireSource _; exact h]

theorem Stocked.compareHeat (h : s.Stocked allowed asked) : (s.compareHeat p).Stocked allowed asked :=
  h.of_changes (compareHeat_changes s p) (by simp)

theorem Stocked.stage1TimerTest (h : s.Stocked allowed asked) : (s.stage1TimerTest p).Stocked allowed asked := by
  rcases stage1TimerTest_cases s p with ⟨-, same⟩ | ⟨-, acts⟩
  · rwa [same]
  · rw [acts]
    exact Stocked.makeSafe (h.away (by rfl)) _

theorem Stocked.dousedTimerTest (h : s.Stocked allowed asked) : (s.dousedTimerTest p).Stocked allowed asked := by
  rcases dousedTimerTest_cases s p with ⟨-, same⟩ | ⟨-, trips⟩
  · rwa [same]
  · rw [trips]
    exact Stocked.fireSource (h.away (by rfl)) _

theorem Stocked.fireCleared (h : s.Stocked allowed asked) : s.fireCleared.Stocked allowed asked := by
  have reported {u : State} (hu : u.Stocked allowed asked) :
      ((u.conditionsReported .a).conditionsReported .b).Stocked allowed asked :=
    hu.conditionsReported.conditionsReported
  exact Stocked.notify (reported (h.away (by rfl))) _ _ _

/-- R118: at power-on no arc is LIT, and none holds carbon. -/
theorem stocked_poweredUp (s : State) (empty : ∀ p, allowed p 0) : s.poweredUp.Stocked allowed asked := by
  intro p
  cases p <;> exact ⟨empty _, fun _ => nofun⟩

end Sys2Proof.Machine.State
end

section
/-! PROOF. Every request keeps the carbon stock (R9 to R19, R45 to R76, R80 to R102, R115, R123, R145 to R149, R160,
R172, R179, R186). -/

namespace Sys2Proof.Machine.State

variable {allowed : Projector → Nat → Prop} {asked : Prop} {s t : State} {p q : Projector}

/-! ### The plan (R9 to R16) -/

theorem Stocked.releaseChannel (h : s.Stocked allowed asked) (i : Nat) : (s.releaseChannel i).Stocked allowed asked :=
  h.of_changes (releaseChannel_changes s i) (by simp)

theorem Stocked.planWrite (h : s.Stocked allowed asked) (i : Nat) (x : EntryForm) :
    (planWriteAnswer i x s).state.Stocked allowed asked := by
  unfold planWriteAnswer
  split <;> [exact h; split <;> [exact h; skip]]
  dsimp only
  split <;> [exact Stocked.testExhausted (Stocked.away (h.releaseChannel i) (by rfl)) _; exact h]

theorem Stocked.planSkip (h : s.Stocked allowed asked) (i : Nat) :
    (planSkipAnswer i s).state.Stocked allowed asked := by
  unfold planSkipAnswer
  split
  · exact h
  · split
    case h_5 | h_6 =>
      dsimp only
      split <;> [exact Stocked.testExhausted (Stocked.away (h.releaseChannel i) (by rfl)) _; exact h]
    all_goals exact h

theorem Stocked.planInsert (h : s.Stocked allowed asked) (i : Nat) (x : EntryForm) :
    (planInsertAnswer i x s).state.Stocked allowed asked := by
  unfold planInsertAnswer
  split <;> [exact h; split <;> [exact h; split <;> [exact h; skip]]]
  dsimp only
  split <;> exact h.away (by rfl)

theorem Stocked.planDelete (h : s.Stocked allowed asked) (i : Nat) :
    (planDeleteAnswer i s).state.Stocked allowed asked := by
  unfold planDeleteAnswer
  split <;> [exact h; split <;> [exact h; skip]]
  dsimp only
  split <;> [exact Stocked.testExhausted (Stocked.away (h.releaseChannel i) (by rfl)) _; exact h]

theorem Stocked.releaseForRestart (h : s.Stocked allowed asked) : (s.releaseForRestart p).Stocked allowed asked :=
  h.of_changes (releaseForRestart_changes s p) (by simp)

theorem Stocked.planHeader (h : s.Stocked allowed asked) (count : Nat) :
    (planHeaderAnswer count s).state.Stocked allowed asked := by
  have counted : (s.setPlan { s.plan with repeatCount := count }).Stocked allowed asked := h.away (by rfl)
  change (s.writeHeader count).Stocked allowed asked
  unfold State.writeHeader
  dsimp only
  split
  · exact Stocked.away (counted.releaseForRestart (p := .a) |>.releaseForRestart (p := .b)) (by rfl)
  · exact counted

/-! ### The channels (R45 to R76) -/

theorem Stocked.threadedAnswer (h : s.Stocked allowed asked) (label : Byte) :
    (threadedAnswer label p s).state.Stocked allowed asked := by
  have declared (i : Nat) : (s.declareThreaded p i).Stocked allowed asked :=
    Stocked.setArc_same (s := ((s.setEntryState i .threaded).setChan p ((s.chanOf p).laced i)).setMotion p
      { s.motionOf p with frames := 0, raised := [], foilMerge := none }) (h.away (by rfl)) (by rfl)
  unfold Machine.threadedAnswer
  split
  · split <;> exact h
  · split
    · exact h
    · split <;> [exact h; split <;> [exact h; exact declared _]]

theorem Stocked.unlinkPending (h : s.Stocked allowed asked) : (s.unlinkPending p).Stocked allowed asked :=
  Stocked.away (h.setLinkedState (p := p) .pending) (by rfl)

theorem Stocked.unthreadAnswer (h : s.Stocked allowed asked) : (unthreadAnswer p s).state.Stocked allowed asked := by
  unfold Machine.unthreadAnswer
  split
  case h_1 => exact h.unlinkPending
  all_goals exact h

theorem Stocked.armAnswer (h : s.Stocked allowed asked) : (armAnswer p s).state.Stocked allowed asked := by
  have armed : (s.armChannel p).Stocked allowed asked :=
    Stocked.lateStart (Stocked.away (h.setLinkedState (p := p) .armed) (by rfl))
  unfold Machine.armAnswer
  split
  · split <;> [exact h; exact armed]
  all_goals exact h

theorem Stocked.disarmAnswer (h : s.Stocked allowed asked) : (disarmAnswer p s).state.Stocked allowed asked := by
  unfold Machine.disarmAnswer
  split
  case h_1 => exact h.disarmChannel
  all_goals exact h

theorem Stocked.stopAnswer (h : s.Stocked allowed asked) : (stopAnswer p s).state.Stocked allowed asked := by
  unfold Machine.stopAnswer
  split
  case h_1 | h_2 | h_3 | h_4 | h_5 => exact h.halt _
  all_goals exact h

theorem Stocked.clearAnswer (h : s.Stocked allowed asked) : (clearAnswer p s).state.Stocked allowed asked := by
  have cleared : (s.clearChannel p).Stocked allowed asked := by
    unfold State.clearChannel
    split
    · exact h.finishReel
    · split <;> [exact h.disarmChannel.testExhausted _; exact h.unlinkPending.testExhausted _]
  unfold Machine.clearAnswer
  split <;> [exact cleared; exact h]

theorem Stocked.startOn (h : s.Stocked allowed asked) (byPanel : Bool) :
    (s.startOn byPanel q).Stocked allowed asked := by
  have opened : (s.openShow byPanel q).Stocked allowed asked := h.of_changes (openShow_changes s byPanel q) (by simp)
  unfold State.startOn
  dsimp only
  split
  · exact Stocked.filmAtStart (Stocked.away (opened.motorRuns (p := q)) (by rfl))
  · split <;> [exact Stocked.openScreen (opened.away (by rfl)); exact opened.away (by rfl)]

theorem Stocked.startShowAnswer (h : s.Stocked allowed asked) : (startShowAnswer s).state.Stocked allowed asked := by
  unfold Machine.startShowAnswer
  split <;> [exact h.startOn true; exact h]

theorem Stocked.timerExpires (h : s.Stocked allowed asked) : s.timerExpires.Stocked allowed asked := by
  unfold State.timerExpires
  dsimp only
  split
  · split <;> [exact Stocked.startOn (h.away (by rfl)) false; exact h.away (by rfl)]
  · exact h.away (by rfl)

theorem Stocked.changeNowAnswer (h : s.Stocked allowed asked) : (changeNowAnswer s).state.Stocked allowed asked := by
  unfold Machine.changeNowAnswer
  split <;> [exact h.swap _; exact h]

/-- R76: booth reset puts both arcs out. -/
theorem Stocked.boothResetAnswer (h : s.Stocked allowed asked) : (boothResetAnswer s).state.Stocked allowed asked := by
  have cleared : s.boothCleared.Stocked allowed asked := h.away (by rfl)
  have out := (cleared.putOut (p := .a) .boothReset).putOut (p := .b) .boothReset
  unfold Machine.boothResetAnswer
  split <;> [exact h; exact Stocked.testExhausted (out.away (by rfl)) false]

/-! ### Arcs, shutters, fire and lights (R80, R100, R102, R115, R123) -/

theorem Stocked.strikeAnswer (h : s.Stocked allowed asked) : (strikeAnswer p s).state.Stocked allowed asked := by
  unfold Machine.strikeAnswer
  split <;> [exact h; split <;> [exact h; split <;> [exact h; exact h.beginStrike]]]

theorem Stocked.shutterRaiseAnswer (h : s.Stocked allowed asked) (sh : Shutter) :
    (shutterRaiseAnswer sh s).state.Stocked allowed asked := by
  unfold Machine.shutterRaiseAnswer
  split
  case h_4 | h_5 => split <;> [exact h; exact h.shutterTo _ _ _]
  all_goals exact h

theorem Stocked.shutterDropAnswer (h : s.Stocked allowed asked) (sh : Shutter) :
    (shutterDropAnswer sh s).state.Stocked allowed asked := by
  unfold Machine.shutterDropAnswer
  split
  case h_1 | h_2 => exact h.shutterTo _ _ _
  all_goals exact h

theorem Stocked.fireResetAnswer (h : s.Stocked allowed asked) : (fireResetAnswer s).state.Stocked allowed asked := by
  unfold Machine.fireResetAnswer
  split <;> [exact h; split <;> [exact h; split <;> [exact h; exact h.fireCleared]]]

theorem Stocked.lightsAnswer (h : s.Stocked allowed asked) (mask level : Byte) (fade : Half) :
    (lightsAnswer mask level fade s).state.Stocked allowed asked := by
  unfold Machine.lightsAnswer
  split
  · exact h
  · dsimp only
    split <;> exact h.away (by rfl)

/-! ### Parameters (R186 to R189) -/

theorem Stocked.paramActs (h : s.Stocked allowed asked) (x : ParamRef) : (s.paramActs x).Stocked allowed asked := by
  unfold State.paramActs
  split
  · exact h.testTouch
  · exact stocked_stubChanged (fun q _ => h q) (h _).1
  · exact h.compareHeat
  · exact h.stage1TimerTest.stage1TimerTest
  · exact h.dousedTimerTest.dousedTimerTest
  all_goals exact h

/-- A write of another projector's parameter, or of another parameter than the stub, leaves the held stub. -/
theorem held_stub_placeParam (s : State) {ref : ParamRef} {q : Projector} (other : ref ≠ .proj q .stub) (v : Nat) :
    (s.placeParam ref v).held q .stub = s.held q .stub := by
  cases ref with
  | dev x => rfl
  | proj p x =>
    unfold State.held State.placeParam Params.setRec
    dsimp only [par_setPar]
    by_cases same : q = p
    · subst same
      rw [Pair.get_set_self, ProjParams.get_set_ne _ _ fun stub => other (by rw [stub])]
    · rw [Pair.get_set_ne _ _ same]

theorem held_stub_limitRaised (s : State) (ref : ParamRef) (q : Projector) :
    (s.limitRaised ref).1.held q .stub = s.held q .stub := by
  unfold State.limitRaised
  split
  · next p =>
    unfold State.held
    dsimp only [par_setPar]
    by_cases same : q = p
    · subst same
      rw [Pair.get_set_self, ProjParams.raiseLimit]
      split <;> rfl
    · rw [Pair.get_set_ne _ _ same]
  · rfl

/-- R96, R186: a stub that is written exhausts a LIT arc that it leaves without carbon. -/
theorem Stocked.paramWriteAnswer (h : s.Stocked allowed asked) (value : Half) (x : Option ParamRef) :
    (paramWriteAnswer value x s).state.Stocked allowed asked := by
  cases x with
  | none => exact h
  | some ref =>
    let v := (s.constrained ref (ref.inRange value.toNat)).val
    change (((s.placeParam ref v).limitRaised ref).1.paramActs ref).Stocked allowed asked
    by_cases stub : ∃ p, ref = .proj p .stub
    · obtain ⟨p, rfl⟩ := stub
      refine stocked_stubChanged (fun q other => ?_) (h p).1
      change (s.arcOf q).Stocked _ _ ((s.placeParam (.proj p .stub) v).held q .stub)
      rw [held_stub_placeParam s (by simpa using Ne.symm other)]
      exact h q
    · refine Stocked.paramActs (h.congr (fun q => ?_) fun q => ?_) ref
      · unfold State.limitRaised
        split <;> rfl
      · rw [held_stub_limitRaised, held_stub_placeParam s fun same => stub ⟨q, same⟩]

end Sys2Proof.Machine.State
end

section
/-! PROOF. The carbon law (R79, R93): requests, frames and bytes, the dimmer bus, each command of the table, and the
step. -/

namespace Sys2Proof.Machine

/-! ### The frame of a CARBON_LOAD (R192, R194) -/

theorem Projector.code_of_ofCode {c : Byte} {p : Projector} (named : Projector.ofCode c = some p) : c = p.code := by
  unfold Projector.ofCode at named
  split at named
  · next zero =>
    cases named
    exact zero
  · split at named <;> cases named
    assumption

theorem half_halfOf (hi lo : Byte) : half (halfOf hi lo).toNat = [hi, lo] := by
  have number : (halfOf hi lo).toNat = hi.toNat * 256 + lo.toNat := by
    unfold halfOf
    rw [BitVec.toNat_ofNat]
    omega
  unfold half byte
  rw [number]
  congr 1
  · apply BitVec.eq_of_toNat_eq
    rw [BitVec.toNat_ofNat]
    omega
  · congr 1
    apply BitVec.eq_of_toNat_eq
    rw [BitVec.toNat_ofNat]
    omega

/-- R194: only a CARBON_LOAD's own frame spells it. -/
theorem body_of_parse_carbonLoad {kind c : Byte} {params : List Byte} {length : Half}
    (spells : parseRequest kind params = some (.carbonLoad c length)) :
    kind :: params = requestBody (.carbonLoad c length) := by
  unfold parseRequest at spells
  split at spells
  case h_4 x y z =>
    unfold requestOf3 at spells
    split at spells
    · next code =>
      cases spells
      have kind : kind = 0x13 := BitVec.eq_of_toNat_eq code
      rw [requestBody, requestParams, half_halfOf, kind]
      rfl
    · cases spells
    · cases spells
  case h_6 =>
    unfold requestOfEntry at spells
    split at spells
    · simp at spells
    · simp at spells
    · cases spells
  all_goals
    first | unfold requestOf0 at spells | unfold requestOf1 at spells | unfold requestOf2 at spells
          | unfold requestOf4 at spells
    split at spells <;> cases spells

namespace State

variable {allowed : Projector → Nat → Prop} {asked : Prop} {s t : State} {p q : Projector}

/-- R93: the amount that a CARBON_LOAD brings is allowed, where the arc can be loaded. -/
def LoadAllowed (allowed : Projector → Nat → Prop) (s : State) (p : Projector) (length : Half) : Prop :=
  (s.arcOf p).state ≠ .lit → (s.arcOf p).state ≠ .striking → allowed p (max 100 (min length.toNat 6000))

/-! ### The dimmer bus, routing and links (R123, R136 to R149, R160, R172, R179) -/

theorem Stocked.fadeStep (h : s.Stocked allowed asked) : s.fadeStep.Stocked allowed asked := by
  refine List.foldlRecOn (motive := Stocked allowed asked) _ _ h fun t ht g _ => ?_
  unfold State.fadeStepOn
  dsimp only
  split <;> exact ht.away (by rfl)

/-- R136, R188: a cycle start promotes device parameters alone. -/
theorem Stocked.cycleStart (h : s.Stocked allowed asked) : s.cycleStart.Stocked allowed asked := by
  have promoted : ((s.passTo s.bus.cycleDue).promoteCycle).Stocked allowed asked :=
    h.congr (fun _ => rfl) fun _ => rfl
  exact Stocked.away promoted.fadeStep (by rfl)

theorem Stocked.sendPacket (h : s.Stocked allowed asked) : s.sendPacket.Stocked allowed asked := by
  unfold State.sendPacket
  dsimp only
  repeat' split
  all_goals exact h.away (by rfl)

theorem Stocked.windowEnds (h : s.Stocked allowed asked) (reply : List Byte) :
    (s.windowEnds reply).Stocked allowed asked := by
  unfold State.windowEnds State.packAnswers State.packMisses
  dsimp only
  repeat' split
  all_goals exact h.away (by rfl)

theorem Stocked.roundAnswered (h : s.Stocked allowed asked) (contenders : List Serial) (ack : List Byte) :
    (s.roundAnswered contenders ack).Stocked allowed asked := by
  unfold State.roundAnswered State.roundWon State.roundVoid
  dsimp only
  repeat' split
  all_goals exact h.away (by rfl)

theorem Stocked.countRound (h : s.Stocked allowed asked) (answered : Bool) :
    (s.countRound answered).Stocked allowed asked := by
  unfold State.countRound
  dsimp only
  repeat' split
  all_goals exact h.away (by rfl)

theorem Stocked.roundEnds (h : s.Stocked allowed asked) (contenders : List Serial) (ack : List Byte) :
    (s.roundEnds contenders ack).Stocked allowed asked := by
  have due : (s.modBus fun b => { b with roundDue := false, out := [] }).Stocked allowed asked := h.away (by rfl)
  unfold State.roundEnds
  split
  · dsimp only
    split <;> [exact due.countRound _; exact (due.roundAnswered _ _).countRound _]
  · exact h

theorem Stocked.breakEnds (h : s.Stocked allowed asked) : s.breakEnds.Stocked allowed asked := by
  unfold State.breakEnds
  split <;> exact h.away (by rfl)

theorem Stocked.identAnswer (h : s.Stocked allowed asked) (l : Connector) (role : Byte) :
    (identAnswer l role s).state.Stocked allowed asked := by
  unfold Machine.identAnswer
  split <;> [exact h; split <;> [exact h; split <;> [exact h; exact h.away (by rfl)]]]

theorem Stocked.busResetAnswer (h : s.Stocked allowed asked) : (busResetAnswer s).state.Stocked allowed asked := by
  unfold Machine.busResetAnswer
  split <;> exact h.away (by rfl)

theorem Stocked.packReadAnswer (h : s.Stocked allowed asked) (a : Byte) :
    (packReadAnswer a s).state.Stocked allowed asked := by
  unfold Machine.packReadAnswer
  split <;> [exact h; split <;> exact h]

theorem Stocked.packWriteAnswer (h : s.Stocked allowed asked) (a g top : Byte) :
    (packWriteAnswer a g top s).state.Stocked allowed asked := by
  unfold Machine.packWriteAnswer
  split <;> exact h.away (by rfl)

theorem Stocked.packForgetAnswer (h : s.Stocked allowed asked) (a : Byte) :
    (packForgetAnswer a s).state.Stocked allowed asked := by
  unfold Machine.packForgetAnswer
  split <;> [exact h; split <;> exact h.away (by rfl)]

theorem Stocked.routeReadAnswer (h : s.Stocked allowed asked) (k : Byte) :
    (routeReadAnswer k s).state.Stocked allowed asked := by
  unfold Machine.routeReadAnswer
  split <;> exact h

theorem Stocked.routeWriteAnswer (h : s.Stocked allowed asked) (mask k : Byte) :
    (routeWriteAnswer mask k s).state.Stocked allowed asked := by
  unfold Machine.routeWriteAnswer
  split <;> exact h.away (by rfl)

theorem Stocked.intermissionExtendAnswer (h : s.Stocked allowed asked) (seconds : Half) :
    (intermissionExtendAnswer seconds s).state.Stocked allowed asked := by
  unfold Machine.intermissionExtendAnswer
  split <;> exact h.away (by rfl)

theorem Stocked.statusAnswer (h : s.Stocked allowed asked) (sect : Byte) :
    (statusAnswer sect s).state.Stocked allowed asked := by
  unfold Machine.statusAnswer
  split <;> exact h.away (by rfl)

theorem Stocked.planReadAnswer (h : s.Stocked allowed asked) (i : Byte) :
    (planReadAnswer i s).state.Stocked allowed asked := by
  unfold Machine.planReadAnswer
  split <;> [exact h; split <;> exact h]

theorem Stocked.paramReadAnswer (h : s.Stocked allowed asked) (x : Option ParamRef) :
    (paramReadAnswer x s).state.Stocked allowed asked := by
  cases x <;> exact h

/-! ### Every request -/

theorem Stocked.screen {α : Type} {owner : α → State → Answer} {subject : Option α} (h : s.Stocked allowed asked)
    (owns : ∀ x, subject = some x → (owner x s).state.Stocked allowed asked) (l : Connector) (rights : Rights α) :
    (screen l subject rights owner s).state.Stocked allowed asked := by
  unfold Machine.screen
  split <;> [exact h; split <;> [exact h; split <;> [exact owns _ rfl; exact h]]]

theorem Stocked.requestAnswer (h : s.Stocked allowed asked) (l : Connector) (r : Request)
    (load : ∀ p length, r = .carbonLoad p.code length → s.LoadAllowed allowed p length) :
    (requestAnswer l r s).state.Stocked allowed asked := by
  cases r with
  | ident role => exact h.identAnswer l role
  | status sect => exact h.screen (fun _ _ => h.statusAnswer sect) _ _
  | planRead i => exact h.screen (fun _ _ => h.planReadAnswer i) _ _
  | planWrite i x => exact h.screen (fun _ _ => h.planWrite i.toNat x) _ _
  | planInsert i x => exact h.screen (fun _ _ => h.planInsert i.toNat x) _ _
  | planDelete i => exact h.screen (fun _ _ => h.planDelete i.toNat) _ _
  | planSkip i => exact h.screen (fun _ _ => h.planSkip i.toNat) _ _
  | planHeader n => exact h.screen (fun _ _ => h.planHeader n.toNat) _ _
  | threaded p label => exact h.screen (fun _ _ => h.threadedAnswer label) _ _
  | unthread p => exact h.screen (fun _ _ => h.unthreadAnswer) _ _
  | arm p => exact h.screen (fun _ _ => h.armAnswer) _ _
  | disarm p => exact h.screen (fun _ _ => h.disarmAnswer) _ _
  | stop p => exact h.screen (fun _ _ => h.stopAnswer) _ _
  | clear p => exact h.screen (fun _ _ => h.clearAnswer) _ _
  | startShow => exact h.screen (fun _ _ => h.startShowAnswer) _ _
  | changeNow => exact h.screen (fun _ _ => h.changeNowAnswer) _ _
  | strike p => exact h.screen (fun _ _ => h.strikeAnswer) _ _
  | arcOff p => exact h.screen (fun _ _ => h.putOut _) _ _
  | carbonLoad c n =>
    refine h.screen (fun p named => h.carbonLoadAnswer ?_) _ _
    exact load p n (by rw [Projector.code_of_ofCode named])
  | shutterRaise sh => exact h.screen (fun x _ => h.shutterRaiseAnswer x) _ _
  | shutterDrop sh => exact h.screen (fun x _ => h.shutterDropAnswer x) _ _
  | lights mask level fade => exact h.screen (fun _ _ => h.lightsAnswer mask level fade) _ _
  | fireReset => exact h.screen (fun _ _ => h.fireResetAnswer) _ _
  | boothReset => exact h.screen (fun _ _ => h.boothResetAnswer) _ _
  | busReset => exact h.screen (fun _ _ => h.busResetAnswer) _ _
  | packRead a => exact h.screen (fun _ _ => h.packReadAnswer a) _ _
  | packWrite a g top => exact h.screen (fun _ _ => h.packWriteAnswer a g top) _ _
  | packForget a => exact h.screen (fun _ _ => h.packForgetAnswer a) _ _
  | paramRead x p => exact h.screen (fun x _ => h.paramReadAnswer x) _ _
  | paramWrite x p v => exact h.screen (fun x _ => h.paramWriteAnswer v x) _ _
  | routeRead k => exact h.screen (fun _ _ => h.routeReadAnswer k) _ _
  | routeWrite k mask => exact h.screen (fun _ _ => h.routeWriteAnswer mask k) _ _
  | intermissionExtend n => exact h.screen (fun _ _ => h.intermissionExtendAnswer n) _ _

/-! ### Frames and bytes (R168 to R176) -/

theorem Stocked.takeRequest (h : s.Stocked allowed asked) {answer : State → Answer} (l : Connector) (kind : Byte)
    (params : List Byte)
    (owns : ∀ body, (answer (s.takeSlot l body)).state.Stocked allowed asked) :
    (s.takeRequest l kind params answer).Stocked allowed asked := by
  unfold State.takeRequest
  split <;> [exact h; split <;> [exact h.away (by rfl); exact Stocked.away (owns _) (by rfl)]]

theorem Stocked.request (h : s.Stocked allowed asked) (l : Connector) (r : Request)
    (load : ∀ p length, r = .carbonLoad p.code length → s.LoadAllowed allowed p length) :
    (s.request l r).Stocked allowed asked :=
  h.takeRequest l _ _ fun body => Stocked.requestAnswer (s := s.takeSlot l body) (h.away (by rfl)) l r load

theorem Stocked.frame (h : s.Stocked allowed asked) (l : Connector) {kind : Byte} {params : List Byte}
    (load : ∀ p length, kind :: params = requestBody (.carbonLoad p.code length) → s.LoadAllowed allowed p length) :
    (s.frame l kind params).Stocked allowed asked := by
  unfold State.frame
  split
  · next r spells =>
    refine h.request l r fun p length same => load p length (body_of_parse_carbonLoad ?_)
    rw [spells, same]
  · refine h.takeRequest l _ _ fun body => ?_
    unfold malformedAnswer
    split <;> exact h.away (by rfl)

theorem Stocked.frameBody (h : s.Stocked allowed asked) (l : Connector) {body : List Byte}
    (load : ∀ p length, body = requestBody (.carbonLoad p.code length) → s.LoadAllowed allowed p length) :
    (s.frameBody l body).Stocked allowed asked := by
  unfold State.frameBody
  split
  · exact h
  · split
    · exact h.away (by rfl)
    · split <;> [exact h.frame l load; exact h.away (by rfl)]

/-- R168: the bytes of a body are those between LEN and CHECK. -/
theorem Stocked.bodyByte (h : s.Stocked allowed asked) (l : Connector) (b : Byte)
    (load : ∀ p length, (s.linkOf l).assembly.tail = requestBody (.carbonLoad p.code length) →
      s.LoadAllowed allowed p length) : (s.bodyByte l b).Stocked allowed asked := by
  have between {kind : Byte} {params : List Byte}
      (body : ((s.linkOf l).assembly ++ [b]).tail.dropLast = kind :: params) :
      (s.linkOf l).assembly.tail = kind :: params := by
    cases assembly : (s.linkOf l).assembly with
    | nil => simp [assembly] at body
    | cons len rest => simpa [assembly] using body
  unfold State.bodyByte State.checkFrame
  dsimp only
  split
  · exact h.away (by rfl)
  · split
    · split
      · next body =>
        refine Stocked.frame (s := s.modLink l _) (h.away (by rfl)) l fun p length same => ?_
        exact load p length ((between body).trans same)
      · exact h.away (by rfl)
    · exact h.away (by rfl)

theorem Stocked.receiveByte (h : s.Stocked allowed asked) (l : Connector) (b : Byte) (framingError : Bool)
    (load : framingError = false → ∀ p length,
      (s.linkOf l).assembly.tail = requestBody (.carbonLoad p.code length) → s.LoadAllowed allowed p length) :
    (s.receiveByte l b framingError).Stocked allowed asked := by
  unfold State.receiveByte
  split
  · split <;> exact h.away (by rfl)
  · split
    · exact h.away (by rfl)
    · unfold State.lengthByte
      split <;> exact h.away (by rfl)
  · split
    · exact h.away (by rfl)
    · next whole => exact h.bodyByte l b (load (Bool.eq_false_iff.mpr whole))
  · exact h

theorem Stocked.linkReset (h : s.Stocked allowed asked) (l : Connector) : (s.linkReset l).Stocked allowed asked := by
  unfold State.linkReset
  dsimp only
  split <;> exact h.away (by rfl)

end State

end Sys2Proof.Machine
end

section
/-! PROOF. The carbon law (R79, R93), command by command, and the step. -/

namespace Sys2Proof.Machine

/-- R93: the command brings a CARBON_LOAD of a projector: it is the request itself, its frame, or the last byte of its
frame. -/
def State.LoadComes (s : State) (c : Instr) (p : Projector) (length : Half) : Prop :=
  ∃ l : Connector,
    let body := requestBody (.carbonLoad p.code length)
    c = .carbonLoad l p.code length ∨ c = .frameReceived l body ∨
      (∃ kind params, c = .unknownRequestKind l kind params ∧ kind :: params = body) ∨
      ∃ b, c = .byteReceived l b false ∧ (s.linkOf l).assembly.tail = body

/-- An outcome whose next state, where it has one, keeps the carbon stock. -/
abbrev EndsStocked (allowed : Projector → Nat → Prop) (asked : Prop) (o : Host.Outcome State Fault Refusal) : Prop :=
  ∀ t, o = .next t → t.Stocked allowed asked

section

variable {allowed : Projector → Nat → Prop} {asked : Prop} {s : State}

theorem endsStocked_completed (h : s.Stocked allowed asked) : EndsStocked allowed asked s.completed := by
  intro t ht
  cases ht
  exact h.finish

/-- A command that leaves the arcs and the store alone. -/
theorem endsStocked_away (h : s.Stocked allowed asked) {t : State}
    (same : (t.arc, t.par) = (s.arc, s.par)) : EndsStocked allowed asked t.completed :=
  endsStocked_completed (h.away same)

/-! ### Film motion (R23 to R36, R52) -/

variable (h : s.Stocked allowed asked)

include h

theorem endsStocked_ringTimeout (p : Projector) : EndsStocked allowed asked (execRingTimeout p s) := by
  unfold execRingTimeout
  split <;> exact endsStocked_away h (by rfl)

theorem endsStocked_stallTimeout (p : Projector) : EndsStocked allowed asked (execStallTimeout p s) := by
  unfold execStallTimeout
  split
  · exact endsStocked_completed h
  · split <;> [exact endsStocked_completed (State.Stocked.halt (h.away (by rfl)) _); exact endsStocked_completed h]

theorem endsStocked_foilInputChange (p : Projector) (active : Bool) :
    EndsStocked allowed asked (execFoilInputChange p active s) := by
  unfold execFoilInputChange
  split
  · exact endsStocked_completed h
  · dsimp only
    split <;> exact endsStocked_away h (by rfl)

theorem endsStocked_foilQualifyExpiry (p : Projector) : EndsStocked allowed asked (execFoilQualifyExpiry p s) := by
  have passed := h.passToDue (s.motionOf p).foilDue
  unfold execFoilQualifyExpiry
  split
  · exact endsStocked_completed (State.Stocked.foilActivation (passed.away (by rfl)))
  · exact endsStocked_completed h

theorem endsStocked_foilReleaseExpiry (p : Projector) : EndsStocked allowed asked (execFoilReleaseExpiry p s) := by
  unfold execFoilReleaseExpiry
  split <;> [exact endsStocked_away (h.passToDue _) (by rfl); exact endsStocked_completed h]

theorem endsStocked_filmSwitchChange (p : Projector) (closed : Bool) :
    EndsStocked allowed asked (execFilmSwitchChange p closed s) := by
  unfold execFilmSwitchChange
  split <;> exact endsStocked_away h (by rfl)

theorem endsStocked_filmFilterExpiry (p : Projector) : EndsStocked allowed asked (execFilmFilterExpiry p s) := by
  unfold execFilmFilterExpiry
  split
  · exact endsStocked_completed h
  · split
    · dsimp only
      split <;> [exact endsStocked_completed (State.Stocked.filmGone (h.away (by rfl)));
        exact endsStocked_away h (by rfl)]
    · exact endsStocked_completed h

theorem endsStocked_runupStage1Expiry (p : Projector) : EndsStocked allowed asked (execRunupStage1Expiry p s) := by
  unfold execRunupStage1Expiry
  split <;> [exact endsStocked_away (h.passToDue _) (by rfl); exact endsStocked_completed h]

theorem endsStocked_runupStage2Expiry (p : Projector) : EndsStocked allowed asked (execRunupStage2Expiry p s) := by
  unfold execRunupStage2Expiry
  split <;> [exact endsStocked_completed ((h.passToDue _).halt _); exact endsStocked_completed h]

/-! ### Arcs (R81 to R92) -/

theorem endsStocked_touchTimerExpiry (p : Projector) : EndsStocked allowed asked (execTouchTimerExpiry p s) := by
  unfold execTouchTimerExpiry
  split <;> [exact endsStocked_completed (h.passToDue _).failStrike; exact endsStocked_completed h]

theorem endsStocked_drawTimerExpiry (p : Projector) (voltage : Byte) :
    EndsStocked allowed asked (execDrawTimerExpiry p voltage s) := by
  have passed := h.passToDue (s.arcOf p).strikeDue
  unfold execDrawTimerExpiry
  split <;> [exact endsStocked_completed (State.Stocked.endDraw (passed.away (by rfl))); exact endsStocked_completed h]

/-- R84, R86: an interval feeds out of the carbon that the arc has. -/
theorem endsStocked_regulationInterval (p : Projector) (voltage : Byte)
    (falls : ∀ n, n ≤ (s.arcOf p).carbon → allowed p n) :
    EndsStocked allowed asked (execRegulationInterval p voltage s) := by
  have timed : ((s.passTo (s.arcOf p).regulationDue).setArc p { s.arcOf p with
      regulationDue := (s.arcOf p).regulationDue + Config.regulationCounts }).Stocked allowed asked :=
    State.Stocked.setArc_same (s := s.passTo _) (h.away (by rfl)) (by rfl)
  have promoted := timed.promoteProj (p := p) (point := .nextInterval) nofun
  have sensed : ((((s.passTo (s.arcOf p).regulationDue).modArc p fun x => { x with
      regulationDue := (s.arcOf p).regulationDue + Config.regulationCounts }).promoteProj p .nextInterval).senseVoltage
        p voltage).Stocked allowed asked := promoted.away (by rfl)
  unfold execRegulationInterval
  dsimp only
  split
  · refine endsStocked_completed (State.Stocked.regulate (sensed.setArc_same (by rfl)) fun n low => falls n ?_)
    simpa [State.sampleArc, State.modArc, State.senseVoltage, State.promoteProj] using low
  · exact endsStocked_completed sensed

theorem endsStocked_strikeElapsedTick (p : Projector) : EndsStocked allowed asked (execStrikeElapsedTick p s) := by
  unfold execStrikeElapsedTick
  split <;> [exact endsStocked_completed (h.setArc_same (by rfl)); exact endsStocked_completed h]

/-! ### Shutters and the show (R101 to R105, R159, R163) -/

theorem endsStocked_openSenseChange (sh : Shutter) (made : Bool) :
    EndsStocked allowed asked (execOpenSenseChange sh made s) := by
  unfold execOpenSenseChange
  dsimp only
  split
  case h_1 | h_2 => exact endsStocked_completed (State.Stocked.shutterTo (h.away (by rfl)) _ _ _)
  all_goals exact endsStocked_away h (by rfl)

theorem endsStocked_closedSenseChange (sh : Shutter) (made : Bool) :
    EndsStocked allowed asked (execClosedSenseChange sh made s) := by
  unfold execClosedSenseChange
  dsimp only
  split
  case h_1 | h_2 | h_3 => exact endsStocked_completed (State.Stocked.shutterTo (h.away (by rfl)) _ _ _)
  all_goals exact endsStocked_away h (by rfl)

theorem endsStocked_raiseTimeout (sh : Shutter) : EndsStocked allowed asked (execRaiseTimeout sh s) := by
  unfold execRaiseTimeout
  split <;> [exact endsStocked_completed ((h.passToDue _).shutterTo _ _ _); exact endsStocked_completed h]

theorem endsStocked_dropTimeout (sh : Shutter) : EndsStocked allowed asked (execDropTimeout sh s) := by
  unfold execDropTimeout
  split <;> [exact endsStocked_completed ((h.passToDue _).shutterTo _ _ _); exact endsStocked_completed h]

theorem endsStocked_intermissionExpiry : EndsStocked allowed asked (execIntermissionExpiry s) := by
  unfold execIntermissionExpiry
  split
  · split <;> [exact endsStocked_completed h.timerExpires; exact endsStocked_away h (by rfl)]
  · exact endsStocked_completed h

theorem endsStocked_showClockTick : EndsStocked allowed asked (execShowClockTick s) := by
  unfold execShowClockTick State.clockTenth
  split
  · split <;> exact endsStocked_away h (by rfl)
  · exact endsStocked_completed h

/-! ### Every command -/

omit h in
/-- R118: POWER_ON, from any state. -/
theorem endsStocked_powerOn (empty : ∀ p, allowed p 0) : EndsStocked allowed asked (execPowerOn s) :=
  endsStocked_completed (((((State.stocked_poweredUp s empty).compareHeat.compareHeat).testFireInput _).testFireInput
    _).testFireInput _)

/-- Every command keeps the stock, where the arcs may hold no more than they do and what a CARBON_LOAD brings. -/
theorem endsStocked_exec (c : Instr) (falls : ∀ p n, n ≤ (s.arcOf p).carbon → allowed p n)
    (load : ∀ p length, s.LoadComes c p length → s.LoadAllowed allowed p length) :
    EndsStocked allowed asked (exec c s) := by
  cases c with
  | powerOn => exact endsStocked_powerOn fun p => falls p 0 (Nat.zero_le _)
  | frameReceived l body =>
    exact endsStocked_completed (h.frameBody l fun p length same => load p length ⟨l, .inr (.inl (same ▸ rfl))⟩)
  | interbyteGapTimeout l =>
    change EndsStocked allowed asked (s.gap l).completed
    unfold State.gap
    split <;> exact endsStocked_away h (by rfl)
  | linkBreak l => exact endsStocked_completed (h.linkReset l)
  | linkMarkReturn l =>
    change EndsStocked allowed asked (s.markReturns l).completed
    unfold State.markReturns
    split <;> exact endsStocked_away h (by rfl)
  | transmitFrameEnd l =>
    change EndsStocked allowed asked (s.frameSent l).completed
    unfold State.frameSent
    split <;> exact endsStocked_away h (by rfl)
  | unknownRequestKind l kind rest =>
    exact endsStocked_completed (h.frameBody l fun p length same =>
      load p length ⟨l, .inr (.inr (.inl ⟨kind, rest, rfl, same⟩))⟩)
  | byteReceived l b framingError =>
    refine endsStocked_completed (h.receiveByte l b framingError fun whole p length same => ?_)
    exact load p length ⟨l, .inr (.inr (.inr ⟨b, by rw [whole], same⟩))⟩
  | carbonLoad l c n =>
    refine endsStocked_completed (h.request _ _ fun p length same => load p length ⟨l, .inl ?_⟩)
    cases same
    rfl
  | ident | status | planRead | planWrite | planInsert | planDelete | planSkip | planHeader | threaded | unthread
  | arm | disarm | stop | clear | startShow | changeNow | boothReset | strike | arcOff | shutterRaise
  | shutterDrop | fireReset | lights | busReset | packRead | packWrite | packForget | paramRead | paramWrite
  | routeRead | routeWrite | intermissionExtend => exact endsStocked_completed (h.request _ _ nofun)
  | tachPulse p instant => exact endsStocked_completed (State.Stocked.pulse (h.away (by rfl)))
  | ringTimeout p => exact endsStocked_ringTimeout h p
  | stallTimeout p => exact endsStocked_stallTimeout h p
  | foilInputChange p active => exact endsStocked_foilInputChange h p active
  | foilQualifyExpiry p => exact endsStocked_foilQualifyExpiry h p
  | foilReleaseExpiry p => exact endsStocked_foilReleaseExpiry h p
  | filmSwitchChange p closed => exact endsStocked_filmSwitchChange h p closed
  | filmFilterExpiry p => exact endsStocked_filmFilterExpiry h p
  | runupStage1Expiry p => exact endsStocked_runupStage1Expiry h p
  | runupStage2Expiry p => exact endsStocked_runupStage2Expiry h p
  | arcCurrentChange p current => exact endsStocked_completed (State.Stocked.testTouch (h.away (by rfl)))
  | touchTimerExpiry p => exact endsStocked_touchTimerExpiry h p
  | drawTimerExpiry p voltage => exact endsStocked_drawTimerExpiry h p voltage
  | regulationInterval p voltage => exact endsStocked_regulationInterval h p voltage (falls p)
  | strikeElapsedTick p => exact endsStocked_strikeElapsedTick h p
  | openSenseChange sh made => exact endsStocked_openSenseChange h sh made
  | closedSenseChange sh made => exact endsStocked_closedSenseChange h sh made
  | raiseTimeout sh => exact endsStocked_raiseTimeout h sh
  | dropTimeout sh => exact endsStocked_dropTimeout h sh
  | heatReadingChange p reading => exact endsStocked_completed (State.Stocked.compareHeat (h.away (by rfl)))
  | heatStage1Expiry p => exact endsStocked_completed h.stage1TimerTest
  | dousedWaitExpiry p => exact endsStocked_completed h.dousedTimerTest
  | heatStageTimerTick p => exact endsStocked_away h (by rfl)
  | fireSourceOpen x => exact endsStocked_completed (State.Stocked.fireSource (h.away (by rfl)) _)
  | fireSourceClose x => exact endsStocked_away h (by rfl)
  | keySwitchChange turnedOn => exact endsStocked_away h (by rfl)
  | dimmerCycleStart => exact endsStocked_completed h.cycleStart
  | busBreakEnd => exact endsStocked_completed h.breakEnds
  | levelPacketSent => exact endsStocked_completed h.sendPacket
  | levelReplyWindowEnd reply => exact endsStocked_completed (h.windowEnds reply)
  | identifyRoundEnd contenders ack => exact endsStocked_completed (h.roundEnds contenders ack)
  | intermissionTimerTick => exact endsStocked_away h (by rfl)
  | intermissionExpiry => exact endsStocked_intermissionExpiry h
  | showClockTick => exact endsStocked_showClockTick h

end

/-! ### The step -/

/-- The amounts of carbon that a step can leave an arc: what it has or less, or what a CARBON_LOAD at the front of the
queue brings it while it is neither LIT nor STRIKING. -/
def State.MayHold (s : State) (p : Projector) (n : Nat) : Prop :=
  n ≤ (s.arcOf p).carbon ∨ (s.arcOf p).state ≠ .lit ∧ (s.arcOf p).state ≠ .striking ∧
    ∃ (c : Instr) (rest : List Instr) (length : Half),
      s.pending = c :: rest ∧ n = max 100 (min length.toNat 6000) ∧ s.LoadComes c p length

theorem step_stocked {s t : State} (ran : step s = .next t) : t.Stocked s.MayHold s.carbonLaw := by
  have h : s.Stocked s.MayHold s.carbonLaw := fun p => ⟨.inl le_rfl, fun law => law p (by cases p <;> simp)⟩
  unfold Machine.step at ran
  split at ran
  · cases ran
    exact h.away (by rfl)
  · next c rest front =>
    refine endsStocked_exec (s := { s with pending := rest }) h c (fun p n low => .inl low)
      (fun p length comes => ?_) t ran
    exact fun dark still => .inr ⟨dark, still, c, rest, length, front, rfl, comes⟩

/-- Settles O56: what a step leaves the arcs holds for both parts of the law; the first needs no other law. -/
theorem carbonLawKept : Obligations.CarbonLawKept := by
  refine ⟨fun s t _ law ran p _ => (step_stocked ran p).2 law, fun s t p ran rises => ?_⟩
  rcases (step_stocked ran p).1 with falls | ⟨dark, still, c, rest, length, front, amount, l, comes⟩
  · exact absurd rises (not_lt.mpr falls)
  · exact ⟨dark, still, c, rest, l, length, front, amount, comes⟩

end Sys2Proof.Machine
end


section
/-! PROOF. The requests of an arc: STRIKE, ARC_OFF and CARBON_LOAD in every arc state (R80, R93, R94). -/

namespace Sys2Proof.Machine

variable {l : Connector} {req : Request} {p : Projector} {s : State} {code : ResultCode} {length : Nat}

/-! ### The answers, case by case -/

theorem strikeAnswer_lit (lit : (s.arcOf p).state = .lit ∨ (s.arcOf p).state = .striking) :
    strikeAnswer p s = arcAnswer p .ok s := if_pos lit

theorem strikeAnswer_locked (dark : ¬((s.arcOf p).state = .lit ∨ (s.arcOf p).state = .striking))
    (lockout : s.fire.lockout = true) : strikeAnswer p s = arcAnswer p .fireLockout s :=
  (if_neg dark).trans (if_pos lockout)

theorem strikeShort_iff (s : State) (p : Projector) :
    s.strikeShort p = true ↔ (s.arcOf p).state = .exhausted ∨ (s.arcOf p).carbon ≤ s.held p .stub + 50 := by
  unfold State.strikeShort
  rw [Bool.or_eq_true, decide_eq_true_iff, decide_eq_true_iff]
  rfl

theorem strikeAnswer_short (dark : ¬((s.arcOf p).state = .lit ∨ (s.arcOf p).state = .striking))
    (clear : s.fire.lockout = false)
    (short : (s.arcOf p).state = .exhausted ∨ (s.arcOf p).carbon ≤ s.held p .stub + 50) :
    strikeAnswer p s = arcAnswer p .carbonShort s := by
  unfold strikeAnswer
  rw [if_neg dark, clear, (strikeShort_iff s p).mpr short]
  rfl

theorem strikeAnswer_begins (dark : ¬((s.arcOf p).state = .lit ∨ (s.arcOf p).state = .striking))
    (clear : s.fire.lockout = false)
    (enough : ¬((s.arcOf p).state = .exhausted ∨ (s.arcOf p).carbon ≤ s.held p .stub + 50)) :
    strikeAnswer p s = arcAnswer p .ok
      ((s.arcMoved p ((s.arcOf p).touching (s.motionCount + 30000)) .strikeBegun).conditionsReported p) := by
  unfold strikeAnswer
  rw [if_neg dark, clear, if_neg Bool.false_ne_true, if_neg (mt (strikeShort_iff s p).mp enough), State.beginStrike_eq]

theorem arcOffAnswer_off (off : (s.arcOf p).state = .off) : arcOffAnswer p s = arcAnswer p .ok s :=
  congrArg (arcAnswer p .ok) (if_pos off)

theorem arcOffAnswer_on (on : (s.arcOf p).state ≠ .off) :
    arcOffAnswer p s = arcAnswer p .ok ((s.arcMoved p ((s.arcOf p).become .off) .request).conditionsReported p) :=
  congrArg (arcAnswer p .ok) (if_neg on)

theorem carbonLoadAnswer_lit (lit : (s.arcOf p).state = .lit ∨ (s.arcOf p).state = .striking) :
    carbonLoadAnswer length p s = arcAnswer p .notReady s := by
  unfold carbonLoadAnswer
  rcases lit with state | state <;> rw [state]

/-- R93: the stock is adjusted where the held length is another. -/
theorem okOr_carbon (length : Nat) :
    okOr (clamp 100 6000 length).adjusted = if max 100 (min length 6000) = length then .ok else .adjusted := by
  have kept := clamp_kept 100 6000 length
  cases adjusted : (clamp 100 6000 length).adjusted with
  | false => exact (if_pos (by have := kept.mp adjusted; omega)).symm
  | true => exact (if_neg fun same => by simp [kept.mpr (by omega)] at adjusted).symm

theorem carbonLoadAnswer_dark (dark : ¬((s.arcOf p).state = .lit ∨ (s.arcOf p).state = .striking)) :
    carbonLoadAnswer length p s =
      arcAnswer p (if max 100 (min length 6000) = length then .ok else .adjusted)
        (s.loadCarbon p (max 100 (min length 6000))) := by
  rw [← okOr_carbon, ← clamp_val (by omega)]
  unfold carbonLoadAnswer
  cases state : (s.arcOf p).state with
  | lit | striking => simp [state] at dark
  | off | fault | exhausted => rfl

theorem carbonLoadAnswer_off (off : (s.arcOf p).state = .off) :
    carbonLoadAnswer length p s =
      arcAnswer p (if max 100 (min length 6000) = length then .ok else .adjusted)
        (s.setArc p ((s.arcOf p).loaded (max 100 (min length 6000)))) := by
  rw [carbonLoadAnswer_dark (by simp [off]), State.loadCarbon_off off]

theorem carbonLoadAnswer_spent (dark : ¬((s.arcOf p).state = .lit ∨ (s.arcOf p).state = .striking))
    (on : (s.arcOf p).state ≠ .off) :
    carbonLoadAnswer length p s =
      arcAnswer p (if max 100 (min length 6000) = length then .ok else .adjusted)
        ((s.arcMoved p (((s.arcOf p).loaded (max 100 (min length 6000))).become .off)
          .loaded).conditionsReported p) := by
  rw [carbonLoadAnswer_dark dark, State.loadCarbon_moves on]

/-! ### The replies -/

/-- R169, R196: a request about an arc that changes nothing. -/
theorem repliesOnly_arc (h : listens l s)
    (answer : requestAnswer l req (s.takeSlot l (requestBody req)) =
      arcAnswer p code (s.takeSlot l (requestBody req))) :
    repliesOnly l req s code (arcData s p) := repliesOnly_of h answer

/-- R78, R196: a request that takes an arc to another state. -/
theorem grants_arcMoved (h : listens l s) (x : Arc) (cause : ArcCause)
    (answer : requestAnswer l req (s.takeSlot l (requestBody req)) =
      arcAnswer p code (((s.takeSlot l (requestBody req)).arcMoved p x cause).conditionsReported p)) :
    grants l req s code (fun t => arcData t p) [s.movedNotice p x cause] [.arc p] (fun t => t.arcOf p = x)
      fun t => t.conditionsReported p :=
  grants_of h _ answer (State.notified_arcMoved _ p x cause) (State.arcOf_arcMoved _ p x cause)
    (State.arcMoved_changes _ p x cause)

/-- R93, R196: a request that changes the record of an arc, its state kept. -/
theorem grants_setArc (h : listens l s) {x : Arc}
    (answer : requestAnswer l req (s.takeSlot l (requestBody req)) =
      arcAnswer p code ((s.takeSlot l (requestBody req)).setArc p x)) :
    grants l req s code (fun t => arcData t p) [] [.arc p] fun t => t.arcOf p = x :=
  grants_of h _ answer (notified_nil fun _ => rfl) (State.arcOf_setArc_self _ p x)
    ((setArc_changes _ p x).mono (by simp))

/-! ### O37 -/

/-- Settles O37: each request reaches its owner, whose answer in the arc's state is an equation above. -/
theorem arcRequests : Obligations.ArcRequests := by
  intro l r p length s ⟨bound, hears⟩ own
  have strike := ownRequest_passes (requestBody (.strike p.code)) ⟨bound, hears⟩ own strikeAnswer
  have arcOff := ownRequest_passes (requestBody (.arcOff p.code)) ⟨bound, hears⟩ own arcOffAnswer
  have load := ownRequest_passes (requestBody (.carbonLoad p.code length)) ⟨bound, hears⟩ own
    (carbonLoadAnswer length.toNat)
  refine ⟨?_, ?_, ?_, ?_, ?_, ?_, ?_, ?_, ?_⟩
  · exact fun lit => repliesOnly_arc hears (strike.trans (strikeAnswer_lit lit))
  · exact fun dark lockout => repliesOnly_arc hears (strike.trans (strikeAnswer_locked dark lockout))
  · exact fun dark clear short => repliesOnly_arc hears (strike.trans (strikeAnswer_short dark clear short))
  · intro dark clear enough
    exact grants_arcMoved hears ((s.arcOf p).touching (s.motionCount + 30000)) .strikeBegun
      (strike.trans (strikeAnswer_begins dark clear enough))
  · exact fun off => repliesOnly_arc hears (arcOff.trans (arcOffAnswer_off off))
  · exact fun on => grants_arcMoved hears ((s.arcOf p).become .off) .request (arcOff.trans (arcOffAnswer_on on))
  · exact fun lit => repliesOnly_arc hears (load.trans (carbonLoadAnswer_lit lit))
  · exact fun off => grants_setArc hears (load.trans (carbonLoadAnswer_off off))
  · intro dark on
    exact grants_arcMoved hears (((s.arcOf p).loaded (max 100 (min length.toNat 6000))).become .off) .loaded
      (load.trans (carbonLoadAnswer_spent dark on))

end Sys2Proof.Machine
end


section
/-! PROOF. The events of a strike: the current, the TOUCH and DRAW timers, and the elapsed tenths (R77 to R86). -/

namespace Sys2Proof.Machine

variable {c : Instr} {s t : State} {p : Projector} {reading : Byte} {blocks : List Block} {effect : State → Prop}

/-! ### What a command that changes an arc does -/

/-- A command that leaves one arc record, and hands nothing to LNK before what comes `after`. -/
theorem runs_setArc {x : Arc} {after : State → State} (ran : exec c s = .next (after (t.setArc p x)).finish)
    (before : changesOnly blocks s t) (links : ∀ l, Block.link l ∉ blocks) (does : effect (t.setArc p x)) :
    runs c s [] (.arc p :: blocks) effect after := by
  have sub : blocks ⊆ everyLink ++ .arc p :: blocks := fun b at_b => by simp [at_b]
  exact ⟨_, ran, notified_nil fun l => before.links l (links l), does,
    (before.mono sub).andThen (setArc_changes t p x) (by simp)⟩

/-- R78: a command that takes an arc to another state, and hands these notices to LNK before. -/
theorem runs_arcMoved {x : Arc} {cause : ArcCause} {notices : List Notice}
    (ran : exec c s = .next ((t.arcMoved p x cause).conditionsReported p).finish)
    (before : changesOnly (everyLink ++ blocks) s t) (still : Block.routing ∉ blocks) (sent : notified notices s t)
    (does : effect (t.arcMoved p x cause)) :
    runs c s (notices ++ [t.movedNotice p x cause]) (.arc p :: blocks) effect fun t => t.conditionsReported p := by
  have routing : t.routing = s.routing := before .routing (by simp [still])
  refine ⟨_, ran, sent.append (State.notified_arcMoved t p x cause) routing, does, ?_⟩
  have sub : everyLink ++ blocks ⊆ everyLink ++ .arc p :: blocks := fun b at_b => by
    simp only [List.mem_append, List.mem_cons] at at_b ⊢
    tauto
  exact (before.mono sub).trans ((State.arcMoved_changes t p x cause).mono (by simp))

/-- As `runs_arcMoved`, the last change before being that a notice is handed to LNK. -/
theorem runs_toldArcMoved {n : Notice} {x : Arc} {cause : ArcCause}
    (ran : exec c s = .next (((t.route n).arcMoved p x cause).conditionsReported p).finish)
    (before : changesOnly blocks s t) (links : ∀ l, Block.link l ∉ blocks) (still : Block.routing ∉ blocks)
    (does : effect ((t.route n).arcMoved p x cause)) :
    runs c s [n, (t.route n).movedNotice p x cause] (.arc p :: blocks) effect fun t => t.conditionsReported p := by
  have told : changesOnly (everyLink ++ blocks) s (t.route n) :=
    (before.mono (List.subset_append_right _ _)).trans ((route_changes t n).mono (by simp))
  exact runs_arcMoved ran told still
    ((notified_route t n).before (fun l => before.links l (links l)) (before .routing still)) does

/-- Log 2: only the motion count passes. -/
theorem State.passToDue_eq (s : State) (due : Option Nat) :
    s.passToDue due = { s with motionCount := (s.passToDue due).motionCount } := by
  cases due <;> rfl

/-! ### The current (R81) -/

theorem State.testTouch_record (s : State) (p : Projector) :
    s.testTouch p = s.setArc p
      (if (s.arcOf p).phase = .touch ∧ s.held p .strikeThreshold ≤ s.inputs.current.get p then
        (s.arcOf p).drawing (s.motionCount + 5000)
      else s.arcOf p) := by
  rw [testTouch_eq]
  split <;> [rfl; exact (setArc_arcOf s p).symm]

theorem arcCurrentChange_runs (p : Projector) (reading : Byte) (s : State) :
    runs (.arcCurrentChange p reading) s [] [.arc p, .inputs] fun t =>
      t.inputs = { s.inputs with current := s.inputs.current.set p reading.toNat } ∧
        t.arcOf p =
          if (s.arcOf p).phase = .touch ∧ s.held p .strikeThreshold ≤ reading.toNat then
            (s.arcOf p).drawing (s.motionCount + 5000)
          else s.arcOf p := by
  let u := s.setInputs { s.inputs with current := s.inputs.current.set p reading.toNat }
  have current : u.inputs.current.get p = reading.toNat := Pair.get_set_self _ _ _
  have ran : exec (.arcCurrentChange p reading) s = .next (u.testTouch p).finish := rfl
  rw [State.testTouch_record, current] at ran
  exact runs_setArc (t := u) ran (setInputs_changes s _) (by simp) ⟨rfl, State.arcOf_setArc_self u p _⟩

/-! ### The timers (R82, R83) -/

/-- R82: the STRIKE_FAIL of an arc. -/
abbrev State.failNotice (s : State) (p : Projector) : Notice :=
  s.noticeNow .strikeFail p.code [(s.arcOf p).phase.code, byte (s.inputs.voltage.get p),
    byte (s.inputs.current.get p), byte (s.arcOf p).elapsed]

theorem runs_failStrike (ran : exec c s = .next (t.failStrike p).finish) (before : changesOnly blocks s t)
    (links : ∀ l, Block.link l ∉ blocks) (still : Block.routing ∉ blocks) (does : effect (t.strikeFailed p)) :
    runs c s [t.failNotice p, t.movedNotice p ((t.arcOf p).become .off) .strikeFailed] (.arc p :: blocks) effect
      fun t => t.conditionsReported p :=
  runs_toldArcMoved (n := t.failNotice p) (x := (t.arcOf p).become .off) ran before links still does

/-- Log 2: the strike timer's instant is reached. -/
abbrev State.atStrikeDue (s : State) (p : Projector) : State :=
  { s with motionCount := (s.passToDue (s.arcOf p).strikeDue).motionCount }

theorem State.passToDue_strikeDue (s : State) (p : Projector) :
    s.passToDue (s.arcOf p).strikeDue = s.atStrikeDue p := s.passToDue_eq _

theorem State.atStrikeDue_changes (s : State) (p : Projector) : changesOnly [.motionCount] s (s.atStrikeDue p) :=
  s.passToDue_strikeDue p ▸ passToDue_changes s _

theorem State.failNotice_touch (touch : (s.arcOf p).phase = .touch) :
    s.failNotice p = s.noticeNow .strikeFail p.code
      [1, byte (s.inputs.voltage.get p), byte (s.inputs.current.get p), byte (s.arcOf p).elapsed] := by
  rw [failNotice, touch]
  rfl

theorem touchTimerExpiry_due {now : Nat} (count : (s.atStrikeDue p).motionCount = now)
    (touch : (s.arcOf p).phase = .touch) :
    runs (.touchTimerExpiry p) s [s.failNotice p, s.movedNotice p ((s.arcOf p).become .off) .strikeFailed]
      [.arc p, .motionCount] (fun t => t.arcOf p = (s.arcOf p).become .off ∧ t.motionCount = now)
      fun t => t.conditionsReported p := by
  have ran : exec (.touchTimerExpiry p) s = .next ((s.atStrikeDue p).failStrike p).finish := by
    rw [← State.passToDue_strikeDue]
    exact if_pos touch
  exact runs_failStrike (t := s.atStrikeDue p) ran (s.atStrikeDue_changes p) (by simp) (by simp)
    ⟨State.arcOf_arcMoved _ _ _ _, count⟩

/-! ### The end of the draw (R82, R83) -/

/-- R82: V and I are good. -/
abbrev State.drawGood (s : State) (p : Projector) : Prop :=
  s.held p .vt ≤ s.inputs.voltage.get p + 16 ∧ s.held p .holdThreshold ≤ s.inputs.current.get p

theorem State.endDraw_fails (bad : ¬s.drawGood p) : s.endDraw p = s.failStrike p := if_neg bad

theorem State.endDraw_lights (good : s.drawGood p) (left : s.held p .stub < (s.arcOf p).carbon) :
    s.endDraw p = (s.arcMoved p ((s.arcOf p).fresh.become .lit) .struck).conditionsReported p := by
  rw [← arcTo_setArc (x := (s.arcOf p).fresh) rfl]
  exact (if_pos good).trans (if_pos left)

theorem State.endDraw_spent (good : s.drawGood p) (spent : (s.arcOf p).carbon ≤ s.held p .stub) :
    s.endDraw p = (s.arcSpent p (s.arcOf p)).conditionsReported p :=
  (if_pos good).trans (if_neg (not_lt.mpr spent))

/-- R82: the draw is over, and the voltage is sensed. -/
abbrev State.drawn (s : State) (p : Projector) (reading : Byte) : State := (s.atStrikeDue p).senseVoltage p reading

theorem State.voltage_drawn (s : State) (p : Projector) (reading : Byte) :
    (s.drawn p reading).inputs.voltage.get p = reading.toNat := Pair.get_set_self _ _ _

theorem State.drawn_changes (s : State) (p : Projector) (reading : Byte) :
    changesOnly [.inputs, .motionCount] s (s.drawn p reading) :=
  ((s.atStrikeDue_changes p).mono (by simp)).andThen (setInputs_changes _ _) (by simp)

theorem State.drawGood_drawn (s : State) (p : Projector) (reading : Byte) :
    (s.drawn p reading).drawGood p ↔
      s.held p .vt ≤ reading.toNat + 16 ∧ s.held p .holdThreshold ≤ s.inputs.current.get p := by
  unfold drawGood
  rw [voltage_drawn]
  exact Iff.rfl

theorem exec_drawTimerExpiry (draw : (s.arcOf p).phase = .draw) :
    exec (.drawTimerExpiry p reading) s = .next ((s.drawn p reading).endDraw p).finish := by
  unfold State.drawn
  rw [← State.passToDue_strikeDue]
  exact if_pos draw

theorem State.failNotice_drawn (draw : (s.arcOf p).phase = .draw) :
    (s.drawn p reading).failNotice p = s.noticeNow .strikeFail p.code
      [2, reading, byte (s.inputs.current.get p), byte (s.arcOf p).elapsed] := by
  have phase : ((s.drawn p reading).arcOf p).phase = .draw := draw
  rw [failNotice, phase, voltage_drawn, byte_toNat]
  rfl

/-- What the draw timer leaves of the arc, the count and the inputs. -/
abbrev State.leavesDraw (s : State) (p : Projector) (reading : Byte) (now : Nat) (x : Arc) (t : State) : Prop :=
  t.arcOf p = x ∧ t.motionCount = now ∧
    t.inputs = { s.inputs with voltage := s.inputs.voltage.set p reading.toNat }

section DrawTimer

variable {now : Nat} (count : (s.atStrikeDue p).motionCount = now) (draw : (s.arcOf p).phase = .draw)

include count draw

theorem drawTimerExpiry_fails (bad : ¬(s.drawn p reading).drawGood p) :
    runs (.drawTimerExpiry p reading) s
      [(s.drawn p reading).failNotice p, s.movedNotice p ((s.arcOf p).become .off) .strikeFailed]
      [.arc p, .inputs, .motionCount] (s.leavesDraw p reading now ((s.arcOf p).become .off))
      fun t => t.conditionsReported p := by
  have ran := (exec_drawTimerExpiry draw).trans (by rw [State.endDraw_fails bad])
  exact runs_failStrike (t := s.drawn p reading) ran (s.drawn_changes p reading) (by simp) (by simp)
    ⟨State.arcOf_arcMoved _ _ _ _, count, rfl⟩

theorem drawTimerExpiry_lights (good : (s.drawn p reading).drawGood p)
    (left : s.held p .stub < (s.arcOf p).carbon) :
    runs (.drawTimerExpiry p reading) s [s.movedNotice p ((s.arcOf p).fresh.become .lit) .struck]
      [.arc p, .inputs, .motionCount] (s.leavesDraw p reading now ((s.arcOf p).fresh.become .lit))
      fun t => t.conditionsReported p := by
  have ran := (exec_drawTimerExpiry draw).trans (by rw [State.endDraw_lights good left])
  exact runs_arcMoved (t := s.drawn p reading) (notices := []) ran
    ((s.drawn_changes p reading).mono (List.subset_append_right _ _)) (by simp) (notified_nil fun _ => rfl)
    ⟨State.arcOf_arcMoved _ _ _ _, count, rfl⟩

theorem drawTimerExpiry_spent (good : (s.drawn p reading).drawGood p)
    (spent : (s.arcOf p).carbon ≤ s.held p .stub) :
    runs (.drawTimerExpiry p reading) s
      [s.noticeNow .carbonExhausted p.code (half (s.arcOf p).carbon ++ half (s.burnRate p)),
        s.movedNotice p ((s.arcOf p).become .exhausted) .exhausted]
      [.arc p, .inputs, .motionCount] (s.leavesDraw p reading now ((s.arcOf p).become .exhausted))
      fun t => t.conditionsReported p := by
  have ran := (exec_drawTimerExpiry draw).trans (by rw [State.endDraw_spent good spent])
  exact runs_toldArcMoved (t := s.drawn p reading) ran (s.drawn_changes p reading) (by simp) (by simp)
    ⟨State.arcOf_arcMoved _ _ _ _, count, rfl⟩

end DrawTimer

/-! ### The elapsed tenths (R95) and O38 -/

theorem strikeElapsedTick_runs (striking : (s.arcOf p).state = .striking) :
    runs (.strikeElapsedTick p) s [] [.arc p] fun t =>
      t.arcOf p = { s.arcOf p with elapsed := min ((s.arcOf p).elapsed + 1) 35 } :=
  runs_setArc (if_pos striking) (changesOnly_refl _ s) (by simp) (State.arcOf_setArc_self s p _)

/-- Settles O38: each command either idles or leaves one arc record; after a draw the voltage is the one sensed. -/
theorem strikeEvents : Obligations.StrikeEvents := by
  intro p reading s
  have count : (s.atStrikeDue p).motionCount = _ := State.motionCount_passToDue s (s.arcOf p).strikeDue
  have good := s.drawGood_drawn p reading
  refine ⟨arcCurrentChange_runs p reading s, fun other => if_neg other, fun touch => ?_, fun other => if_neg other,
    fun draw bad => ?_, fun draw goods left => ?_, fun draw goods spent => ?_, fun other => if_neg other,
    strikeElapsedTick_runs⟩
  · exact State.failNotice_touch touch ▸ touchTimerExpiry_due count touch
  · exact State.failNotice_drawn draw ▸ drawTimerExpiry_fails count draw (mt good.mp bad)
  · exact drawTimerExpiry_lights count draw (good.mpr goods) left
  · exact drawTimerExpiry_spent count draw (good.mpr goods) spent

end Sys2Proof.Machine
end


section
/-! PROOF. The regulation interval: what it samples, and what a LIT arc then comes to (R84 to R92, R188). -/

namespace Sys2Proof.Machine

variable {c : Instr} {s w : State} {p : Projector} {reading : Byte} {x : Arc}

/-! ### The interval before the arc (R84, R188) -/

namespace State

/-- R84, R188: the interval's instant is reached, the NEXT_INTERVAL values are held, and the voltage is sensed. -/
abbrev tuned (s : State) (p : Projector) (reading : Byte) : State :=
  ((s.passTo (s.arcOf p).regulationDue).promoteProj p .nextInterval).senseVoltage p reading

/-- R84: the next interval. -/
abbrev dueNext (s : State) (p : Projector) : Arc :=
  { s.arcOf p with regulationDue := (s.arcOf p).regulationDue + 1000 }

/-- R85: the sample of the interval. -/
abbrev sampled (s : State) (p : Projector) (reading : Byte) : Arc :=
  { s.dueNext p with sampleV := reading.toNat, sampleI := s.inputs.current.get p }

/-- What the interval leaves of the inputs, the count and the store. -/
abbrev leavesInterval (s : State) (p : Projector) (reading : Byte) (t : State) : Prop :=
  t.inputs = { s.inputs with voltage := s.inputs.voltage.set p reading.toNat } ∧
    t.motionCount = max s.motionCount (s.arcOf p).regulationDue ∧ t.par.dev = s.par.dev ∧
    t.par.proj.get p.other = s.par.proj.get p.other ∧
    ∀ q : ProjParam, (t.par.proj.get p).get q =
      if q.row.point = .nextInterval then ⟨((s.par.proj.get p).get q).effective, none⟩ else (s.par.proj.get p).get q

theorem tuned_leavesInterval (s : State) (p : Projector) (reading : Byte) :
    s.leavesInterval p reading (s.tuned p reading) := by
  refine ⟨rfl, rfl, rfl, Pair.get_set_other _ _ _, fun q => ?_⟩
  rw [← ParamRec.promoted, ← ProjParams.get_promote]
  exact congrArg (fun y : ProjParams => y.get q) (Pair.get_set_self _ _ _)

theorem held_tuned (s : State) (p : Projector) (reading : Byte) (q : ProjParam) :
    (s.tuned p reading).held p q =
      if q.row.point = .nextInterval then ((s.par.proj.get p).get q).effective else s.held p q := by
  obtain ⟨-, -, -, -, records⟩ := s.tuned_leavesInterval p reading
  rw [State.held, records]
  split <;> rfl

theorem voltage_tuned (s : State) (p : Projector) (reading : Byte) :
    (s.tuned p reading).inputs.voltage.get p = reading.toNat := Pair.get_set_self _ _ _

theorem tuned_changes (s : State) (p : Projector) (reading : Byte) :
    changesOnly [.inputs, .par, .motionCount] s (s.tuned p reading) :=
  ((((passTo_changes s _).mono (by simp)).andThen (promoteProj_changes _ _ _) (by simp)).andThen
    (setInputs_changes _ _) (by simp))

end State

theorem exec_regulationInterval_dark (dark : (s.arcOf p).state ≠ .lit) :
    exec (.regulationInterval p reading) s = .next ((s.tuned p reading).setArc p (s.dueNext p)).finish := if_neg dark

theorem exec_regulationInterval_lit (lit : (s.arcOf p).state = .lit) :
    exec (.regulationInterval p reading) s =
      .next (((s.tuned p reading).setArc p (s.sampled p reading)).regulate p).finish := by
  have sampled : ((s.tuned p reading).setArc p (s.dueNext p)).sampleArc p =
      (s.tuned p reading).setArc p (s.sampled p reading) := by
    unfold State.sampleArc State.modArc
    rw [State.arcOf_setArc_self, State.setArc_setArc, State.sampled, ← s.voltage_tuned p reading]
    rfl
  rw [← sampled]
  exact if_pos lit

/-! ### The arc after its sample (R85 to R90) -/

namespace State

/-- R86: a record that is fed in a state. -/
abbrev fed (w : State) (p : Projector) (x : Arc) : Arc :=
  let steps := min (w.stepsAsked p) (x.carbon - w.held p .stub)
  { x with
    err := (w.inputs.voltage.get p : Int) - w.held p .vt
    asked := w.stepsAsked p
    issued := steps
    carbon := x.carbon - steps
    bucket := x.bucket + steps }

/-- R87: the run of a record that is fed in a state. -/
abbrev runOf (w : State) (p : Projector) (x : Arc) : Nat :=
  if (w.held p .highAlarm : Int) < (w.fed p x).err then x.highRun + 1 else 0

theorem fedArc_setArc (w : State) (p : Projector) (x : Arc) : (w.setArc p x).fedArc p = w.fed p x := by
  unfold fedArc
  rw [arcOf_setArc_self]
  rfl

theorem fedRun_setArc (w : State) (p : Projector) (x : Arc) : (w.setArc p x).fedRun p = w.runOf p x := by
  unfold fedRun
  rw [fedArc_setArc, arcOf_setArc_self]
  rfl

theorem ranArc_setArc (w : State) (p : Projector) (x : Arc) :
    (w.setArc p x).ranArc p = { w.fed p x with highRun := w.runOf p x } := by
  unfold ranArc
  rw [fedArc_setArc, fedRun_setArc]

theorem countInterval_setArc_more (more : x.intervals + 1 ≠ 100) :
    (w.setArc p x).countInterval p = w.setArc p { x with intervals := x.intervals + 1 } := by
  have record : (w.setArc p x).arcOf p = x := arcOf_setArc_self w p x
  unfold countInterval modArc
  rw [record, setArc_setArc]
  exact if_neg more

theorem countInterval_setArc_full (full : x.intervals + 1 = 100) :
    (w.setArc p x).countInterval p = (w.setArc p x.bucketed).runningCheck p := by
  have record : (w.setArc p x).arcOf p = x := arcOf_setArc_self w p x
  unfold countInterval
  rw [completeBucket_eq, record, setArc_setArc]
  exact if_pos full

section Sampled

variable (state : x.state = (w.arcOf p).state) (holds : w.held p .holdThreshold ≤ w.inputs.current.get p)

include state

theorem regulate_setArc_lost (low : w.inputs.current.get p < w.held p .holdThreshold) :
    (w.setArc p x).regulate p = (w.arcMoved p (x.become .off) .arcLost).conditionsReported p := by
  rw [regulate_lost (s := w.setArc p x) low, arcTo_setArc state]

include holds

theorem regulate_setArc_spent (ring : x.ring = (w.arcOf p).ring) (completed : x.completed = (w.arcOf p).completed)
    (spent : (w.fed p x).carbon ≤ w.held p .stub) :
    (w.setArc p x).regulate p = (w.arcSpent p (w.fed p x)).conditionsReported p := by
  rw [← fedArc_setArc] at spent
  rw [regulate_spent (s := w.setArc p x) holds spent, fedArc_setArc, arcSpent, burnRate_setArc ring completed]
  exact congrArg (conditionsReported p) (arcMoved_setArc (s := w.route _) state _ _)

variable (left : w.held p .stub < (w.fed p x).carbon)

include left

theorem regulate_setArc_fault (run : w.runOf p x = 20) :
    (w.setArc p x).regulate p =
      (w.arcMoved p (Arc.become { w.fed p x with highRun := 20 } .fault) .feedFault).conditionsReported p := by
  rw [← fedArc_setArc] at left
  rw [regulate_fed (s := w.setArc p x) holds left, fedRun_setArc, ranArc_setArc, if_pos run, run, arcMoved_setArc state]

omit state in
theorem regulate_setArc_counts (run : w.runOf p x ≠ 20) :
    (w.setArc p x).regulate p = (w.setArc p { w.fed p x with highRun := w.runOf p x }).countInterval p := by
  rw [← fedArc_setArc] at left
  rw [regulate_fed (s := w.setArc p x) holds left, fedRun_setArc, ranArc_setArc, setArc_setArc, if_neg run]

end Sampled
end State

/-! ### The interval, case by case -/

/-- What REGULATION_INTERVAL answers: these notices, this record of the arc, and what it leaves of the rest. -/
abbrev State.regulates (s : State) (p : Projector) (reading : Byte) (notices : List Notice) (x : Arc)
    (after : State → State) : Prop :=
  runs (.regulationInterval p reading) s notices [.arc p, .inputs, .par, .motionCount]
    (fun t => t.arcOf p = x ∧ s.leavesInterval p reading t) after

theorem regulationInterval_dark (dark : (s.arcOf p).state ≠ .lit) : s.regulates p reading [] (s.dueNext p) id :=
  runs_setArc (t := s.tuned p reading) (exec_regulationInterval_dark dark) (s.tuned_changes p reading) (by simp)
    ⟨State.arcOf_setArc_self _ p _, s.tuned_leavesInterval p reading⟩

section Lit

variable (lit : (s.arcOf p).state = .lit)

include lit

/-- An interval that takes the arc to another state. -/
theorem regulates_arcMoved (x : Arc) (cause : ArcCause)
    (regulated : ((s.tuned p reading).setArc p (s.sampled p reading)).regulate p =
      ((s.tuned p reading).arcMoved p x cause).conditionsReported p) :
    s.regulates p reading [s.movedNotice p x cause] x fun t => t.conditionsReported p := by
  have ran := exec_regulationInterval_lit (reading := reading) lit
  rw [regulated] at ran
  exact runs_arcMoved (t := s.tuned p reading) (notices := []) ran
    ((s.tuned_changes p reading).mono (List.subset_append_right _ _)) (by simp) (notified_nil fun _ => rfl)
    ⟨State.arcOf_arcMoved _ p _ _, s.tuned_leavesInterval p reading⟩

/-- An interval that finds the carbon at the stub. -/
theorem regulates_arcSpent
    (regulated : ((s.tuned p reading).setArc p (s.sampled p reading)).regulate p =
      ((s.tuned p reading).arcSpent p x).conditionsReported p) :
    s.regulates p reading [s.noticeNow .carbonExhausted p.code (half x.carbon ++ half (s.burnRate p)),
      s.movedNotice p (x.become .exhausted) .exhausted] (x.become .exhausted) fun t => t.conditionsReported p := by
  have burn : (s.tuned p reading).burnRate p = s.burnRate p := by
    unfold State.burnRate
    rw [s.held_tuned p reading .bn]
    rfl
  have ran := exec_regulationInterval_lit (reading := reading) lit
  rw [regulated, State.arcSpent, burn] at ran
  exact runs_toldArcMoved (t := s.tuned p reading) ran (s.tuned_changes p reading) (by simp) (by simp)
    ⟨State.arcOf_arcMoved _ p _ _, s.tuned_leavesInterval p reading⟩

/-- An interval that leaves the arc LIT. -/
theorem regulates_setArc {after : State → State}
    (regulated : ((s.tuned p reading).setArc p (s.sampled p reading)).regulate p =
      after ((s.tuned p reading).setArc p x)) : s.regulates p reading [] x after := by
  have ran := exec_regulationInterval_lit (reading := reading) lit
  rw [regulated] at ran
  exact runs_setArc (t := s.tuned p reading) ran (s.tuned_changes p reading) (by simp)
    ⟨State.arcOf_setArc_self _ p _, s.tuned_leavesInterval p reading⟩

end Lit

/-! ### O39 -/

/-- Settles O39: the values that became held are those of the obligation; each case is then one of the regulation. -/
theorem arcRegulated : Obligations.ArcRegulated := by
  intro p reading s c x v i e asked steps due sampled fed run become report told answer
  let w := s.tuned p reading
  have voltage : w.inputs.voltage.get p = reading.toNat := s.voltage_tuned p reading
  have vt : w.held p .vt = v .vt := s.held_tuned p reading .vt
  have holdThreshold : w.held p .holdThreshold = v .holdThreshold := s.held_tuned p reading .holdThreshold
  have deadband : w.held p .deadband = v .deadband := s.held_tuned p reading .deadband
  have gain : w.held p .gain = v .gain := s.held_tuned p reading .gain
  have smax : w.held p .smax = v .smax := s.held_tuned p reading .smax
  have highAlarm : w.held p .highAlarm = v .highAlarm := s.held_tuned p reading .highAlarm
  have stub : w.held p .stub = s.held p .stub := s.held_tuned p reading .stub
  have asks : w.stepsAsked p = asked := by
    unfold State.stepsAsked
    dsimp only
    rw [voltage, vt, deadband, gain, smax]
  have feeds : w.fed p sampled = fed := by
    unfold State.fed
    dsimp only
    rw [voltage, vt, asks, stub]
  have highRun : w.runOf p sampled = run := by
    unfold State.runOf
    rw [feeds, highAlarm]
  rw [← holdThreshold, ← stub, ← feeds, ← highRun]
  refine ⟨regulationInterval_dark, fun lit low => ?_, fun lit holds spent => ?_, fun lit holds left faulty => ?_,
    fun lit holds left steady more => ?_, fun lit holds left steady full _ => ?_, s.runningCheck_eq p⟩
  · exact regulates_arcMoved lit ((s.sampled p reading).become .off) .arcLost (State.regulate_setArc_lost rfl low)
  · exact regulates_arcSpent lit (State.regulate_setArc_spent rfl holds rfl rfl spent)
  · exact regulates_arcMoved lit (Arc.become { w.fed p sampled with highRun := 20 } .fault) .feedFault
      (State.regulate_setArc_fault rfl holds left faulty)
  · exact regulates_setArc lit
      ((State.regulate_setArc_counts holds left steady).trans (State.countInterval_setArc_more more))
  · exact regulates_setArc lit (after := State.runningCheck p)
      ((State.regulate_setArc_counts holds left steady).trans (State.countInterval_setArc_full full))

end Sys2Proof.Machine
end


section
/-! PROOF. Parameters: the table, what a write makes of the records, and what the owning block does (R184 to R190). -/

namespace Sys2Proof.Machine

variable {l : Connector} {r : Role} {s t : State} {p : Projector} {q : ParamRef} {n : Nat}

/-! ### The records of the store -/

theorem Params.recOf_setRec_self (x : Params) (q : ParamRef) (r : ParamRec) : (x.setRec q r).recOf q = r := by
  cases q with
  | proj p y => simp [setRec, recOf]
  | dev y => simp [setRec, recOf]

theorem Params.recOf_setRec_ne (x : Params) {q y : ParamRef} (r : ParamRec) (other : y ≠ q) :
    (x.setRec q r).recOf y = x.recOf y := by
  cases q with
  | dev d =>
    cases y with
    | proj p y => rfl
    | dev y => exact DevParams.get_set_ne _ _ fun same => other (congrArg ParamRef.dev same)
  | proj p d =>
    cases y with
    | dev y => rfl
    | proj p' y =>
      by_cases at_p : p' = p
      · subst at_p
        simp only [setRec, recOf, Pair.get_set_self]
        exact ProjParams.get_set_ne _ _ fun same => other (congrArg (ParamRef.proj p') same)
      · simp only [setRec, recOf, Pair.get_set_ne _ _ at_p]

theorem Params.recOf_setRec (x : Params) (q y : ParamRef) (r : ParamRec) :
    (x.setRec q r).recOf y = if y = q then r else x.recOf y := by
  split
  case isTrue same => rw [same, recOf_setRec_self]
  case isFalse other => exact recOf_setRec_ne x r other

theorem ParamRec.taken_eq (r : ParamRec) (point : TakeEffect) (v : Nat) :
    r.taken point v = if point = .immediate then { r with held := v } else r.placed v := by cases point <;> rfl

/-! ### The value (R186, R189) -/

/-- R186: the value that the range of a parameter leaves. -/
def ParamRef.ranged (q : ParamRef) (n : Nat) : Nat :=
  if q = .dev .brkMask then n % 16 else max q.row.low (min n q.row.high)

theorem ParamRef.inRange_mask (n : Nat) : ParamRef.inRange (.dev .brkMask) n = ⟨n % 16, decide (16 ≤ n)⟩ := rfl

theorem ParamRef.inRange_other (other : q ≠ .dev .brkMask) (n : Nat) :
    q.inRange n = clamp q.row.low q.row.high n := by
  unfold inRange
  split <;> [exact absurd rfl other; rfl]

theorem ParamRef.inRange_val (q : ParamRef) (n : Nat) : (q.inRange n).val = q.ranged n := by
  unfold ranged
  split
  case isTrue mask => rw [mask, inRange_mask]
  case isFalse other => rw [inRange_other other, clamp_val q.low_le_high]

theorem ParamRef.inRange_kept (q : ParamRef) (n : Nat) : (q.inRange n).adjusted = false ↔ q.ranged n = n := by
  unfold ranged
  split
  case isTrue mask =>
    rw [mask, inRange_mask, decide_eq_false_iff_not]
    omega
  case isFalse other =>
    have ordered := q.low_le_high
    rw [inRange_other other, clamp_kept]
    omega

/-- R189: the value that a write places. -/
def State.writes (s : State) (q : ParamRef) (n : Nat) : Nat :=
  match q with
  | .proj p .tR2 => max (q.ranged n) ((s.par.recOf (.proj p .tR1)).effective + 10)
  | _ => q.ranged n

theorem constrained_limit (s : State) (p : Projector) (v : Taken Nat) :
    s.constrained (.proj p .tR2) v =
      if v.val < (s.par.recOf (.proj p .tR1)).effective + 10 then
        ⟨(s.par.recOf (.proj p .tR1)).effective + 10, true⟩
      else v := rfl

theorem constrained_other (other : ∀ p, q ≠ .proj p .tR2) (v : Taken Nat) : s.constrained q v = v := by
  unfold State.constrained
  split <;> [exact absurd rfl (other _); rfl]

theorem writes_other (other : ∀ p, q ≠ .proj p .tR2) : s.writes q n = q.ranged n := by
  unfold State.writes
  split <;> [exact absurd rfl (other _); rfl]

theorem constrained_writes (s : State) (q : ParamRef) (n : Nat) :
    (s.constrained q (q.inRange n)).val = s.writes q n ∧
      ((s.constrained q (q.inRange n)).adjusted = false ↔ q.ranged n = n ∧ s.writes q n = q.ranged n) := by
  by_cases limit : ∃ p, q = .proj p .tR2
  · obtain ⟨p, rfl⟩ := limit
    have kept := (ParamRef.proj p .tR2).inRange_kept n
    have writes : s.writes (.proj p .tR2) n =
      max ((ParamRef.proj p .tR2).ranged n) ((s.par.recOf (.proj p .tR1)).effective + 10) := rfl
    rw [constrained_limit, ParamRef.inRange_val, writes]
    split
    case isTrue low => exact ⟨(max_eq_right low.le).symm, iff_of_false nofun fun ⟨_, same⟩ => by omega⟩
    case isFalse high => exact ⟨by rw [ParamRef.inRange_val]; omega, kept.trans (by omega)⟩
  · have other : ∀ p, q ≠ .proj p .tR2 := fun p same => limit ⟨p, same⟩
    rw [constrained_other other, writes_other other]
    exact ⟨q.inRange_val n, (q.inRange_kept n).trans (and_iff_left rfl).symm⟩

/-! ### The limit raised with T_r1 (R189) -/

/-- R189: the projector whose T_r2 rises with a write of this value. -/
def State.raises (s : State) (q : ParamRef) (v : Nat) : Option Projector :=
  match q with
  | .proj p .tR1 =>
    if (s.par.recOf (.proj p .tR2)).effective < ((s.par.recOf q).placed v).effective + 10 then some p else none
  | _ => none

theorem limitRaised_other (other : ∀ p, q ≠ .proj p .tR1) : s.limitRaised q = (s, false) := by
  unfold State.limitRaised
  split <;> [exact absurd rfl (other _); rfl]

theorem raises_other (other : ∀ p, q ≠ .proj p .tR1) (v : Nat) : s.raises q v = none := by
  unfold State.raises
  split <;> [exact absurd rfl (other _); rfl]

theorem limitRaised_tR1 (s : State) (p : Projector) :
    s.limitRaised (.proj p .tR1) =
      if (s.par.recOf (.proj p .tR2)).effective < (s.par.recOf (.proj p .tR1)).effective + 10 then
        (s.setPar (s.par.setRec (.proj p .tR2)
          ((s.par.recOf (.proj p .tR2)).placed ((s.par.recOf (.proj p .tR1)).effective + 10))), true)
      else (s, false) := by
  have kept : { s.par with proj := s.par.proj.set p (s.par.proj.get p) } = s.par := by rw [Pair.set_get]
  have raised : (s.par.proj.get p).raiseLimit =
      if (s.par.recOf (.proj p .tR2)).effective < (s.par.recOf (.proj p .tR1)).effective + 10 then
        ((s.par.proj.get p).set .tR2
          ((s.par.recOf (.proj p .tR2)).placed ((s.par.recOf (.proj p .tR1)).effective + 10)), true)
      else (s.par.proj.get p, false) := rfl
  unfold State.limitRaised
  dsimp only
  rw [raised]
  split
  · rfl
  · dsimp only
    rw [kept]
    rfl

/-- R186 to R189: the records after a write, and whether it raised T_r2. -/
def State.paramWritten (s : State) (q : ParamRef) (v : Nat) : State × Bool := (s.placeParam q v).limitRaised q

theorem paramWritten_other (other : ∀ p, q ≠ .proj p .tR1) (v : Nat) : s.paramWritten q v = (s.placeParam q v, false) :=
  limitRaised_other other

theorem recOf_placeParam (s : State) (q : ParamRef) (v : Nat) (y : ParamRef) :
    (s.placeParam q v).par.recOf y = if y = q then (s.par.recOf q).taken q.row.point v else s.par.recOf y :=
  Params.recOf_setRec s.par _ _ _

theorem paramWritten_tR1 (s : State) (p : Projector) (v : Nat) :
    let placed := (s.par.recOf (.proj p .tR1)).placed v
    let t := s.placeParam (.proj p .tR1) v
    s.paramWritten (.proj p .tR1) v =
      if (s.par.recOf (.proj p .tR2)).effective < placed.effective + 10 then
        (t.setPar (t.par.setRec (.proj p .tR2) ((s.par.recOf (.proj p .tR2)).placed (placed.effective + 10))), true)
      else (t, false) := by
  have self := recOf_placeParam s (.proj p .tR1) v (.proj p .tR1)
  have other := recOf_placeParam s (.proj p .tR1) v (.proj p .tR2)
  rw [if_pos rfl] at self
  rw [if_neg (by simp)] at other
  intro placed t
  unfold State.paramWritten
  rw [limitRaised_tR1, self, other]
  rfl

theorem paramWritten_snd (s : State) (q : ParamRef) (v : Nat) : (s.paramWritten q v).2 = (s.raises q v).isSome := by
  by_cases limit : ∃ p, q = .proj p .tR1
  · obtain ⟨p, rfl⟩ := limit
    unfold State.raises
    rw [paramWritten_tR1]
    dsimp only
    split <;> rfl
  · have other : ∀ p, q ≠ .proj p .tR1 := fun p same => limit ⟨p, same⟩
    rw [paramWritten_other other, raises_other other]
    rfl

theorem paramWritten_changes (s : State) (q : ParamRef) (v : Nat) : changesOnly [.par] s (s.paramWritten q v).1 := by
  have placed : changesOnly [.par] s (s.placeParam q v) := setPar_changes _ _
  by_cases limit : ∃ p, q = .proj p .tR1
  · obtain ⟨p, rfl⟩ := limit
    rw [paramWritten_tR1]
    split <;> [exact placed.trans (setPar_changes _ _); exact placed]
  · rw [paramWritten_other fun p same => limit ⟨p, same⟩]
    exact placed

theorem recOf_paramWritten (s : State) (q : ParamRef) (v : Nat) (y : ParamRef) :
    (s.paramWritten q v).1.par.recOf y =
      if y = q then (s.par.recOf q).taken q.row.point v
      else if ∃ p, s.raises q v = some p ∧ y = .proj p .tR2 then
        (s.par.recOf y).placed (((s.par.recOf q).placed v).effective + 10)
      else s.par.recOf y := by
  by_cases limit : ∃ p, q = .proj p .tR1
  · obtain ⟨p, rfl⟩ := limit
    have raises : s.raises (.proj p .tR1) v =
      if (s.par.recOf (.proj p .tR2)).effective < ((s.par.recOf (.proj p .tR1)).placed v).effective + 10 then some p
      else none := rfl
    have placed := recOf_placeParam s (.proj p .tR1) v y
    rw [paramWritten_tR1, raises]
    split
    · by_cases limit : y = .proj p .tR2
      · subst limit
        rw [if_neg (by simp), if_pos ⟨p, rfl, rfl⟩]
        exact Params.recOf_setRec_self (s.placeParam (.proj p .tR1) v).par (.proj p .tR2) _
      · rw [if_neg (c := ∃ _, _) (by simp [limit]), ← placed]
        exact Params.recOf_setRec_ne _ _ limit
    · rw [placed]
      simp
  · have other : ∀ p, q ≠ .proj p .tR1 := fun p same => limit ⟨p, same⟩
    rw [paramWritten_other other, raises_other other, recOf_placeParam]
    simp

/-! ### The answers (R186, R190) -/

/-- R189, R196: T_r2's record, where a write raised it. -/
def raisedRecord (record : ParamRef → List Byte) (raised : Option Projector) : List Byte :=
  match raised with
  | some p => record (.proj p .tR2)
  | none => []

theorem limitRecord_raises (s t : State) (q : ParamRef) (v : Nat) :
    (if (s.raises q v).isSome then limitRecord t q else []) = raisedRecord (paramRecord t) (s.raises q v) := by
  by_cases limit : ∃ p, q = .proj p .tR1
  · obtain ⟨p, rfl⟩ := limit
    unfold State.raises
    dsimp only
    split <;> rfl
  · rw [raises_other fun p same => limit ⟨p, same⟩]
    rfl

/-- R186, R189: the code of a write. -/
theorem okOr_write (s : State) (q : ParamRef) (n : Nat) :
    okOr ((s.constrained q (q.inRange n)).adjusted || (s.raises q (s.writes q n)).isSome) =
      if q.ranged n = n ∧ s.writes q n = q.ranged n ∧ s.raises q (s.writes q n) = none then .ok else .adjusted := by
  have kept := (constrained_writes s q n).2
  cases adjusted : (s.constrained q (q.inRange n)).adjusted with
  | true =>
    rw [adjusted] at kept
    exact (if_neg fun ⟨inRange, same, _⟩ => nomatch kept.mpr ⟨inRange, same⟩).symm
  | false =>
    obtain ⟨inRange, same⟩ := kept.mp adjusted
    cases s.raises q (s.writes q n) with
    | none => exact (if_pos ⟨inRange, same, rfl⟩).symm
    | some p => exact (if_neg fun ⟨_, _, no⟩ => nomatch no).symm

theorem paramWriteAnswer_some (s : State) (q : ParamRef) (value : Half) :
    let n := value.toNat
    let v := s.writes q n
    let t := (s.paramWritten q v).1.paramActs q
    paramWriteAnswer value (some q) s =
      ⟨t, if q.ranged n = n ∧ v = q.ranged n ∧ s.raises q v = none then .ok else .adjusted,
        paramRecord t q ++ raisedRecord (paramRecord t) (s.raises q v)⟩ := by
  intro n v t
  rw [← okOr_write, ← limitRecord_raises, ← paramWritten_snd]
  unfold paramWriteAnswer
  dsimp only
  rw [(constrained_writes s q value.toNat).1]
  rfl

theorem paramRead_reaches (h : heard l r s) {id proj : Byte} {x : Option ParamRef}
    (named : ParamRef.ofCodes id proj = some x) (body : List Byte) :
    requestAnswer l (.paramRead id proj) (s.takeSlot l body) = paramReadAnswer x (s.takeSlot l body) := by
  have passes : screen l (some x) anyRole paramReadAnswer (s.takeSlot l body) = paramReadAnswer x (s.takeSlot l body) :=
    screen_passes (role := r) ((binding_takeSlot l body s l).trans h.1) rfl
  rw [← named] at passes
  exact passes

theorem paramWrite_reaches (h : heard l .h s) {id proj : Byte} {x : Option ParamRef} {value : Half}
    (named : ParamRef.ofCodes id proj = some x) (body : List Byte) :
    requestAnswer l (.paramWrite id proj value) (s.takeSlot l body) = paramWriteAnswer value x (s.takeSlot l body) := by
  have passes : screen l (some x) houseOnly (paramWriteAnswer value) (s.takeSlot l body) =
      paramWriteAnswer value x (s.takeSlot l body) :=
    screen_passes (role := .h) ((binding_takeSlot l body s l).trans h.1) rfl
  rw [← named] at passes
  exact passes

theorem grants_paramWrite (h : heard l .h s) {id proj : Byte} {value : Half}
    (named : ParamRef.ofCodes id proj = some (some q)) :
    let n := value.toNat
    let v := s.writes q n
    grants l (.paramWrite id proj value) s
      (if q.ranged n = n ∧ v = q.ranged n ∧ s.raises q v = none then .ok else .adjusted)
      (fun t => paramRecord t q ++ raisedRecord (paramRecord t) (s.raises q v)) [] [.par]
      (fun t => ∀ y, t.par.recOf y =
        if y = q then
          if q.row.point = .immediate then { s.par.recOf q with held := v } else (s.par.recOf q).placed v
        else if ∃ p, s.raises q v = some p ∧ y = .proj p .tR2 then
          (s.par.recOf y).placed (((s.par.recOf q).placed v).effective + 10)
        else s.par.recOf y)
      fun t => t.paramActs q := by
  intro n v
  let w := s.takeSlot l (requestBody (.paramWrite id proj value))
  have changes := paramWritten_changes w q v
  refine grants_of h.2 (w.paramWritten q v).1 ?_ (notified_nil fun m => changes.links m (by simp))
    (fun y => by rw [recOf_paramWritten, ParamRec.taken_eq]; rfl) (changes.mono (by simp))
  exact (paramWrite_reaches h named _).trans (paramWriteAnswer_some w q value)

/-! ### What the owning block does (R81, R96, R107, R108) -/

/-- R107 to R110: the record of a monitor that has compared its reading. -/
def State.heatCompared (s : State) (p : Projector) : HeatMonitor :=
  let m := s.heatOf p
  let n := s.inputs.heat.get p
  let h := s.held p .heatThreshold
  match m.state with
  | .normal => if h < n then ⟨.stage1Wait, some 0, n⟩ else m
  | .stage1Wait | .dousedWait =>
    if n + 4 ≤ h then ⟨.normal, none, max m.peak n⟩ else { m with peak := max m.peak n }
  | .tripped => { m with peak := max m.peak n }

theorem compareHeat_eq (s : State) (p : Projector) : s.compareHeat p = s.setHeat p (s.heatCompared p) := by
  have kept : s.setHeat p (s.heatOf p) = s := by simp [State.setHeat, State.heatOf]
  unfold State.compareHeat State.heatCompared
  cases state : (s.heatOf p).state with
  | normal =>
    simp only [state]
    split <;> [rfl; exact kept.symm]
  | stage1Wait | dousedWait =>
    simp only [state]
    exact (apply_ite (fun m => s.setHeat p m) _ _ _).symm
  | tripped => simp only [state]

/-- R107: the stage timer of a monitor in this state has reached a limit. -/
abbrev State.overdue (s : State) (p : Projector) (state : HeatState) (limit : Nat) : Bool :=
  decide ((s.heatOf p).state = state) && (s.heatOf p).elapsed.any fun k => decide (limit ≤ k)

theorem overdue_iff (s : State) (p : Projector) (state : HeatState) (limit : Nat) :
    s.overdue p state limit = true ↔
      (s.heatOf p).state = state ∧ ∃ n, (s.heatOf p).elapsed = some n ∧ limit ≤ n := by
  simp [Option.any_eq_true]

theorem stage1TimerTest_eq (s : State) (p : Projector) :
    s.stage1TimerTest p = if s.overdue p .stage1Wait (s.heldDev .tH1) then s.heatStage1 p else s := by
  unfold State.stage1TimerTest
  split
  case h_1 n waits elapsed => simp [waits, elapsed]
  case h_2 untimed =>
    refine (if_neg fun late => ?_).symm
    obtain ⟨waits, n, elapsed, -⟩ := (overdue_iff s p _ _).mp late
    exact untimed n waits elapsed

theorem dousedTimerTest_eq (s : State) (p : Projector) :
    s.dousedTimerTest p = if s.overdue p .dousedWait (s.heldDev .tH2) then s.heatTrips p else s := by
  unfold State.dousedTimerTest
  split
  case h_1 n waits elapsed => simp [waits, elapsed]
  case h_2 untimed =>
    refine (if_neg fun late => ?_).symm
    obtain ⟨waits, n, elapsed, -⟩ := (overdue_iff s p _ _).mp late
    exact untimed n waits elapsed

theorem paramActs_proj {y : ProjParam} (touch : y ≠ .strikeThreshold) (stub : y ≠ .stub) (heat : y ≠ .heatThreshold) :
    s.paramActs (.proj p y) = s := by
  cases y with
  | strikeThreshold => exact absurd rfl touch
  | stub => exact absurd rfl stub
  | heatThreshold => exact absurd rfl heat
  | _ => rfl

theorem paramActs_dev {y : DevParam} (first : y ≠ .tH1) (second : y ≠ .tH2) : s.paramActs (.dev y) = s := by
  cases y with
  | tH1 => exact absurd rfl first
  | tH2 => exact absurd rfl second
  | _ => rfl

/-! ### O52 -/

/-- R196: a parameter record, field by field. -/
theorem paramRecord_eq (s : State) (q : ParamRef) :
    paramRecord s q = paramName q ++ half (s.par.recOf q).held ++ [if (s.par.recOf q).pending = none then 0 else 1] ++
      half ((s.par.recOf q).pending.getD 0) ++ [q.row.point.code] ++ half q.row.low ++ half q.row.high ++
      half q.row.default := by
  have marked : marker (s.par.recOf q).pending.isSome = if (s.par.recOf q).pending = none then 0 else 1 := by
    cases (s.par.recOf q).pending <;> rfl
  rw [← marked]
  rfl

/-- Settles O52: the table is computed; a write is granted with the value, the records and the code of the lemmas above;
each parameter that acts has its equation. -/
theorem parametersWritten : Obligations.ParametersWritten := by
  refine ⟨⟨rfl, rfl, fun p => by cases p <;> rfl, fun x => rfl⟩, ?_, ?_⟩
  · intro l r id proj value s h rec' placed effective
    have record : paramRecord = rec' := funext fun t => funext fun q => paramRecord_eq t q
    refine ⟨fun none => ⟨repliesOnly_of h.2 (paramRead_reaches h none _), ?_⟩, fun q named => ⟨?_, ?_⟩⟩
    · rintro rfl
      exact repliesOnly_of h.2 (paramWrite_reaches h none _)
    · rw [← record]
      exact repliesOnly_of h.2 (paramRead_reaches h named _)
    · rintro rfl
      rw [← record]
      exact grants_paramWrite h named
  · intro p s
    refine ⟨State.testTouch_eq s p, rfl, compareHeat_eq s p, ?_, ?_, fun y => paramActs_proj, fun y => paramActs_dev⟩
    · exact (stage1TimerTest_eq _ .b).trans (by rw [stage1TimerTest_eq s .a])
    · exact (dousedTimerTest_eq _ .b).trans (by rw [dousedTimerTest_eq s .a])

end Sys2Proof.Machine
end


section
/-! PROOF. The laws at reset (R118): reset is what POWER_ON makes of it, and POWER_ON's values meet every law. -/

namespace Sys2Proof.Machine

/-- R118: reset holds the values of power-on already. -/
theorem State.poweredUp_reset : State.reset.poweredUp = State.reset := rfl

theorem boothLaw_reset : State.reset.boothLaw :=
  (boothLaw_iff _).mpr (State.poweredUp_reset ▸ State.lawful_poweredUp State.reset)

theorem planLaw_reset : State.reset.planLaw := (State.poweredUp_reset ▸ State.steady_poweredUp State.reset).planLaw

theorem carbonLaw_reset : State.reset.carbonLaw := fun p _ => by cases p <;> nofun

theorem tabled_reset {law : Params → Prop} (lawful : Params.Law law) : State.reset.Tabled law True :=
  State.poweredUp_reset ▸ State.tabled_poweredUp lawful True State.reset

/-- R167: a link at reset is bound to no role and holds nothing. -/
theorem linkOf_reset (l : Connector) : State.reset.linkOf l = Link.reset := by cases l <;> rfl

theorem roleLaw_reset : State.reset.roleLaw := fun l _ m _ _ bound => by
  rw [linkOf_reset] at bound
  cases bound

theorem queueLaw_reset : State.reset.queueLaw := fun l _ => by
  rw [linkOf_reset]
  exact ⟨⟨rfl, Nat.zero_le _⟩, ⟨Nat.zero_le _, List.Pairwise.nil, fun _ => rfl⟩, fun _ => ⟨rfl, rfl⟩⟩

/-- Settles O60: the laws of the booth, the plan and the tables hold of every power-on; no arc is LIT at reset, and no
link is bound. -/
theorem resetMeetsLaws : Obligations.ResetMeetsLaws := by
  have params := (tabled_reset Params.law_inRange).store
  have limits := (tabled_reset Params.law_limited).store
  obtain ⟨-, fades, packs, counts⟩ := (tablesLaw_iff _).mpr ((tabled_reset Params.law_inRange).tables trivial)
  exact ⟨boothLaw_reset, carbonLaw_reset, planLaw_reset, fades, packs, (paramLaw_iff _).mpr params,
    (limitLaw_iff _).mpr limits, counts, roleLaw_reset, queueLaw_reset⟩

end Sys2Proof.Machine
end


section
/-! PROOF. The shutters: SHUTTER_RAISE and SHUTTER_DROP, the senses and the move timers, in every shutter state (R99 to
R106). -/

namespace Sys2Proof.Machine

variable {c : Instr} {l : Connector} {r : Role} {req : Request} {s t : State} {sh : Shutter} {new : ShutterState}
  {cause : ShutterCause} {code : ResultCode}

namespace State

/-! ### A move, and its SHUTTER_STATE (R99, R106) -/

/-- R99: the record of a shutter that comes to a state now. -/
abbrev shutterIn (s : State) (new : ShutterState) (cause : ShutterCause) : ShutterRec :=
  ⟨new, new.moveTenths.map s.tenthsFromNow, new.lifts, new.holds, cause⟩

/-- R106: the SHUTTER_STATE of a shutter that comes to a state now. -/
abbrev shutterMoveNotice (s : State) (sh : Shutter) (new : ShutterState) (cause : ShutterCause) : Notice :=
  s.noticeNow .shutterState sh.code [new.code, (s.shutterOf sh).state.code, cause.code, sensesByte s sh]

/-- R99, R106: a shutter has come to a state, and SHUTTER_STATE has gone out. -/
abbrev shutterMoved (s : State) (sh : Shutter) (new : ShutterState) (cause : ShutterCause) : State :=
  (s.setShutter sh (s.shutterIn new cause)).route (s.shutterMoveNotice sh new cause)

/-- R106: a port shutter reports to its channel; an observation shutter to none. -/
def shutterReported (sh : Shutter) (s : State) : State :=
  match sh.projector with
  | some p => s.conditionsReported p
  | none => s

theorem shutterTo_eq (s : State) (sh : Shutter) (new : ShutterState) (cause : ShutterCause) :
    s.shutterTo sh new cause = (s.shutterMoved sh new cause).shutterReported sh := by
  have sent : (s.placeShutter sh new cause).shutterNotice sh (s.shutterOf sh).state = s.shutterMoved sh new cause := by
    unfold shutterNotice placeShutter
    rw [shutterOf_setShutter_self]
    rfl
  unfold shutterTo shutterReported
  cases sh.projector with
  | none => exact sent
  | some p => exact congrArg (conditionsReported p) sent

theorem shutterOf_shutterMoved (s : State) (sh : Shutter) (new : ShutterState) (cause : ShutterCause) :
    (s.shutterMoved sh new cause).shutterOf sh = s.shutterIn new cause := shutterOf_setShutter_self s sh _

theorem shutterMoved_changes (s : State) (sh : Shutter) (new : ShutterState) (cause : ShutterCause) :
    changesOnly (everyLink ++ [.shutter sh]) s (s.shutterMoved sh new cause) :=
  ((setShutter_changes s sh _).mono (by simp)).andThen (route_changes _ _) (by simp)

theorem notified_shutterMoved (s : State) (sh : Shutter) (new : ShutterState) (cause : ShutterCause) :
    notified [s.shutterMoveNotice sh new cause] s (s.shutterMoved sh new cause) :=
  (notified_route _ _).before (fun _ => rfl) rfl

end State

/-! ### The requests (R100, R102) -/

/-- R196: the data of a request about a shutter. -/
abbrev shutterData (sh : Shutter) (s : State) : List Byte := [(s.shutterOf sh).state.code, sensesByte s sh]

theorem shutterRaise_reaches (h : heard l r s) (mayRaise : r = .h ∨ ∃ p, r.own = some p ∧ p.port = sh)
    (body : List Byte) :
    requestAnswer l (.shutterRaise sh.code) (s.takeSlot l body) = shutterRaiseAnswer sh (s.takeSlot l body) := by
  change screen l (Shutter.ofCode sh.code) ownPortOrHouse shutterRaiseAnswer (s.takeSlot l body) = _
  rw [Shutter.ofCode_code]
  exact screen_passes (role := r) ((binding_takeSlot l body s l).trans h.1) (by simpa [ownPortOrHouse] using mayRaise)

theorem shutterDrop_reaches (h : heard l r s) (body : List Byte) :
    requestAnswer l (.shutterDrop sh.code) (s.takeSlot l body) = shutterDropAnswer sh (s.takeSlot l body) := by
  change screen l (Shutter.ofCode sh.code) anyRole shutterDropAnswer (s.takeSlot l body) = _
  rw [Shutter.ofCode_code]
  exact screen_passes (role := r) ((binding_takeSlot l body s l).trans h.1) rfl

theorem shutterRaiseAnswer_up (up : (s.shutterOf sh).state = .held ∨ (s.shutterOf sh).state = .raising) :
    shutterRaiseAnswer sh s = shutterAnswer sh .ok s := by
  unfold shutterRaiseAnswer
  rcases up with state | state <;> rw [state]

theorem shutterRaiseAnswer_dropping (dropping : (s.shutterOf sh).state = .dropping) :
    shutterRaiseAnswer sh s = shutterAnswer sh (if s.fire.lockout = true then .fireLockout else .busy) s := by
  unfold shutterRaiseAnswer
  rw [dropping]

theorem shutterRaiseAnswer_locked (rests : (s.shutterOf sh).state = .down ∨ (s.shutterOf sh).state = .jammed)
    (locked : s.fire.lockout = true) : shutterRaiseAnswer sh s = shutterAnswer sh .fireLockout s := by
  unfold shutterRaiseAnswer
  rcases rests with state | state <;> rw [state] <;> exact if_pos locked

theorem shutterRaiseAnswer_begins (rests : (s.shutterOf sh).state = .down ∨ (s.shutterOf sh).state = .jammed)
    (clear : s.fire.lockout = false) :
    shutterRaiseAnswer sh s = shutterAnswer sh .ok (s.shutterTo sh .raising .request) := by
  unfold shutterRaiseAnswer
  rcases rests with state | state <;> rw [state] <;> exact if_neg (Bool.eq_false_iff.mp clear)

theorem shutterDropAnswer_up (up : (s.shutterOf sh).state = .held ∨ (s.shutterOf sh).state = .raising) :
    shutterDropAnswer sh s = shutterAnswer sh .ok (s.shutterTo sh .dropping .request) := by
  unfold shutterDropAnswer
  rcases up with state | state <;> rw [state]

theorem shutterDropAnswer_other (unheld : (s.shutterOf sh).state ≠ .held) (still : (s.shutterOf sh).state ≠ .raising) :
    shutterDropAnswer sh s = shutterAnswer sh .ok s := by
  unfold shutterDropAnswer
  cases state : (s.shutterOf sh).state with
  | held => exact absurd state unheld
  | raising => exact absurd state still
  | down | dropping | jammed => rfl

/-- R169, R196: a request about a shutter that changes nothing. -/
theorem repliesOnly_shutter (h : listens l s)
    (answer : requestAnswer l req (s.takeSlot l (requestBody req)) =
      shutterAnswer sh code (s.takeSlot l (requestBody req))) :
    repliesOnly l req s code (shutterData sh s) := repliesOnly_of h answer

/-- R106, R196: a request that takes a shutter to another state. -/
theorem grants_shutterTo (h : listens l s)
    (answer : requestAnswer l req (s.takeSlot l (requestBody req)) =
      shutterAnswer sh code ((s.takeSlot l (requestBody req)).shutterTo sh new cause)) :
    grants l req s code (shutterData sh) [s.shutterMoveNotice sh new cause] [.shutter sh]
      (fun t => t.shutterOf sh = s.shutterIn new cause) (State.shutterReported sh) := by
  rw [State.shutterTo_eq] at answer
  exact grants_of h _ answer (State.notified_shutterMoved _ sh new cause)
    (State.shutterOf_shutterMoved _ sh new cause) (State.shutterMoved_changes _ sh new cause)

/-- Settles O41: each request reaches FSU, whose answer in the shutter's state is an equation above. -/
theorem shutterRequests : Obligations.ShutterRequests := by
  intro l r sh s ⟨bound, hears⟩ x senses data report told mayRaise raise
  have raises (may : mayRaise) := shutterRaise_reaches ⟨bound, hears⟩ may (requestBody (.shutterRaise sh.code))
  have drops := shutterDrop_reaches (sh := sh) ⟨bound, hears⟩ (requestBody (.shutterDrop sh.code))
  refine ⟨fun may up => ?_, fun may dropping => ?_, fun may rests locked => ?_, fun may rests clear => ?_,
    fun up => ?_, fun unheld still => ?_⟩
  · exact repliesOnly_shutter hears ((raises may).trans (shutterRaiseAnswer_up up))
  · exact repliesOnly_shutter hears ((raises may).trans (shutterRaiseAnswer_dropping dropping))
  · exact repliesOnly_shutter hears ((raises may).trans (shutterRaiseAnswer_locked rests locked))
  · exact grants_shutterTo (new := .raising) (cause := .request) hears
      ((raises may).trans (shutterRaiseAnswer_begins rests clear))
  · exact grants_shutterTo (new := .dropping) (cause := .request) hears (drops.trans (shutterDropAnswer_up up))
  · exact repliesOnly_shutter hears (drops.trans (shutterDropAnswer_other unheld still))

/-! ### The senses and the move timers (R101, R103 to R105) -/

theorem lost_rests (s : State) (sh : Shutter) :
    (s.jammedOrDown sh).moveTenths = none ∧ (s.jammedOrDown sh).lifts = false ∧ (s.jammedOrDown sh).holds = false := by
  unfold State.jammedOrDown
  split <;> exact ⟨rfl, rfl, rfl⟩

/-- R99, R106: a command that takes a shutter to a state without a move, after a sense or the motion count. -/
theorem runs_shutterTo {hold : Bool} (ran : exec c s = .next (t.shutterTo sh new cause).finish)
    (before : changesOnly [.inputs, .motionCount] s t)
    (rests : new.moveTenths = none ∧ new.lifts = false ∧ new.holds = hold) :
    runs c s
      [s.noticeNow .shutterState sh.code [new.code, (s.shutterOf sh).state.code, cause.code, sensesByte t sh]]
      [.shutter sh, .inputs, .motionCount]
      (fun u => u.shutterOf sh = ⟨new, none, false, hold, cause⟩ ∧ u.inputs = t.inputs ∧
        u.motionCount = t.motionCount) (State.shutterReported sh) := by
  obtain ⟨still, low, rfl⟩ := rests
  have shutter : t.shutterOf sh = s.shutterOf sh := before (.shutter sh) (by simp)
  have prog : t.prog = s.prog := before .prog (by simp)
  have record : t.shutterIn new cause = ⟨new, none, false, new.holds, cause⟩ := by
    rw [State.shutterIn, still, low]
    rfl
  have told := State.notified_shutterMoved t sh new cause
  rw [State.shutterMoveNotice, noticeNow_eq (congrArg Progress.clock prog), shutter] at told
  rw [State.shutterTo_eq] at ran
  refine ⟨_, ran, told.before (fun m => before.links m (by simp)) (before .routing (by simp)), ⟨?_, rfl, rfl⟩, ?_⟩
  · exact (State.shutterOf_shutterMoved t sh new cause).trans record
  · exact (before.mono (by simp)).andThen (State.shutterMoved_changes t sh new cause) (by simp)

/-- A command that leaves the inputs, and hands nothing to LNK before what comes `after`. -/
theorem runs_setInputs {x : Inputs} {after : State → State} (ran : exec c s = .next (after (s.setInputs x)).finish) :
    runs c s [] [.inputs] (fun t => t.inputs = x) after :=
  ⟨s.setInputs x, ran, notified_nil fun _ => rfl, rfl, (setInputs_changes s x).mono (by simp)⟩

theorem exec_openSenseChange_other {made : Bool} (unraised : ¬((s.shutterOf sh).state = .raising ∧ made = true))
    (kept : ¬((s.shutterOf sh).state = .held ∧ made = false)) :
    exec (.openSenseChange sh made) s =
      .next (s.setInputs { s.inputs with openSense := s.inputs.openSense.setShutter sh made }).finish := by
  change execOpenSenseChange sh made s = _
  unfold execOpenSenseChange
  dsimp only
  split
  case h_1 raising => exact absurd ⟨raising, rfl⟩ unraised
  case h_2 held => exact absurd ⟨held, rfl⟩ kept
  case h_3 => rfl

theorem exec_closedSenseChange_other {made : Bool}
    (unseated : ¬(((s.shutterOf sh).state = .dropping ∨ (s.shutterOf sh).state = .jammed) ∧ made = true))
    (kept : ¬((s.shutterOf sh).state = .down ∧ made = false)) :
    exec (.closedSenseChange sh made) s =
      .next (s.setInputs { s.inputs with closedSense := s.inputs.closedSense.setShutter sh made }).finish := by
  change execClosedSenseChange sh made s = _
  unfold execClosedSenseChange
  dsimp only
  split
  case h_1 dropping => exact absurd ⟨.inl dropping, rfl⟩ unseated
  case h_2 jammed => exact absurd ⟨.inr jammed, rfl⟩ unseated
  case h_3 down => exact absurd ⟨down, rfl⟩ kept
  case h_4 => rfl

/-- R101: the open sense in RAISING and HELD. -/
theorem exec_openSenseChange_opens (raising : (s.shutterOf sh).state = .raising) :
    exec (.openSenseChange sh true) s =
      .next ((s.setInputs { s.inputs with openSense := s.inputs.openSense.setShutter sh true }).shutterTo sh .held
        .opened).finish := by
  change execOpenSenseChange sh true s = _
  unfold execOpenSenseChange
  rw [raising]
  rfl

theorem exec_openSenseChange_lost (held : (s.shutterOf sh).state = .held) :
    exec (.openSenseChange sh false) s =
      .next ((s.setInputs { s.inputs with openSense := s.inputs.openSense.setShutter sh false }).shutterTo sh
        (s.jammedOrDown sh) .lost).finish := by
  change execOpenSenseChange sh false s = _
  unfold execOpenSenseChange
  rw [held]
  rfl

/-- R103, R104: the closed sense in DROPPING, JAMMED and DOWN. -/
theorem exec_closedSenseChange_closes
    (falling : (s.shutterOf sh).state = .dropping ∨ (s.shutterOf sh).state = .jammed) :
    exec (.closedSenseChange sh true) s =
      .next ((s.setInputs { s.inputs with closedSense := s.inputs.closedSense.setShutter sh true }).shutterTo sh .down
        .closed).finish := by
  change execClosedSenseChange sh true s = _
  unfold execClosedSenseChange
  rcases falling with state | state <;> rw [state] <;> rfl

theorem exec_closedSenseChange_lost (down : (s.shutterOf sh).state = .down) :
    exec (.closedSenseChange sh false) s =
      .next ((s.setInputs { s.inputs with closedSense := s.inputs.closedSense.setShutter sh false }).shutterTo sh
        .jammed .lost).finish := by
  change execClosedSenseChange sh false s = _
  unfold execClosedSenseChange
  rw [down]
  rfl

/-- Log 2: the move timer's instant is reached. -/
abbrev State.atMoveDue (s : State) (sh : Shutter) : State :=
  { s with motionCount := (s.passToDue (s.shutterOf sh).moveDue).motionCount }

theorem State.passToDue_moveDue (s : State) (sh : Shutter) :
    s.passToDue (s.shutterOf sh).moveDue = s.atMoveDue sh := s.passToDue_eq _

theorem State.atMoveDue_changes (s : State) (sh : Shutter) : changesOnly [.inputs, .motionCount] s (s.atMoveDue sh) :=
  s.passToDue_moveDue sh ▸ (passToDue_changes s _).mono (by simp)

theorem exec_raiseTimeout_raising (raising : (s.shutterOf sh).state = .raising) :
    exec (.raiseTimeout sh) s = .next ((s.atMoveDue sh).shutterTo sh (s.jammedOrDown sh) .timeout).finish := by
  change execRaiseTimeout sh s = _
  unfold execRaiseTimeout
  rw [if_pos raising, State.passToDue_moveDue]
  rfl

theorem exec_dropTimeout_dropping (dropping : (s.shutterOf sh).state = .dropping) :
    exec (.dropTimeout sh) s = .next ((s.atMoveDue sh).shutterTo sh (s.jammedOrDown sh) .timeout).finish := by
  change execDropTimeout sh s = _
  unfold execDropTimeout
  rw [if_pos dropping, State.passToDue_moveDue]
  rfl

/-- Settles O42: each command leaves the shutter, or takes it to a state without a move, after its sense is set or its
move timer's instant is reached. -/
theorem shuttersMove : Obligations.ShuttersMove := by
  intro sh made s x now told moves opened closed lost
  have sensed {c : Instr} {i : Inputs} {new : ShutterState} {hold : Bool} {cause : ShutterCause}
      (ran : exec c s = .next ((s.setInputs i).shutterTo sh new cause).finish)
      (rests : new.moveTenths = none ∧ new.lifts = false ∧ new.holds = hold) :
      moves c i s.motionCount new hold cause :=
    runs_shutterTo (t := s.setInputs i) ran ((setInputs_changes s i).mono (by simp)) rests
  have timedOut {c : Instr}
      (ran : exec c s = .next ((s.atMoveDue sh).shutterTo sh (s.jammedOrDown sh) .timeout).finish) :
      moves c s.inputs now lost false .timeout := by
    have count : (s.atMoveDue sh).motionCount = now := State.motionCount_passToDue s x.moveDue
    exact count ▸ runs_shutterTo (t := s.atMoveDue sh) ran (s.atMoveDue_changes sh) (lost_rests s sh)
  refine ⟨?_, ?_, fun unraised kept => ?_, ?_, ?_, fun unseated kept => ?_, fun raising => ?_, fun unraised => ?_,
    fun dropping => ?_, fun undropped => ?_⟩
  · rintro raising rfl
    exact sensed (exec_openSenseChange_opens raising) ⟨rfl, rfl, rfl⟩
  · rintro held rfl
    exact sensed (exec_openSenseChange_lost held) (lost_rests s sh)
  · exact runs_setInputs (after := id) (exec_openSenseChange_other unraised kept)
  · rintro falling rfl
    exact sensed (exec_closedSenseChange_closes falling) ⟨rfl, rfl, rfl⟩
  · rintro down rfl
    exact sensed (exec_closedSenseChange_lost down) ⟨rfl, rfl, rfl⟩
  · exact runs_setInputs (after := id) (exec_closedSenseChange_other unseated kept)
  · exact timedOut (exec_raiseTimeout_raising raising)
  · exact if_neg unraised
  · exact timedOut (exec_dropTimeout_dropping dropping)
  · exact if_neg undropped

end Sys2Proof.Machine
end


section
/-! PROOF. The heat monitors, the fire inputs and the key switch (R107 to R114, R117). -/

namespace Sys2Proof.Machine

variable {c : Instr} {s t : State} {p : Projector}

/-! ### The heat monitors (R107 to R110) -/

/-- A command that leaves one heat monitor, and hands nothing to LNK before what comes `after`. -/
theorem runs_setHeat {m : HeatMonitor} {blocks : List Block} {effect : State → Prop} {after : State → State}
    (ran : exec c s = .next (after (t.setHeat p m)).finish) (before : changesOnly blocks s t)
    (links : ∀ l, Block.link l ∉ blocks) (does : effect (t.setHeat p m)) :
    runs c s [] (.heat p :: blocks) effect after := by
  have sub : blocks ⊆ everyLink ++ .heat p :: blocks := fun b at_b => by simp [at_b]
  exact ⟨_, ran, notified_nil fun l => before.links l (links l), does,
    (before.mono sub).andThen (setHeat_changes t p m) (by simp)⟩

/-- The reading of one gate, held until the next change. -/
abbrev State.withReading (s : State) (p : Projector) (reading : Byte) : State :=
  s.setInputs { s.inputs with heat := s.inputs.heat.set p reading.toNat }

theorem exec_heatReadingChange (p : Projector) (reading : Byte) (s : State) :
    exec (.heatReadingChange p reading) s =
      .next ((s.withReading p reading).setHeat p ((s.withReading p reading).heatCompared p)).finish := by
  rw [← compareHeat_eq]
  rfl

/-- R107: the stage timer of a monitor has reached a limit. -/
abbrev State.timerReached (s : State) (p : Projector) (limit : Nat) : Prop :=
  ∃ k, (s.heatOf p).elapsed = some k ∧ limit ≤ k

theorem heatStage1Expiry_idles (early : ¬((s.heatOf p).state = .stage1Wait ∧ s.timerReached p (s.heldDev .tH1))) :
    idles (.heatStage1Expiry p) s := by
  have same : s.stage1TimerTest p = s :=
    (stage1TimerTest_eq s p).trans (if_neg (mt (overdue_iff s p _ _).mp early))
  exact congrArg State.completed same

theorem dousedWaitExpiry_idles (early : ¬((s.heatOf p).state = .dousedWait ∧ s.timerReached p (s.heldDev .tH2))) :
    idles (.dousedWaitExpiry p) s := by
  have same : s.dousedTimerTest p = s :=
    (dousedTimerTest_eq s p).trans (if_neg (mt (overdue_iff s p _ _).mp early))
  exact congrArg State.completed same

/-- R108: the first stage acts: HEAT_STAGE1, and the channel is made safe after. -/
theorem heatStage1Expiry_acts (waits : (s.heatOf p).state = .stage1Wait)
    (reached : s.timerReached p (s.heldDev .tH1)) :
    runs (.heatStage1Expiry p) s
      [s.noticeNow .heatStage1 p.code
        [byte (s.inputs.heat.get p), byte (s.heatOf p).peak, byte (s.held p .heatThreshold)]] [.heat p]
      (fun t => t.heatOf p = { s.heatOf p with state := .dousedWait, elapsed := some 0 })
      (fun t => t.makeSafe p .heat) := by
  let m : HeatMonitor := { s.heatOf p with state := .dousedWait, elapsed := some 0 }
  have acts : s.stage1TimerTest p = s.heatStage1 p :=
    (stage1TimerTest_eq s p).trans (if_pos ((overdue_iff s p _ _).mpr ⟨waits, reached⟩))
  have record : (s.setHeat p m).heatOf p = m := State.heatOf_setHeat_self s p m
  have staged : s.heatStage1 p = ((s.setHeat p m).notify .heatStage1 p.code
      [byte (s.inputs.heat.get p), byte (s.heatOf p).peak, byte (s.held p .heatThreshold)]).makeSafe p .heat := by
    change ((s.setHeat p m).notify .heatStage1 p.code
      [byte (s.inputs.heat.get p), byte ((s.setHeat p m).heatOf p).peak, byte (s.held p .heatThreshold)]).makeSafe p
        .heat = _
    rw [record]
  refine ⟨_, congrArg State.completed (acts.trans staged), ?_, record, ?_⟩
  · exact (notified_notify _ _ _ _).before (fun _ => rfl) rfl
  · exact ((setHeat_changes s p m).mono (by simp)).andThen (notify_changes _ _ _ _) (by simp)

/-- R109: the monitor trips, and its gate is a fire source after. -/
theorem dousedWaitExpiry_acts (waits : (s.heatOf p).state = .dousedWait)
    (reached : s.timerReached p (s.heldDev .tH2)) :
    runs (.dousedWaitExpiry p) s [] [.heat p]
      (fun t => t.heatOf p = { s.heatOf p with state := .tripped, elapsed := none })
      (fun t => t.fireSource (Source.heat p)) := by
  have trips : s.dousedTimerTest p = s.heatTrips p :=
    (dousedTimerTest_eq s p).trans (if_pos ((overdue_iff s p _ _).mpr ⟨waits, reached⟩))
  exact runs_setHeat (t := s) (m := { s.heatOf p with state := .tripped, elapsed := none })
    (congrArg State.completed trips) (changesOnly_refl _ s) (by simp) (State.heatOf_setHeat_self s p _)

/-! ### The fire sources (R112, R113) -/

theorem fireSource_clear (clear : s.fire.lockout = false) (y : Source) : s.fireSource y = s.fireEntry y :=
  if_neg (Bool.eq_false_iff.mp clear)

theorem fireSource_known (locked : s.fire.lockout = true) {y : Source} (known : y ∈ s.fire.recorded) :
    s.fireSource y = s :=
  (if_pos locked).trans (if_pos (List.contains_iff_mem.mpr known))

theorem fireSource_added (locked : s.fire.lockout = true) {y : Source} (added : y ∉ s.fire.recorded) :
    s.fireSource y = (s.setFire { s.fire with recorded := s.fire.recorded ++ [y] }).route
      (s.noticeNow .fire y.code ([1, Source.setByte (s.fire.recorded ++ [y])] ++ s.fireHeat y)) := by
  have heat : (s.setFire { s.fire with recorded := s.fire.recorded ++ [y] }).fireHeat y = s.fireHeat y := by
    cases y <;> rfl
  rw [← heat]
  exact (if_pos locked).trans (if_neg (mt List.contains_iff_mem.mp added))

/-- Settles O43: a reading, an expiry or a tenth leaves one monitor; a fire input or the key leaves the inputs, and a
source acts by the lockout and the record. -/
theorem heatAndFireInputs : Obligations.HeatAndFireInputs := by
  refine ⟨fun p reading s => ?_, fun x on s => ⟨?_, ?_, ?_, fun y => ⟨?_, ?_, ?_⟩⟩⟩
  · intro m h n reached
    have reads : (s.withReading p reading).inputs.heat.get p = n := Pair.get_set_self _ _ _
    refine ⟨?_, heatStage1Expiry_idles, heatStage1Expiry_acts, dousedWaitExpiry_idles, dousedWaitExpiry_acts, ?_⟩
    · refine runs_setHeat (t := s.withReading p reading) (after := id) (exec_heatReadingChange p reading s)
        (setInputs_changes s _) (by simp) ⟨rfl, ?_⟩
      rw [State.heatOf_setHeat_self, State.heatCompared, reads]
      rfl
    · exact runs_setHeat (t := s) (after := id) rfl (changesOnly_refl _ s) (by simp) (State.heatOf_setHeat_self s p _)
  · exact runs_setInputs (after := fun t => t.fireSource (Source.input x)) rfl
  · exact runs_setInputs (after := id) rfl
  · exact runs_setInputs (after := id) rfl
  · exact fun clear => fireSource_clear clear y
  · exact fun locked known => fireSource_known locked known
  · intro locked added t all
    have at_t : t = _ := fireSource_added locked added
    rw [at_t]
    refine ⟨rfl, (notified_route _ _).before (fun _ => rfl) rfl, ?_⟩
    exact ((setFire_changes s _).mono (by simp)).andThen (route_changes _ _) (by simp)

end Sys2Proof.Machine
end


section
/-! PROOF. FIRE_RESET: its checks in order, and the end of the lockout (R115, R116, R131, R164). -/

namespace Sys2Proof.Machine

variable {l : Connector} {s : State}

/-! ### The end of the lockout (R116, R131, R164) -/

namespace State

/-- R116: the state out of the lockout, before FIRE_CLEARED. -/
abbrev outOfLockout (s : State) : State :=
  ((((s.setFire ⟨false, none, [], none, false⟩).calmHeat .a).calmHeat .b).setLights s.lights.endEmergency).setProg
    { s.prog with state := s.showAfterFire }

theorem outOfLockout_changes (s : State) :
    changesOnly [.fire, .heat .a, .heat .b, .lights, .prog] s s.outOfLockout :=
  (((((setFire_changes s _).mono (by simp)).andThen (setHeat_changes _ .a _) (by simp)).andThen
    (setHeat_changes _ .b _) (by simp)).andThen (setLights_changes _ _) (by simp)).andThen (setProg_changes _ _)
    (by simp)

theorem heatOf_outOfLockout (s : State) (p : Projector) :
    s.outOfLockout.heatOf p = { s.heatOf p with state := .normal, elapsed := none } := by cases p <;> rfl

theorem showAfterFire_eq (s : State) :
    s.showAfterFire = if s.plan.entries = [] ∨ s.exhausted = true then .ended else .stalled := by
  simp only [showAfterFire, Bool.or_eq_true, List.isEmpty_iff]

/-- R116: the FIRE_CLEARED of a fire record. -/
abbrev clearedNotice (s : State) : Notice :=
  s.noticeNow .fireCleared (firstCode s.fire.first) [Source.setByte s.fire.recorded]

/-- R41, R116: with every motor off, the end of the lockout brings no picture. -/
theorem fireCleared_eq (still : ∀ p, (s.chanOf p).state.running = false) :
    s.fireCleared = s.outOfLockout.route s.clearedNotice := by
  have silent : (s.outOfLockout.conditionsReported .a).conditionsReported .b = s.outOfLockout := by
    have calm (p : Projector) : (s.outOfLockout.chanOf p).state.running = false := still p
    rw [conditionsReported_still (calm .a), conditionsReported_still (calm .b)]
  have sent : s.fireCleared = ((s.outOfLockout.conditionsReported .a).conditionsReported .b).notify .fireCleared
      (firstCode s.fire.first) [Source.setByte s.fire.recorded] := rfl
  rw [sent, silent]
  rfl

end State

/-! ### The checks (R115) -/

theorem fireReset_reaches (h : heard l .h s) (body : List Byte) :
    requestAnswer l .fireReset (s.takeSlot l body) = fireResetAnswer (s.takeSlot l body) := by
  change screen l (some ()) houseOnly (fun _ => fireResetAnswer) (s.takeSlot l body) = _
  exact screen_passes (role := .h) ((binding_takeSlot l body s l).trans h.1) rfl

theorem fireResetAnswer_clear (clear : s.fire.lockout = false) : fireResetAnswer s = ⟨s, .ok, fireData s⟩ := by
  unfold fireResetAnswer
  rw [clear]
  rfl

section Locked

variable (locked : s.fire.lockout = true)

include locked

theorem fireResetAnswer_keyOff (off : s.inputs.key = false) : fireResetAnswer s = s.answer .keyOff := by
  unfold fireResetAnswer
  rw [locked, off]
  rfl

variable (on : s.inputs.key = true)

include on

theorem fireResetAnswer_active (active : s.sourcesActive ≠ []) :
    fireResetAnswer s = ⟨s, .sourceActive, fireData s⟩ := by
  unfold fireResetAnswer
  cases sources : s.sourcesActive with
  | nil => exact absurd sources active
  | cons x rest =>
    rw [locked, on]
    rfl

theorem fireResetAnswer_clears (quiet : s.sourcesActive = []) (still : ∀ p, (s.chanOf p).state.running = false) :
    fireResetAnswer s = ⟨s.outOfLockout.route s.clearedNotice, .ok, [0, 0xFF, 0, 0]⟩ := by
  have data : fireData (s.outOfLockout.route s.clearedNotice) = [0, 0xFF, 0, Source.setByte s.sourcesActive] := rfl
  unfold fireResetAnswer
  rw [locked, on, quiet, State.fireCleared_eq still]
  rw [quiet] at data
  exact congrArg (Answer.mk _ .ok) data

end Locked

/-- Settles O45: the checks in order; once they are met, R112's law leaves every motor off, so that the reports of the
end of the lockout are silent. -/
theorem fireResets : Obligations.FireResets := by
  intro l s h active first data
  have reaches := fireReset_reaches h (requestBody .fireReset)
  refine ⟨fun clear => ?_, fun locked off => ?_, fun locked on sources => ?_, fun locked on quiet law => ?_⟩
  · exact repliesOnly_of h.2 (reaches.trans (fireResetAnswer_clear (s := s.takeSlot l _) clear))
  · exact repliesOnly_of h.2 (reaches.trans (fireResetAnswer_keyOff (s := s.takeSlot l _) locked off))
  · exact repliesOnly_of h.2 (reaches.trans (fireResetAnswer_active (s := s.takeSlot l _) locked on sources))
  · let w := s.takeSlot l (requestBody .fireReset)
    have still : ∀ p, (w.chanOf p).state.running = false := ((boothLaw_iff s).mp law).motors locked
    have cleared := w.outOfLockout_changes
    have told : notified [w.clearedNotice] w (w.outOfLockout.route w.clearedNotice) :=
      (notified_route _ _).before (fun m => cleared.links m (by simp)) (cleared .routing (by simp))
    refine grants_of (after := id) h.2 _ (reaches.trans (fireResetAnswer_clears (s := w) locked on quiet still)) told
      ⟨rfl, State.heatOf_outOfLockout w, rfl, ?_⟩ ((cleared.mono (by simp)).andThen (route_changes _ _) (by simp))
    exact congrArg (fun x => { s.prog with state := x }) s.showAfterFire_eq

end Sys2Proof.Machine
end

section
/-! PROOF. Lighting actions, the break and the restore (R121, R126, R127, R130), and LIGHTS (R123). -/

namespace Sys2Proof.Machine

/-! ### One group of the lights, and the four in turn -/

namespace Lighting

variable (x : Lighting) (g : Group) (clock level fade : Nat)

/-- R121: a group's record changed, and the LIGHTS_DONE that the change brings. -/
def change (f : GroupRec → GroupRec) (told : GroupRec → List Notice) (g : Group) (x : Lighting) : Lighting :=
  { x.setGroup g (f (x.groupAt g)) with out := x.out ++ told (x.groupAt g) }

theorem change_if (c : Prop) [Decidable c] (f : GroupRec → GroupRec) (told : GroupRec → List Notice) :
    (if c then x.change f told g else x) =
      x.change (fun r => if c then f r else r) (fun r => if c then told r else []) g := by
  by_cases h : c
  · simp only [h, if_true]
  · simp only [h, if_false, change, List.append_nil]
    cases g <;> rfl

theorem groupAt_changes (f : Group → GroupRec → GroupRec) (told : Group → GroupRec → List Notice) :
    (Group.all.foldl (fun y g => y.change (f g) (told g) g) x).groupAt g = f g (x.groupAt g) := by cases g <;> rfl

/-- R133: the notices of the groups come in the order HOUSE, STAGE, AISLE, WORK. -/
theorem out_changes (f : Group → GroupRec → GroupRec) (told : Group → GroupRec → List Notice) :
    (Group.all.foldl (fun y g => y.change (f g) (told g) g) x).out =
      x.out ++ Group.all.flatMap fun g => told g (x.groupAt g) := by
  simp only [Group.all, List.foldl_cons, List.foldl_nil, List.flatMap_cons, List.flatMap_nil, List.append_nil,
    ← List.append_assoc]
  rfl

end Lighting

/-- A notice for each member of a list that passes a test. -/
theorem flatMap_told {α β : Type} (test : α → Bool) (notice : α → β) (l : List α) :
    (l.flatMap fun a => if test a then [notice a] else []) = (l.filter test).map notice := by
  induction l with
  | nil => rfl
  | cons a rest ih => cases passes : test a <;> simp [passes, ih]

/-! ### An action, the break and the restore (R121, R126, R127) -/

theorem FadeSource.keptSave_eq (source : FadeSource) (save : Option Nat) :
    source.keptSave save = if source = .brk ∨ source = .restore then save else Option.none := by simp [keptSave]

/-- R126: a group that the break changes. -/
def GroupRec.broken (r : GroupRec) (level fade : Nat) : GroupRec :=
  { r with save := some (r.save.getD r.inForce) }.applied level fade .brk

/-- R127: a group after the restore. -/
def GroupRec.restored (r : GroupRec) (fade : Nat) : GroupRec :=
  match r.save with
  | some n => { r.applied n fade .restore with save := none }
  | none => r

namespace Lighting

variable (x : Lighting) (g : Group) (clock level fade : Nat)

theorem actOn_eq (source : FadeSource) :
    x.actOn clock level fade source g = x.change (fun r => r.applied level fade source)
      (fun r => if fade = 0 then [lightsDone clock g (r.applied level fade source)] else []) g := by
  unfold actOn change
  dsimp only
  split
  · rfl
  · rw [List.append_nil]
    rfl

theorem breakOn_eq :
    x.breakOn clock level fade g = x.change (fun r => r.broken level fade)
      (fun r => if fade = 0 then [lightsDone clock g (r.broken level fade)] else []) g := by
  rw [breakOn, actOn_eq]
  cases g <;> rfl

theorem restoreOn_eq :
    x.restoreOn clock fade g = x.change (fun r => r.restored fade)
      (fun r => if r.save.isSome = true ∧ fade = 0 then [lightsDone clock g (r.restored fade)] else []) g := by
  unfold restoreOn GroupRec.restored
  split
  · next none =>
    simp only [change, none, Option.isSome_none, Bool.false_eq_true, false_and, if_false, List.append_nil]
    cases g <;> rfl
  · next n some =>
    simp only [actOn_eq, change, some, Option.isSome_some, true_and]
    cases g <;> rfl

section Clear

variable {x} (clear : x.emergency = false)

include clear

theorem act_eq (mask : BitVec 4) (source : FadeSource) :
    x.act clock mask level fade source = Group.all.foldl (fun y g => y.change
      (fun r => if mask.getLsbD g.index = true then r.applied level fade source else r)
      (fun r => if mask.getLsbD g.index = true then
        if fade = 0 then [lightsDone clock g (r.applied level fade source)] else [] else []) g) x := by
  simp only [act, clear, Bool.false_eq_true, if_false, actOn_eq, change_if]

theorem breakAction_eq (mask : BitVec 4) :
    x.breakAction clock mask level fade = Group.all.foldl (fun y g => y.change
      (fun r => if mask.getLsbD g.index = true then r.broken level fade else r)
      (fun r => if mask.getLsbD g.index = true then
        if fade = 0 then [lightsDone clock g (r.broken level fade)] else [] else []) g) x := by
  simp only [breakAction, clear, Bool.false_eq_true, if_false, breakOn_eq, change_if]

theorem restoreAction_eq :
    x.restoreAction clock fade = Group.all.foldl (fun y g => y.change (fun r => r.restored fade)
      (fun r => if r.save.isSome = true ∧ fade = 0 then [lightsDone clock g (r.restored fade)] else []) g) x := by
  simp only [restoreAction, clear, Bool.false_eq_true, if_false, restoreOn_eq]

theorem groupAt_act (mask : BitVec 4) (source : FadeSource) :
    (x.act clock mask level fade source).groupAt g =
      if mask.getLsbD g.index = true then (x.groupAt g).applied level fade source else x.groupAt g := by
  rw [act_eq clock level fade clear, groupAt_changes]

theorem groupAt_breakAction (mask : BitVec 4) :
    (x.breakAction clock mask level fade).groupAt g =
      if mask.getLsbD g.index = true then (x.groupAt g).broken level fade else x.groupAt g := by
  rw [breakAction_eq clock level fade clear, groupAt_changes]

theorem groupAt_restoreAction : (x.restoreAction clock fade).groupAt g = (x.groupAt g).restored fade := by
  rw [restoreAction_eq clock fade clear, groupAt_changes]

/-- R121: at a fade of 0, LIGHTS_DONE for each group of the mask. -/
theorem out_act (mask : BitVec 4) (source : FadeSource) :
    (x.act clock mask level fade source).out = x.out ++
      (Group.all.filter fun g => mask.getLsbD g.index && decide (fade = 0)).map fun g =>
        ⟨.lightsDone, g.code, clock, [byte level, source.code]⟩ := by
  rw [act_eq clock level fade clear, out_changes, ← flatMap_told]
  by_cases now : fade = 0 <;> simp [now, lightsDone, GroupRec.applied]

theorem out_breakAction (mask : BitVec 4) :
    (x.breakAction clock mask level fade).out = x.out ++
      (Group.all.filter fun g => mask.getLsbD g.index && decide (fade = 0)).map fun g =>
        ⟨.lightsDone, g.code, clock, [byte level, 5]⟩ := by
  rw [breakAction_eq clock level fade clear, out_changes, ← flatMap_told]
  by_cases now : fade = 0 <;> simp [now, lightsDone, GroupRec.broken, GroupRec.applied, FadeSource.code]

theorem out_restoreAction :
    (x.restoreAction clock fade).out = x.out ++
      (Group.all.filter fun g => (x.groupAt g).save.isSome && decide (fade = 0)).map fun g =>
        ⟨.lightsDone, g.code, clock, [byte ((x.groupAt g).save.getD 0), 6]⟩ := by
  rw [restoreAction_eq clock fade clear, out_changes, ← flatMap_told]
  refine congrArg (x.out ++ ·) (List.flatMap_congr fun g _ => ?_)
  cases saved : (x.groupAt g).save with
  | none => simp
  | some n =>
    by_cases now : fade = 0 <;>
      simp [now, lightsDone, GroupRec.restored, saved, GroupRec.applied, FadeSource.code]

end Clear

end Lighting

/-! ### LIGHTS (R123) -/

theorem lightsHeld_iff (x : Lighting) (mask : BitVec 4) (level : Nat) :
    lightsHeld x mask level = true ↔ ∀ g : Group, mask.getLsbD g.index = true →
      (x.groupAt g).level = level ∧ (x.groupAt g).active = false ∧ (x.groupAt g).save = none := by
  have all (g : Group) : g ∈ Group.all := by cases g <;> decide
  simp [lightsHeld, all, and_assoc, imp_iff_not_or]

section Lights

variable {l : Connector} {r : Role} {s : State} {x : ActionForm}

theorem okOr_takeAction (x : ActionForm) :
    okOr (takeAction x).adjusted = if x.mask.toNat ≤ 15 ∧ x.fade.toNat ≤ 600 then .ok else .adjusted := by
  have kept := takeAction_kept x
  cases adjusted : (takeAction x).adjusted with
  | false => exact (if_pos (kept.mp adjusted)).symm
  | true => exact (if_neg fun inRange => by simp [kept.mpr inRange] at adjusted).symm

theorem lightsAnswer_emergency (locked : s.lights.emergency = true) :
    lightsAnswer x.mask x.level x.fade s = s.answer .fireLockout := if_pos locked

theorem lightsAnswer_eq (clear : s.lights.emergency = false) :
    lightsAnswer x.mask x.level x.fade s =
      let t := if lightsHeld s.lights (heldAction x).mask (heldAction x).level then s
        else s.applyAction (some (heldAction x)) .request
      ⟨t.freeUsed, if x.mask.toNat ≤ 15 ∧ x.fade.toNat ≤ 600 then .ok else .adjusted, lightsData t⟩ := by
  rw [← takeAction_val, ← okOr_takeAction]
  unfold lightsAnswer
  rw [clear]
  rfl

/-- R123: LIGHTS where what it asks for is held. -/
theorem lightsAnswer_held (clear : s.lights.emergency = false)
    (held : lightsHeld s.lights (heldAction x).mask (heldAction x).level = true) :
    lightsAnswer x.mask x.level x.fade s =
      ⟨s.freeUsed, if x.mask.toNat ≤ 15 ∧ x.fade.toNat ≤ 600 then .ok else .adjusted, lightsData s⟩ := by
  rw [lightsAnswer_eq clear, held]
  rfl

/-- R123: LIGHTS as an action on its groups. -/
theorem lightsAnswer_acts (clear : s.lights.emergency = false)
    (other : ¬lightsHeld s.lights (heldAction x).mask (heldAction x).level = true) :
    lightsAnswer x.mask x.level x.fade s =
      let t := s.applyAction (some (heldAction x)) .request
      ⟨t.freeUsed, if x.mask.toNat ≤ 15 ∧ x.fade.toNat ≤ 600 then .ok else .adjusted, lightsData t⟩ := by
  rw [lightsAnswer_eq clear, if_neg other]

end Lights

/-- Settles O47: the groups one by one under an action, the break and the restore; and LIGHTS by its cases. -/
theorem lightsActedAndRestored : Obligations.LightsActedAndRestored := by
  refine ⟨fun mask level fade source s => ⟨fun locked => ?_, fun clear => ?_, fun l r m v f h => ?_⟩,
    fun mask level fade clock x => ⟨fun locked => ?_, fun clear => ?_⟩⟩
  · exact if_pos locked
  · refine ⟨fun g => ?_, (s.lights.kept_act _ _ _ _ _).1.trans clear, Lighting.out_act _ _ _ clear _ _⟩
    rw [Lighting.groupAt_act _ _ _ _ clear, GroupRec.applied, FadeSource.keptSave_eq]
    rfl
  · intro bits tenths code done data
    let form : ActionForm := ⟨m, v, f⟩
    let w := s.takeSlot l (requestBody (.lights m v f))
    have reaches : requestAnswer l (.lights m v f) w = lightsAnswer m v f w :=
      anyRequest_passes (requestBody (.lights m v f)) h (lightsAnswer m v f)
    have held_iff : lightsHeld s.lights bits v.toNat = true ↔ done := lightsHeld_iff _ _ _
    refine ⟨fun locked => ?_, fun clear held => ?_, fun clear other => ?_⟩
    · exact repliesOnly_of h.2 (reaches.trans (lightsAnswer_emergency (s := w) (x := form) locked))
    · exact grants_of (after := id) h.2 w.freeUsed
        (reaches.trans (lightsAnswer_held (s := w) (x := form) clear (held_iff.mpr held)))
        (notified_nil fun _ => rfl) trivial ((freeUsed_changes w).mono (by simp))
    · exact grants_of (after := id) h.2 (w.applyAction (some (heldAction form)) .request).freeUsed
        (reaches.trans (lightsAnswer_acts (s := w) (x := form) clear (mt held_iff.mp other)))
        (notified_nil fun _ => rfl) rfl
        (((setLights_changes w _).mono (by simp)).andThen (freeUsed_changes _) (by simp))
  · exact ⟨if_pos locked, if_pos locked⟩
  · refine ⟨fun g => ?_, fun g => ?_, (x.kept_breakAction _ _ _ _).1.trans clear,
      (x.kept_restoreAction _ _).1.trans clear, Lighting.out_breakAction _ _ _ clear _,
      Lighting.out_restoreAction _ _ clear⟩
    · exact Lighting.groupAt_breakAction _ _ _ _ clear _
    · rw [Lighting.groupAt_restoreAction _ _ _ clear]
      cases saved : (x.groupAt g).save with
      | none => simp only [GroupRec.restored, saved]
      | some n => simp only [GroupRec.restored, saved]; rfl

end Sys2Proof.Machine
end

section
/-! PROOF. DIMMER_CYCLE_START: the fade steps (R122, R133), the bus at a cycle start (R136, R145), and the packets that
a cycle plans (R138, R139). -/

namespace Sys2Proof.Machine

/-! ### The fade steps (R122, R133) -/

theorem GroupRec.stepped_eq (r : GroupRec) :
    r.stepped =
      if r.active = false then r
      else if r.k + 1 < r.n then { r with k := r.k + 1, level := fadeLevel r.start r.target (r.k + 1) r.n }
      else { r with k := r.k + 1, level := r.target, active := false } := by
  unfold GroupRec.stepped
  cases r.active <;> rfl

/-- R133: LIGHTS_DONE of a fade that ends carries its target and its source. -/
theorem lightsDone_stepped (clock : Nat) (g : Group) {r : GroupRec} (ends : r.ends = true) :
    lightsDone clock g r.stepped = ⟨.lightsDone, g.code, clock, [byte r.target, r.source.code]⟩ := by
  rw [GroupRec.ends, GroupRec.stepped_eq] at ends
  rw [GroupRec.stepped_eq]
  split at ends
  · next still => simp [still] at ends
  · split at ends
    · simp at ends
    · next fades last =>
      rw [if_neg fades, if_neg last]
      rfl

theorem Lighting.groupAt_setGroup_ne (x : Lighting) {g g' : Group} (r : GroupRec) (other : g' ≠ g) :
    (x.setGroup g r).groupAt g' = x.groupAt g' := groupOf_set_ne _ _ other

namespace State

variable (s : State)

theorem lights_fadeStepOn (g : Group) :
    (s.fadeStepOn g).lights = s.lights.setGroup g (s.lights.groupAt g).stepped := by
  unfold fadeStepOn
  dsimp only
  split <;> rfl

/-- R122: the lights after the fade step of a cycle. -/
theorem lights_fadeStep :
    s.fadeStep.lights = Group.all.foldl (fun x g => x.setGroup g (x.groupAt g).stepped) s.lights :=
  (List.foldl_hom State.lights fun t g => (lights_fadeStepOn t g).symm).symm

theorem groupAt_fadeStep (g : Group) : s.fadeStep.lights.groupAt g = (s.lights.groupAt g).stepped := by
  rw [lights_fadeStep]
  cases g <;> rfl

theorem levels_fadeStep :
    s.fadeStep.lights.levels =
      ⟨(s.lights.groupAt .house).stepped.level, (s.lights.groupAt .stage).stepped.level,
        (s.lights.groupAt .aisle).stepped.level, (s.lights.groupAt .work).stepped.level⟩ := by
  rw [lights_fadeStep]
  rfl

/-- R133: the LIGHTS_DONE of a group at a cycle start. -/
abbrev fadeNotice (g : Group) : List Notice :=
  if (s.lights.groupAt g).ends then
    [s.noticeNow .lightsDone g.code [byte (s.lights.groupAt g).target, (s.lights.groupAt g).source.code]]
  else []

theorem fadeStepOn_changes (g : Group) : changesOnly (everyLink ++ [.lights]) s (s.fadeStepOn g) := by
  unfold fadeStepOn
  dsimp only
  split
  · exact ((setLights_changes s _).mono (by simp)).andThen (route_changes _ _) (by simp)
  · exact (setLights_changes s _).mono (by simp)

theorem notified_fadeStepOn (g : Group) : notified (s.fadeNotice g) s (s.fadeStepOn g) := by
  unfold fadeStepOn fadeNotice
  dsimp only
  split
  · next ends =>
    rw [lightsDone_stepped _ _ ends]
    exact (notified_route _ _).before (fun _ => rfl) rfl
  · exact notified_nil fun _ => rfl

theorem fadeNotice_fadeStepOn {g g' : Group} (other : g' ≠ g) : (s.fadeStepOn g).fadeNotice g' = s.fadeNotice g' := by
  have clock : (s.fadeStepOn g).prog = s.prog := s.fadeStepOn_changes g .prog (by simp)
  unfold fadeNotice noticeNow
  rw [lights_fadeStepOn, Lighting.groupAt_setGroup_ne _ _ other, clock]

/-- R133: the LIGHTS_DONE of distinct groups, one after the other. -/
theorem notified_fadeStepOn_each {groups : List Group} (apart : groups.Nodup) :
    notified (groups.flatMap s.fadeNotice) s (groups.foldl (fun t g => t.fadeStepOn g) s) := by
  induction groups generalizing s with
  | nil => exact notified_nil fun _ => rfl
  | cons g rest ih =>
    obtain ⟨fresh, apart⟩ := List.nodup_cons.mp apart
    have same : rest.flatMap (s.fadeStepOn g).fadeNotice = rest.flatMap s.fadeNotice :=
      List.flatMap_congr fun g' member => s.fadeNotice_fadeStepOn fun eq => fresh (eq ▸ member)
    have later := ih (s.fadeStepOn g) apart
    rw [same] at later
    exact (s.notified_fadeStepOn g).append later (s.fadeStepOn_changes g .routing (by simp))

theorem notified_fadeStep :
    notified ((Group.all.filter fun g => (s.lights.groupAt g).ends).map fun g =>
      s.noticeNow .lightsDone g.code [byte (s.lights.groupAt g).target, (s.lights.groupAt g).source.code])
      s s.fadeStep := by
  rw [← flatMap_told]
  exact s.notified_fadeStepOn_each (by decide)

theorem fadeStep_changes : changesOnly (everyLink ++ [.lights]) s s.fadeStep :=
  List.foldlRecOn (motive := changesOnly (everyLink ++ [.lights]) s) Group.all _ (changesOnly_refl _ s)
    fun t before g _ => before.trans (t.fadeStepOn_changes g)

end State

/-! ### The bus at a cycle start (R136, R145) -/

theorem markerMessage_eq (cycle : Nat) : markerMessage cycle = [0xA0, byte cycle, -(0xA0 + byte cycle)] := by
  simp [markerMessage, busMessage, byteSum]

/-- R136, R145: the state of the bus in a cycle, from the state in which the cycle start finds it. -/
def BusState.atCycle (x : BusState) (breakEnded : Bool) : BusState :=
  match x with
  | .normal => .normal
  | .resetPending => .brk
  | .brk => if breakEnded = true then .enumerating else .brk
  | .enumerating => .enumerating

namespace Bus

variable (b : Bus) (now : Nat) (levels : Quad Nat)

/-- R136, R145: the state of the bus once the cycle has started. -/
abbrev stateAtCycle : BusState := b.state.atCycle b.breakEnded

/-- R136, R143: the cycle has an identify round. -/
abbrev roundAtCycle : Prop :=
  b.stateAtCycle = .enumerating ∨ (b.stateAtCycle = .normal ∧ (b.identify + 1) % 250 = 0)

/-- R139: the packets that a cycle in NORMAL plans at most. -/
abbrev cycleBudget : Nat := if (b.identify + 1) % 250 = 0 then 4 else 6

/-- R136, R145: the bus before the cycle is planned. -/
theorem cycleBegins_eq :
    b.cycleBegins now levels =
      let breaks := b.state = .resetPending
      { b with
        state := if breaks then .brk else b.state
        breakEnded := if breaks then false else b.breakEnded
        breakDue := if breaks then now + 500 else b.breakDue
        cycle := (b.cycle + 1) % 256
        parked := if breaks then 0 else b.parked
        withheld := if breaks then [] else b.withheld
        snapshot := levels
        plan := []
        roundDue := false
        window := none
        packs := b.packs.map fun x =>
          let y : Pack := if breaks then { x with isPresent := false, misses := 0, sent := none } else x
          { y with since := min (x.since + 1) 255 } } := by
  by_cases breaks : b.state = .resetPending
  · simp only [cycleBegins, beginBreak, breaks, if_true, List.map_map]
    rfl
  · simp only [cycleBegins, breaks, if_false]

/-- R136, R139: a bus out of its break, once the cycle is planned. -/
theorem cyclePlanned_eq (fresh : b.state ≠ .resetPending) (none : b.roundDue = false) :
    b.cyclePlanned =
      { b with
        state := b.stateAtCycle
        rounds := if b.state = .brk ∧ b.breakEnded = true then 0 else b.rounds
        identify := if b.stateAtCycle = .normal then (b.identify + 1) % 250 else b.identify
        plan := if b.stateAtCycle = .normal then b.chosenPacks b.cycleBudget else b.plan
        pointer := if b.stateAtCycle = .normal then (b.chosenPacks b.cycleBudget).getLastD b.pointer else b.pointer
        roundDue := decide b.roundAtCycle
        out := if b.stateAtCycle = .brk then [] else
          if b.roundAtCycle then [markerMessage b.cycle, identifyCall] else [markerMessage b.cycle] } := by
  obtain ⟨state, breakEnded, _, _, _, identify⟩ := b
  subst none
  cases state with
  | resetPending => exact absurd rfl fresh
  | enumerating => rfl
  | brk => cases breakEnded <;> rfl
  | normal =>
    by_cases round : (identify + 1) % 250 = 0 <;>
      simp [cyclePlanned, leaveBreak, planPackets, stateAtCycle, roundAtCycle, cycleBudget, BusState.atCycle, round,
        Config.identifyPeriod, Config.roundBudget, Config.fullBudget]

/-- R145: a pending reset has begun its break once the cycle begins. -/
theorem cycleBegins_fresh : (b.cycleBegins now levels).state ≠ .resetPending := by
  rw [cycleBegins_eq]
  dsimp only
  split
  · exact nofun
  · next other => exact other

theorem stateAtCycle_cycleBegins : (b.cycleBegins now levels).stateAtCycle = b.stateAtCycle := by
  rw [cycleBegins_eq]
  unfold stateAtCycle
  cases state : b.state <;> rfl

/-- R136: a break that has ended before the cycle is no pending reset's. -/
theorem breakOver_cycleBegins :
    ((b.cycleBegins now levels).state = .brk ∧ (b.cycleBegins now levels).breakEnded = true) ↔
      (b.state = .brk ∧ b.breakEnded = true) := by
  rw [cycleBegins_eq]
  cases state : b.state <;> simp

/-- R136, R139, R145: the bus of a cycle. -/
theorem cycleStarted_eq :
    let c := b.cycleBegins now levels
    c.cyclePlanned =
      { c with
        state := b.stateAtCycle
        rounds := if b.state = .brk ∧ b.breakEnded = true then 0 else b.rounds
        identify := if b.stateAtCycle = .normal then (b.identify + 1) % 250 else b.identify
        plan := if b.stateAtCycle = .normal then c.chosenPacks b.cycleBudget else []
        pointer := if b.stateAtCycle = .normal then (c.chosenPacks b.cycleBudget).getLastD b.pointer else b.pointer
        roundDue := decide b.roundAtCycle
        out := if b.stateAtCycle = .brk then [] else
          if b.roundAtCycle then [markerMessage c.cycle, identifyCall] else [markerMessage c.cycle] } := by
  intro c
  have kept : c.rounds = b.rounds ∧ c.identify = b.identify ∧ c.plan = [] ∧ c.pointer = b.pointer ∧
      c.roundDue = false := by
    dsimp only [c]
    rw [cycleBegins_eq]
    exact ⟨rfl, rfl, rfl, rfl, rfl⟩
  obtain ⟨rounds, identify, plan, pointer, roundDue⟩ := kept
  have state : c.stateAtCycle = b.stateAtCycle := b.stateAtCycle_cycleBegins now levels
  rw [c.cyclePlanned_eq (b.cycleBegins_fresh now levels) roundDue]
  simp only [roundAtCycle, cycleBudget, state, rounds, identify, plan, pointer, c, breakOver_cycleBegins]

/-! ### The packets planned (R138, R139) -/

/-- R139: the place of an address in the round-robin order after a pointer. -/
abbrev turnOf (pointer a : Nat) : Nat := (a + 14 - pointer) % 15

/-- R138, R139: the pack at an address is PRESENT, and its level sent is absent, not P, or 50 cycles old. -/
abbrev needsAt (b : Bus) (a : Nat) : Prop :=
  ∃ x, b.packAt a = some x ∧ x.isPresent = true ∧
    (x.sent ≠ some (match x.group with | none => 0 | some g => groupOf b.snapshot g * x.top / 255) ∨ 50 ≤ x.since)

theorem needsAt_iff (a : Nat) : (b.packAt a).any b.needsPacket = true ↔ b.needsAt a := by
  have needs (x : Pack) : b.needsPacket x = true ↔
      x.isPresent = true ∧ (x.sent ≠ some (b.packLevel x) ∨ 50 ≤ x.since) := by
    simp only [needsPacket, Bool.and_eq_true, Bool.or_eq_true, decide_eq_true_iff]
    rfl
  unfold needsAt
  cases b.packAt a with
  | none => simp
  | some y =>
    simp only [Option.any_some, needs, Option.some.injEq, exists_eq_left']
    rfl

theorem turnOf_scan {pointer i : Nat} (range : pointer ≤ 15) (turn : i < 15) :
    turnOf pointer ((pointer + i) % 15 + 1) = i := by
  unfold turnOf
  omega

theorem scan_turnOf {pointer a : Nat} (range : pointer ≤ 15) (low : 1 ≤ a) (high : a ≤ 15) :
    (pointer + turnOf pointer a) % 15 + 1 = a := by
  unfold turnOf
  omega

section Scan

variable {b} (range : b.pointer ≤ 15)

include range

theorem mem_scanOrder {a : Nat} : a ∈ b.scanOrder ↔ 1 ≤ a ∧ a ≤ 15 := by
  simp only [scanOrder, List.mem_map, List.mem_range, Config.packLimit]
  constructor
  · rintro ⟨i, -, rfl⟩
    omega
  · rintro ⟨low, high⟩
    exact ⟨turnOf b.pointer a, Nat.mod_lt _ (by decide), scan_turnOf range low high⟩

theorem scanOrder_sorted : b.scanOrder.Pairwise fun a c => turnOf b.pointer a < turnOf b.pointer c := by
  refine List.pairwise_map.mpr (List.pairwise_lt_range.imp_of_mem fun first second before => ?_)
  rw [List.mem_range, Config.packLimit] at first second
  rwa [Config.packLimit, turnOf_scan range first, turnOf_scan range second]

end Scan

/-- The members of a sorted list beyond its first n come after those. -/
theorem after_take {α : Type} {before : α → α → Prop} {l : List α} (sorted : l.Pairwise before) {n : Nat}
    {a : α} (member : a ∈ l) (out : a ∉ l.take n) : (l.take n).length = n ∧ ∀ c ∈ l.take n, before c a := by
  rw [← List.take_append_drop n l] at sorted member
  have later : a ∈ l.drop n := (List.mem_append.mp member).resolve_left out
  refine ⟨?_, fun c first => (List.pairwise_append.mp sorted).2.2 c first a later⟩
  have longer : 0 < (l.drop n).length := List.length_pos_of_mem later
  rw [List.length_drop] at longer
  exact List.length_take_of_le (by omega)

/-- R138, R139: the plan of a bus holds the first packs in need, in the order after this pointer, within a budget. -/
abbrev PlansFrom (pointer budget : Nat) (b : Bus) : Prop :=
  (∀ a ∈ b.plan, 1 ≤ a ∧ a ≤ 15 ∧ b.needsAt a) ∧ b.plan.length ≤ budget ∧
    b.plan.Pairwise (fun a c => turnOf pointer a < turnOf pointer c) ∧
    (∀ a, 1 ≤ a → a ≤ 15 → b.needsAt a → a ∉ b.plan →
      b.plan.length = budget ∧ ∀ c ∈ b.plan, turnOf pointer c < turnOf pointer a) ∧
    b.pointer = b.plan.getLastD pointer

theorem planPackets_plansFrom {b : Bus} (range : b.pointer ≤ 15) (budget : Nat) :
    (b.planPackets budget).PlansFrom b.pointer budget := by
  let inNeed := b.scanOrder.filter fun a => (b.packAt a).any b.needsPacket
  have member (a : Nat) : a ∈ inNeed ↔ (1 ≤ a ∧ a ≤ 15) ∧ b.needsAt a := by
    rw [List.mem_filter, mem_scanOrder range, needsAt_iff]
  have sorted : inNeed.Pairwise fun a c => turnOf b.pointer a < turnOf b.pointer c := (scanOrder_sorted range).filter _
  refine ⟨fun a planned => ?_, List.length_take_le _ _, sorted.sublist (List.take_sublist _ _),
    fun a low high needs out => ?_, rfl⟩
  · obtain ⟨⟨low, high⟩, needs⟩ := (member a).mp (List.mem_of_mem_take planned)
    exact ⟨low, high, needs⟩
  · exact after_take sorted ((member a).mpr ⟨⟨low, high⟩, needs⟩) out

end Bus

/-! ### DIMMER_CYCLE_START (R136) -/

namespace State

variable (s : State)

/-- R122, R136, R188: the state before the bus begins its cycle. -/
abbrev cycleFaded : State := ((s.passTo s.bus.cycleDue).promoteCycle).fadeStep

theorem promotedCycle_changes : changesOnly [.par, .motionCount] s (s.passTo s.bus.cycleDue).promoteCycle :=
  ((passTo_changes s _).mono (by simp)).andThen (setPar_changes _ _) (by simp)

theorem cycleFaded_changes : changesOnly (everyLink ++ [.lights, .par, .motionCount]) s s.cycleFaded :=
  (s.promotedCycle_changes.mono (by simp)).andThen (fadeStep_changes _) (by simp)

theorem par_cycleFaded : s.cycleFaded.par = { s.par with dev := s.par.dev.promote .nextCycle } := by
  have kept : s.cycleFaded.par = ((s.passTo s.bus.cycleDue).promoteCycle).par := fadeStep_changes _ .par (by simp)
  exact kept

theorem motionCount_cycleFaded : s.cycleFaded.motionCount = max s.motionCount s.bus.cycleDue := by
  have kept : s.cycleFaded.motionCount = ((s.passTo s.bus.cycleDue).promoteCycle).motionCount :=
    fadeStep_changes _ .motionCount (by simp)
  rw [kept, promoteCycle, motionCount_setPar, motionCount_passTo]

theorem notified_cycleFaded :
    notified ((Group.all.filter fun g => (s.lights.groupAt g).ends).map fun g =>
      s.noticeNow .lightsDone g.code [byte (s.lights.groupAt g).target, (s.lights.groupAt g).source.code])
      s s.cycleFaded := by
  have told := ((s.passTo s.bus.cycleDue).promoteCycle).notified_fadeStep
  exact told.before (fun l => s.promotedCycle_changes.links l (by simp)) (s.promotedCycle_changes .routing (by simp))

/-- R136: the bus after a cycle start. -/
theorem bus_cycleStart :
    s.cycleStart.bus =
      { (s.bus.cycleBegins (max s.motionCount s.bus.cycleDue) s.cycleFaded.lights.levels).cyclePlanned with
        cycleDue := s.bus.cycleDue + 200 } := by
  have bus : s.cycleFaded.bus = s.bus := s.cycleFaded_changes .bus (by simp)
  have at_bus : s.cycleStart.bus =
      { (s.cycleFaded.bus.cycleBegins (max s.motionCount s.bus.cycleDue) s.cycleFaded.lights.levels).cyclePlanned with
        cycleDue := s.cycleFaded.bus.cycleDue + 200 } := rfl
  rw [at_bus, bus]

/-- R139: in NORMAL a cycle start plans its packets from the pointer. -/
theorem cycleStart_plansFrom (normal : s.bus.state = .normal) (range : s.bus.pointer ≤ 15) :
    s.cycleStart.bus.PlansFrom s.bus.pointer s.bus.cycleBudget := by
  let c := s.bus.cycleBegins (max s.motionCount s.bus.cycleDue) s.cycleFaded.lights.levels
  have pointer : c.pointer = s.bus.pointer := by
    dsimp only [c]
    rw [Bus.cycleBegins_eq]
  have inCycle : s.bus.stateAtCycle = .normal := by rw [Bus.stateAtCycle, normal, BusState.atCycle]
  have plans : (c.planPackets s.bus.cycleBudget).PlansFrom c.pointer s.bus.cycleBudget :=
    Bus.planPackets_plansFrom (pointer ▸ range) _
  rw [s.bus_cycleStart, Bus.cycleStarted_eq, if_pos inCycle, if_pos inCycle, if_pos inCycle, ← pointer]
  exact plans

end State

/-- Settles O48: the fade steps group by group, the bus of the cycle as one record, and the plan as the first packs in
need of the scan. -/
theorem cyclesAndPacketsPlanned : Obligations.CyclesAndPacketsPlanned := by
  refine ⟨fun s => ?_, fun s normal range => ?_⟩
  · intro b now stepped ends cycle state breaks marker call round
    have stepped_eq (g : Group) : (s.lights.groupAt g).stepped = stepped g := GroupRec.stepped_eq _
    have ends_eq : (fun g => (s.lights.groupAt g).ends) = ends :=
      funext fun g => congrArg (fun r : GroupRec => (s.lights.groupAt g).active && !r.active) (stepped_eq g)
    have groups (g : Group) : s.cycleFaded.lights.groupAt g = stepped g :=
      (State.groupAt_fadeStep _ g).trans (stepped_eq g)
    have levels : s.cycleFaded.lights.levels =
        ⟨(stepped .house).level, (stepped .stage).level, (stepped .aisle).level, (stepped .work).level⟩ := by
      rw [← stepped_eq, ← stepped_eq, ← stepped_eq, ← stepped_eq]
      exact State.levels_fadeStep _
    have lights : s.cycleFaded.lights.emergency = s.lights.emergency ∧ s.cycleFaded.lights.out = s.lights.out := by
      rw [State.lights_fadeStep]
      exact ⟨rfl, rfl⟩
    have par : s.cycleStart.par = { s.par with dev := s.par.dev.promote .nextCycle } := s.par_cycleFaded
    have told := s.notified_cycleFaded
    rw [ends_eq] at told
    refine ⟨s.cycleStart, rfl, told, ⟨s.motionCount_cycleFaded, ?_, fun q => ?_, groups, lights.1, lights.2, ?_⟩,
      (cycleStart_inBus s).mono (by simp)⟩
    · rw [par]
    · rw [par]
      exact DevParams.get_promote _ _ q
    · rw [s.bus_cycleStart, Bus.cycleStarted_eq, Bus.cycleBegins_eq]
      refine ⟨rfl, rfl, rfl, rfl, levels, rfl, rfl, rfl, rfl, rfl, rfl, rfl, rfl, ?_, fun away => ?_⟩
      · have marker_eq : markerMessage cycle = marker := markerMessage_eq _
        rw [← marker_eq]
        rfl
      · exact ⟨if_neg away, if_neg away⟩
  · refine ⟨s.cycleStart.finish, rfl, ?_⟩
    have bus : s.cycleStart.finish.bus = s.cycleStart.bus := finish_changes _ .bus (by simp)
    rw [bus]
    exact s.cycleStart_plansFrom normal range

end Sys2Proof.Machine
end

section
/-! PROOF. What a command of the dimmer bus leaves: the bus, and the notices sent; and the entries of the pack table
(R137, R144). -/

namespace Sys2Proof.Machine

/-! ### The bus written, then notices sent -/

namespace State

/-- What a command of the dimmer bus leaves: the bus is written, and these notices go out in this order. -/
def busTold (s : State) (b : Bus) (notices : List Notice) : State := notices.foldl (fun t n => t.route n) (s.setBus b)

variable (s : State) (b : Bus) (notices : List Notice)

theorem busTold_snoc (n : Notice) : (s.busTold b notices).route n = s.busTold b (notices ++ [n]) := by
  rw [busTold, busTold, List.foldl_append]
  rfl

theorem busTold_setBus (b' : Bus) : (s.busTold b notices).setBus b' = s.busTold b' notices :=
  (List.foldl_hom (fun t : State => t.setBus b') fun _ _ => rfl).symm

@[simp] theorem bus_busTold : (s.busTold b notices).bus = b :=
  List.foldlRecOn (motive := fun t : State => t.bus = b) notices _ rfl fun _ held _ _ => held

@[simp] theorem prog_busTold : (s.busTold b notices).prog = s.prog :=
  List.foldlRecOn (motive := fun t : State => t.prog = s.prog) notices _ rfl fun _ held _ _ => held

/-- R177: a notice sent after others. -/
theorem busTold_notify (kind : NoticeKind) (subject : Byte) (data : List Byte) :
    (s.busTold b notices).notify kind subject data = s.busTold b (notices ++ [s.noticeNow kind subject data]) := by
  rw [notify, busTold_snoc, noticeNow, prog_busTold]
  rfl

theorem busTold_changes : changesOnly (everyLink ++ [.bus]) s (s.busTold b notices) :=
  List.foldlRecOn (motive := changesOnly (everyLink ++ [.bus]) s) notices _ ((setBus_changes s b).mono (by simp))
    fun t before n _ => before.andThen (route_changes t n) (by simp)

theorem notified_busTold : notified notices s (s.busTold b notices) := by
  induction notices using List.reverseRecOn with
  | nil => exact notified_nil fun _ => rfl
  | append_singleton ns n told =>
    rw [← busTold_snoc]
    exact told.snoc n (s.busTold_changes b ns .routing (by simp))

end State

theorem runs_busTold {c : Instr} {s u : State} {b : Bus} {notices : List Notice} {effect : State → Prop}
    (left : u = s.busTold b notices) (ran : exec c s = .next u.finish) (does : effect (s.busTold b notices)) :
    runs c s notices [.bus] effect :=
  ⟨_, left ▸ ran, s.notified_busTold b notices, does, s.busTold_changes b notices⟩

theorem idles_of {c : Instr} {s u : State} (same : u = s) (ran : exec c s = .next u.finish) : idles c s := same ▸ ran

/-! ### The pack table (R137, R144) -/

namespace Bus

variable {b : Bus} {a d : Nat} {x : Pack} {f : Pack → Pack}

/-- R137: with distinct addresses a change at an address is a change of the one entry there. -/
theorem packs_modPack (distinct : (b.packs.map (·.address)).Nodup) (found : b.packAt a = some x) :
    (b.modPack a f).packs = b.packs.map fun z => if z = x then f x else z := by
  obtain ⟨member, rfl⟩ := packAt_address found
  refine List.map_congr_left fun z hz => ?_
  by_cases same : z = x
  · rw [if_pos same, same, if_pos rfl]
  · rw [if_neg same, if_neg fun at_x => same (List.inj_on_of_nodup_map distinct hz member at_x)]

/-- A change that keeps the address of every entry is found at the same address. -/
theorem packAt_modPack (keeps : ∀ z, (f z).address = z.address) :
    (b.modPack a f).packAt d = (b.packAt d).map fun z => if z.address = a then f z else z := by
  have address (z : Pack) : (if z.address = a then f z else z).address = z.address := by
    split
    · exact keeps z
    · rfl
  unfold packAt modPack
  rw [List.find?_map]
  simp only [Function.comp_def, address]

theorem packAt_modPack_self (keeps : ∀ z, (f z).address = z.address) (found : b.packAt a = some x) :
    (b.modPack a f).packAt a = some (f x) := by
  rw [packAt_modPack keeps, found, Option.map_some, if_pos (packAt_address found).2]

theorem packAt_modPack_ne (keeps : ∀ z, (f z).address = z.address) (other : d ≠ a) :
    (b.modPack a f).packAt d = b.packAt d := by
  rw [packAt_modPack keeps]
  cases found : b.packAt d with
  | none => rfl
  | some z => rw [Option.map_some, if_neg ((packAt_address found).2 ▸ other)]

end Bus

end Sys2Proof.Machine
end

section
/-! PROOF. LEVEL_PACKET_SENT and LEVEL_REPLY_WINDOW_END: the packet sent, and the reply read (R138, R140, R141,
R150). -/

namespace Sys2Proof.Machine

variable {s : State} {a : Nat} {x : Pack} {more : List Nat} {reply : List Byte}

/-! ### The packet (R138, R140) -/

theorem levelMessage_eq (a p : Nat) :
    levelMessage a p = [byte (0xB0 + a), byte p, -(byte (0xB0 + a) + byte p)] := by
  simp [levelMessage, busMessage, byteSum]

namespace State

/-- R140: no packet goes out before the round, within a window, or without a plan. -/
theorem sendPacket_waits (waits : s.bus.roundDue = true ∨ s.bus.window.isSome = true ∨ s.bus.plan = []) :
    s.sendPacket = s := by
  unfold sendPacket
  dsimp only
  split
  · rfl
  · next slot =>
    obtain ⟨round, shut⟩ : s.bus.roundDue = false ∧ s.bus.window.isSome = false := by simpa using slot
    have planned : s.bus.plan = [] := by simpa [round, shut] using waits
    rw [planned]

section Slot

variable (round : s.bus.roundDue = false) (shut : s.bus.window = none) (planned : s.bus.plan = a :: more)

include round shut planned

theorem sendPacket_sends (found : s.bus.packAt a = some x) :
    s.sendPacket = s.busTold { s.bus.modPack a (fun y => { y with sent := some (s.bus.packLevel x), since := 0 }) with
      plan := more, window := some a, out := [levelMessage a (s.bus.packLevel x)] } [] := by
  unfold sendPacket
  simp only [round, shut, planned, found]
  rfl

theorem sendPacket_drops (unknown : s.bus.packAt a = none) :
    s.sendPacket = s.busTold { s.bus with plan := more, out := [] } [] := by
  unfold sendPacket
  simp only [round, shut, planned, unknown]
  rfl

end Slot

end State

/-! ### The reply (R140, R141, R195) -/

/-- R195: the reply OK of a pack. -/
abbrev okReply (a : Nat) : List Byte := [0xC0, byte a, -(0xC0 + byte a)]

/-- R195: the reply LOAD_FAIL of a pack. -/
abbrev loadFailReply (a : Nat) : List Byte := [0xC1, byte a, -(0xC1 + byte a)]

theorem replyMessage_eq (a : Nat) :
    replyMessage false a = okReply a ∧ replyMessage true a = loadFailReply a := by
  simp [replyMessage, busMessage, byteSum]

theorem readReply_answered (answered : reply = okReply a ∨ reply = loadFailReply a) :
    readReply a reply = some (decide (reply = loadFailReply a)) := by
  obtain ⟨ok, loadFail⟩ := replyMessage_eq a
  rw [readReply, ok, loadFail]
  rcases answered with rfl | rfl <;> simp

theorem readReply_missed (notOk : reply ≠ okReply a) (notFail : reply ≠ loadFailReply a) :
    readReply a reply = none := by
  obtain ⟨ok, loadFail⟩ := replyMessage_eq a
  rw [readReply, ok, loadFail, if_neg notOk, if_neg notFail]

/-- R140: a pack that has answered. -/
def Pack.answered (x : Pack) (loadFail : Bool) : Pack := { x with misses := 0, loadFail := loadFail }

/-- R140, R141: a pack that has missed a reply. -/
def Pack.missed (x : Pack) : Pack :=
  let misses := min (x.misses + 1) 3
  { x with sent := none, misses := misses, isPresent := x.isPresent && decide (misses ≠ 3) }

namespace State

/-- R150: the PACK_EVENT of an entry. -/
abbrev packEvent (s : State) (change : PackChange) (x : Pack) : Notice :=
  s.noticeNow .packEvent (byte x.address)
    (change.code :: (serialBytes x.serial ++ [Group.packCode x.group, marker x.loadFail]))

theorem packAnswers_eq (s : State) (x : Pack) (loadFail : Bool) :
    s.packAnswers loadFail x = s.busTold (s.bus.modPack x.address fun _ => x.answered loadFail)
      (if x.loadFail = loadFail then [] else [s.packEvent .loadFail (x.answered loadFail)]) := by
  by_cases same : x.loadFail = loadFail
  · rw [if_pos same]
    exact if_pos same
  · rw [if_neg same]
    exact if_neg same

theorem packMisses_eq (s : State) (x : Pack) :
    s.packMisses x = s.busTold (s.bus.modPack x.address fun _ => x.missed)
      (if min (x.misses + 1) 3 = 3 ∧ x.isPresent = true then [s.packEvent .absent x.missed] else []) := by
  have left : x.missed = { x with
      sent := none, misses := min (x.misses + 1) 3,
      isPresent := x.isPresent && !decide (min (x.misses + 1) 3 = 3) } := by rw [Pack.missed, decide_not]
  by_cases gone : min (x.misses + 1) 3 = 3 ∧ x.isPresent = true
  · rw [if_pos gone, left]
    exact if_pos ((Bool.and_eq_true _ _).mpr ⟨decide_eq_true gone.1, gone.2⟩)
  · rw [if_neg gone, left]
    exact if_neg fun both => gone ((Bool.and_eq_true _ _).mp both |>.imp_left of_decide_eq_true)

theorem windowEnds_shut (shut : s.bus.window = none) : s.windowEnds reply = s := by
  unfold windowEnds
  rw [shut]

/-- R140: the bus of a state with its window closed. -/
abbrev windowShut (s : State) : Bus := { s.bus with window := none, out := [] }

section Window

variable (opened : s.bus.window = some a)

include opened

theorem windowEnds_drops (unknown : s.bus.packAt a = none) : s.windowEnds reply = s.busTold s.windowShut [] := by
  have unknown' : s.windowShut.packAt a = none := unknown
  unfold windowEnds
  simp only [opened, bus_setBus, unknown']
  rfl

variable (found : s.bus.packAt a = some x)

include found

/-- R140: OK or LOAD_FAIL. -/
theorem windowEnds_answered (answered : reply = okReply a ∨ reply = loadFailReply a) :
    let y := x.answered (decide (reply = loadFailReply a))
    s.windowEnds reply = s.busTold (s.windowShut.modPack a fun _ => y)
      (if x.loadFail = decide (reply = loadFailReply a) then [] else [s.packEvent .loadFail y]) := by
  have found' : s.windowShut.packAt a = some x := found
  unfold windowEnds
  simp only [opened, bus_setBus, found', readReply_answered answered, packAnswers_eq, (Bus.packAt_address found).2]
  rfl

/-- R141: anything else. -/
theorem windowEnds_missed (notOk : reply ≠ okReply a) (notFail : reply ≠ loadFailReply a) :
    s.windowEnds reply = s.busTold (s.windowShut.modPack a fun _ => x.missed)
      (if min (x.misses + 1) 3 = 3 ∧ x.isPresent = true then [s.packEvent .absent x.missed] else []) := by
  have found' : s.windowShut.packAt a = some x := found
  unfold windowEnds
  simp only [opened, bus_setBus, found', readReply_missed notOk notFail, packMisses_eq, (Bus.packAt_address found).2]
  rfl

end Window

end State

/-- Settles O49: the packet goes to the one entry at its address, and the reply read in the window rewrites that
entry. -/
theorem levelPackets : Obligations.LevelPackets := by
  intro reply s distinct b becomes rest report
  refine ⟨fun waits => ?_, fun a more x round shut planned found => ?_, fun a more round shut planned unknown => ?_,
    fun shut => ?_, fun a opened unknown => ?_, fun a x opened found => ?_⟩
  · exact idles_of (State.sendPacket_waits waits) rfl
  · refine runs_busTold (State.sendPacket_sends round shut planned found) rfl ⟨?_, rfl, rfl, rfl, ?_⟩
    · exact Bus.packs_modPack (f := fun y => { y with sent := some _, since := 0 }) distinct found
    · exact congrArg (fun m => [m]) (levelMessage_eq _ _)
  · exact runs_busTold (State.sendPacket_drops round shut planned unknown) rfl rfl
  · exact idles_of (State.windowEnds_shut shut) rfl
  · exact runs_busTold (State.windowEnds_drops opened unknown) rfl rfl
  · intro good bad answered misses missed closed
    have closes (y : Pack) (notices : List Notice) :
        closed y (s.busTold (s.windowShut.modPack a fun _ => y) notices) := by
      dsimp only [closed, becomes, rest]
      rw [State.bus_busTold]
      exact ⟨Bus.packs_modPack (f := fun _ => y) distinct found, rfl, rfl, rfl, rfl⟩
    exact ⟨fun heard => runs_busTold (State.windowEnds_answered opened found heard) rfl (closes _ _),
      fun notOk notFail => runs_busTold (State.windowEnds_missed opened found notOk notFail) rfl (closes _ _)⟩

end Sys2Proof.Machine
end

section
/-! PROOF. IDENTIFY_ROUND_END: the serial read (R143), the address given (R144), what an answered round leaves, and the
end of an enumeration (R146). -/

namespace Sys2Proof.Machine

/-! ### The serial read in a round (R143) -/

/-- The bits of a serial from bit k up: those above it, then bit k. -/
theorem serial_div (x : Serial) (k : Nat) :
    x.toNat / 2 ^ k = 2 * (x.toNat / 2 ^ (k + 1)) + (x.getLsbD k).toNat := by
  have bit : (x.getLsbD k).toNat = x.toNat / 2 ^ k % 2 := Nat.toNat_testBit ..
  rw [bit, pow_succ, ← Nat.div_div_eq_div_mul]
  omega

section Slot

variable {k : Nat} {round : List Serial × Nat} {x y : Serial}

/-- R143: the line reads low if any contender drives 0. -/
theorem mem_bitSlot : x ∈ (bitSlot k round).1 ↔ x ∈ round.1 ∧ x.getLsbD k = round.1.all fun z => z.getLsbD k := by
  rw [bitSlot, List.mem_filter, beq_iff_eq]

theorem bitSlot_ne_nil (contend : round.1 ≠ []) : (bitSlot k round).1 ≠ [] := by
  cases line : round.1.all fun z => z.getLsbD k with
  | true =>
    obtain ⟨z, hz⟩ := List.exists_mem_of_ne_nil _ contend
    exact List.ne_nil_of_mem (mem_bitSlot.mpr ⟨hz, (List.all_eq_true.mp line z hz).trans line.symm⟩)
  | false =>
    obtain ⟨z, hz, low⟩ := List.all_eq_false.mp line
    exact List.ne_nil_of_mem (mem_bitSlot.mpr ⟨hz, (Bool.eq_false_iff.mpr low).trans line.symm⟩)

/-- R143: the contenders of a round agree in the bits from k up, which are the bits read. -/
abbrev AgreeFrom (k : Nat) (round : List Serial × Nat) : Prop := ∀ x ∈ round.1, x.toNat / 2 ^ k = round.2

theorem bitSlot_agree (agree : AgreeFrom (k + 1) round) : AgreeFrom k (bitSlot k round) := by
  intro z hz
  obtain ⟨member, bit⟩ := mem_bitSlot.mp hz
  rw [serial_div, agree z member, bit]
  rfl

/-- R143: a contender that drops out is higher than those that stay. -/
theorem bitSlot_dropped (agree : AgreeFrom (k + 1) round) (stays : x ∈ (bitSlot k round).1) (hy : y ∈ round.1)
    (drops : y ∉ (bitSlot k round).1) : x.toNat < y.toNat := by
  obtain ⟨hx, bit⟩ := mem_bitSlot.mp stays
  have other : y.getLsbD k ≠ round.1.all fun z => z.getLsbD k := fun same => drops (mem_bitSlot.mpr ⟨hy, same⟩)
  have below : x.toNat / 2 ^ k < y.toNat / 2 ^ k := by
    rw [serial_div x, serial_div y, agree x hx, agree y hy, bit]
    cases line : round.1.all fun z => z.getLsbD k with
    | true => exact absurd ((List.all_eq_true.mp line y hy).trans line.symm) other
    | false =>
      rw [line, Bool.ne_false_iff] at other
      rw [other]
      exact Nat.lt_succ_self _
  exact lt_of_not_ge fun le => below.not_ge (Nat.div_le_div_right le)

end Slot

/-- R143: the slots of the bits below k read the lowest of the contenders that agree from k up. -/
theorem bitSlots_lowest (k : Nat) {round : List Serial × Nat} (contend : round.1 ≠ []) (agree : AgreeFrom k round) :
    ∃ x ∈ round.1, ((List.range k).reverse.foldl (fun r i => bitSlot i r) round).2 = x.toNat ∧
      ∀ y ∈ round.1, x.toNat ≤ y.toNat := by
  induction k generalizing round with
  | zero =>
    have reads (x : Serial) (hx : x ∈ round.1) : x.toNat = round.2 := by simpa using agree x hx
    obtain ⟨x, hx⟩ := List.exists_mem_of_ne_nil _ contend
    exact ⟨x, hx, (reads x hx).symm, fun y hy => ((reads x hx).trans (reads y hy).symm).le⟩
  | succ k ih =>
    obtain ⟨x, stays, reads, lowest⟩ := ih (bitSlot_ne_nil contend) (bitSlot_agree agree)
    refine ⟨x, (mem_bitSlot.mp stays).1, ?_, fun y hy => ?_⟩
    · rw [List.range_succ, List.reverse_append]
      exact reads
    · by_cases left : y ∈ (bitSlot k round).1
      · exact lowest y left
      · exact (bitSlot_dropped agree stays hy left).le

/-- R143: the serial read is the lowest of the contenders. -/
theorem readSerial_lowest {contenders : List Serial} (contend : contenders ≠ []) :
    readSerial contenders ∈ contenders ∧ ∀ x ∈ contenders, (readSerial contenders).toNat ≤ x.toNat := by
  obtain ⟨x, hx, reads, lowest⟩ :=
    bitSlots_lowest 24 (round := (contenders, 0)) contend fun x _ => Nat.div_eq_of_lt x.isLt
  have read : readSerial contenders = x := by
    rw [readSerial, reads, BitVec.ofNat_toNat, BitVec.setWidth_eq]
  rw [read]
  exact ⟨hx, lowest⟩

/-! ### The address given (R144) -/

namespace Bus

variable {b : Bus} {a : Nat}

/-- R144: an address of 1 to 15 that no entry holds and that is not withheld. -/
abbrev FreeAt (b : Bus) (a : Nat) : Prop :=
  1 ≤ a ∧ a ≤ 15 ∧ (∀ y ∈ b.packs, y.address ≠ a) ∧ a ∉ b.withheld

/-- R144: an address can be given. -/
abbrev canGive (b : Bus) (a : Nat) : Bool := (b.packAt a).isNone && !b.withheld.contains a

theorem canGive_iff : b.canGive a = true ↔ (∀ y ∈ b.packs, y.address ≠ a) ∧ a ∉ b.withheld := by
  simp [packAt]

theorem freeAddress_eq :
    b.freeAddress = ((List.range 15).find? fun i => b.canGive (i + 1)).map (· + 1) := List.find?_map ..

theorem freeAddress_lowest (free : b.FreeAt a) (lowest : ∀ d, b.FreeAt d → a ≤ d) : b.freeAddress = some a := by
  obtain ⟨low, high, vacant⟩ := free
  have found : (List.range 15).find? (fun i => b.canGive (i + 1)) = some (a - 1) := by
    refine List.find?_range_eq_some.mpr ⟨?_, ?_, fun i before => ?_⟩
    · rw [Nat.sub_add_cancel low]
      exact canGive_iff.mpr vacant
    · exact List.mem_range.mpr (by omega)
    · rw [Bool.not_eq_true']
      refine Bool.eq_false_iff.mpr fun given => ?_
      have after := lowest (i + 1) ⟨by omega, by omega, canGive_iff.mp given⟩
      omega
  rw [freeAddress_eq, found, Option.map_some, Nat.sub_add_cancel low]

theorem freeAddress_none (full : ∀ d, ¬b.FreeAt d) : b.freeAddress = none := by
  rw [freeAddress_eq, Option.map_eq_none_iff, List.find?_eq_none]
  intro i turn given
  have high := List.mem_range.mp turn
  exact full (i + 1) ⟨by omega, by omega, canGive_iff.mp given⟩

theorem addressFor_known {serial : Serial} {y : Pack} (known : b.packOf serial = some y) :
    b.addressFor serial = y.address := by
  rw [addressFor, known]

theorem addressFor_new {serial : Serial} (new : b.packOf serial = none) :
    b.addressFor serial = b.freeAddress.getD 0 := by
  rw [addressFor, new]

end Bus

/-- R137: a new entry stands after the entries of lower addresses. -/
theorem insertPack_split (x : Pack) (packs : List Pack) :
    ∃ before after, packs = before ++ after ∧ (∀ z ∈ before, z.address ≤ x.address) ∧
      (∀ z ∈ after.head?, x.address < z.address) ∧ insertPack x packs = before ++ x :: after := by
  induction packs with
  | nil => exact ⟨[], [], rfl, nofun, nofun, rfl⟩
  | cons y ys ih =>
    by_cases first : x.address < y.address
    · refine ⟨[], y :: ys, rfl, nofun, fun z hz => ?_, if_pos first⟩
      cases hz
      exact first
    · obtain ⟨before, after, parts, lower, higher, inserted⟩ := ih
      refine ⟨y :: before, after, congrArg (y :: ·) parts, ?_, higher, ?_⟩
      · exact List.forall_mem_cons.mpr ⟨not_lt.mp first, lower⟩
      · exact (if_neg first).trans (congrArg (y :: ·) inserted)

/-! ### The round answered (R143, R144) -/

theorem ackMessage_eq (a : Nat) : ackMessage a = [0xF0, byte a, -(0xF0 + byte a)] := by
  simp [ackMessage, busMessage, byteSum]

namespace State

variable {s : State} {serial : Serial} {y : Pack} {a : Nat}

theorem roundWon_known (known : s.bus.packOf serial = some y) :
    s.roundWon serial =
      s.busTold (s.bus.modPack y.address fun _ => { y with isPresent := true, misses := 0, sent := none })
        [s.noticeNow .packEvent (byte y.address)
          (2 :: (serialBytes serial ++ [Group.packCode y.group, marker y.loadFail]))] := by
  unfold roundWon
  rw [known, ← (Bus.packOf_serial known).2]
  rfl

theorem roundWon_new (new : s.bus.packOf serial = none) (free : s.bus.freeAddress = some a) :
    s.roundWon serial = s.busTold { s.bus with packs := insertPack (.fresh serial a) s.bus.packs }
      [s.packEvent .found (.fresh serial a)] := by
  unfold roundWon
  rw [new]
  dsimp only
  rw [free]
  rfl

theorem roundWon_full (new : s.bus.packOf serial = none) (full : s.bus.freeAddress = none) :
    s.roundWon serial = s.busTold { s.bus with parked := min (s.bus.parked + 1) 255 }
      [s.noticeNow .packEvent 0 (4 :: (serialBytes serial ++ [0xFF, 0]))] := by
  unfold roundWon
  rw [new]
  dsimp only
  rw [full]
  rfl

theorem roundVoid_known (known : s.bus.packOf serial = some y) : s.roundVoid serial = s :=
  if_pos (.inr (known ▸ rfl))

theorem roundVoid_full (new : s.bus.packOf serial = none) (full : s.bus.freeAddress = none) :
    s.roundVoid serial = s := if_pos (.inl ((Bus.addressFor_new new).trans (by rw [full]; rfl)))

theorem roundVoid_new (new : s.bus.packOf serial = none) (free : s.bus.freeAddress = some a) (given : 1 ≤ a)
    (first : a ∉ s.bus.withheld) :
    s.roundVoid serial = s.busTold { s.bus with withheld := s.bus.withheld ++ [a] } [] := by
  have address : s.bus.addressFor serial = a := by
    rw [Bus.addressFor_new new, free]
    rfl
  have fresh : s.bus.withheld.contains a = false := by simpa using first
  unfold roundVoid
  simp only [address, new, modBus_eq, fresh, Option.isSome_none, Bool.false_eq_true, or_false, if_false,
    if_neg (Nat.one_le_iff_ne_zero.mp given)]
  rfl

/-! ### The round's end (R143, R146) -/

theorem roundEnds_early (early : s.bus.roundDue = false) (contenders : List Serial) (ack : List Byte) :
    s.roundEnds contenders ack = s := if_neg (by simp [early])

/-- R143: the bus of a round whose serial has been read, with an address assigned. -/
abbrev assigned (s : State) (serial : Serial) (a : Nat) : State :=
  s.setBus { s.bus with roundDue := false, out := [assignMessage serial a] }

section Due

variable (due : s.bus.roundDue = true)

include due

theorem roundEnds_empty (ack : List Byte) :
    s.roundEnds [] ack = (s.busTold { s.bus with roundDue := false, out := [] } []).countRound false := if_pos due

variable {contenders : List Serial} {ack : List Byte} (contend : contenders ≠ [])
  (address : s.bus.addressFor (readSerial contenders) = a)

include contend

theorem roundEnds_eq :
    s.roundEnds contenders ack = ((s.setBus { s.bus with roundDue := false, out := [] }).roundAnswered
      contenders ack).countRound true :=
  (if_pos due).trans (if_neg (mt List.isEmpty_iff.mp contend))

include address

/-- R143: the acknowledge is the one asked for. -/
theorem roundEnds_won (acked : ack = [0xF0, byte a, -(0xF0 + byte a)]) :
    s.roundEnds contenders ack =
      ((s.assigned (readSerial contenders) a).roundWon (readSerial contenders)).countRound true := by
  subst address
  rw [← ackMessage_eq] at acked
  exact (roundEnds_eq due contend).trans (congrArg (countRound true) (if_pos acked))

/-- R143: the round is void. -/
theorem roundEnds_void (other : ack ≠ [0xF0, byte a, -(0xF0 + byte a)]) :
    s.roundEnds contenders ack =
      ((s.assigned (readSerial contenders) a).roundVoid (readSerial contenders)).countRound true := by
  subst address
  rw [← ackMessage_eq] at other
  exact (roundEnds_eq due contend).trans (congrArg (countRound true) (if_neg other))

end Due

/-! ### The rounds of an enumeration (R146) -/

variable (s) (b : Bus) (notices : List Notice)

/-- R146: the BUS_RESET_DONE of a bus at the end of its enumeration. -/
abbrev resetDone (complete : Bool) : Notice :=
  s.noticeNow .busResetDone 0xFF
    [byte b.presentCount, byte b.absentCount, byte b.parked, byte b.rounds, marker complete]

theorem enumerated_busTold (complete : Bool) :
    (s.busTold b notices).enumerated complete =
      s.busTold { b with state := .normal, identify := 0 } (notices ++ [s.resetDone b complete]) := by
  unfold enumerated
  simp only [modBus_eq, bus_busTold, busTold_setBus, busTold_notify]
  rfl

variable {b} (answered : Bool)

theorem countRound_away (away : b.state ≠ .enumerating) :
    (s.busTold b notices).countRound answered = s.busTold b notices := if_neg (by rwa [bus_busTold])

/-- R146: a round of an enumeration is counted; one without an answer, or the 64th, ends it. -/
theorem countRound_enumerating (enumerating : b.state = .enumerating) :
    (s.busTold b notices).countRound answered =
      let t := s.busTold { b with rounds := b.rounds + 1 } notices
      if answered = false then t.enumerated true else if b.rounds + 1 = 64 then t.enumerated false else t := by
  unfold countRound
  simp only [modBus_eq, bus_busTold, busTold_setBus, enumerating, if_true, Bool.not_eq_true', Config.enumerationLimit]

end State

/-- R146: what IDENTIFY_ROUND_END does, where the round itself leaves this bus and sends these notices: in an
enumeration the round is counted, and ends it where no pack contends, or as the 64th. -/
abbrev RoundCloses (contenders : List Serial) (ack : List Byte) (s : State) (notices : List Notice) (after : Bus) :
    Prop :=
  let c := Instr.identifyRoundEnd contenders ack
  let rounds := s.bus.rounds + 1
  let counted : Bus := { after with rounds := rounds }
  if s.bus.state ≠ .enumerating then runs c s notices [.bus] fun t => t.bus = after
  else if contenders = [] ∨ rounds = 64 then
    runs c s
      (notices ++ [s.noticeNow .busResetDone 0xFF
        [byte (after.packs.countP fun y => y.isPresent), byte (after.packs.countP fun y => !y.isPresent),
          byte after.parked, byte rounds, if contenders = [] then 1 else 0]]) [.bus]
      fun t => t.bus = { counted with state := .normal, identify := 0 }
  else runs c s notices [.bus] fun t => t.bus = counted

theorem roundCloses_of {contenders : List Serial} {ack : List Byte} {s : State} {notices : List Notice} {after : Bus}
    (left : s.roundEnds contenders ack = (s.busTold after notices).countRound (decide (contenders ≠ [])))
    (state : after.state = s.bus.state) (rounds : after.rounds = s.bus.rounds) :
    RoundCloses contenders ack s notices after := by
  unfold RoundCloses
  dsimp only
  rw [← rounds]
  by_cases enumerating : s.bus.state = .enumerating
  · rw [if_neg (not_not.mpr enumerating)]
    rw [State.countRound_enumerating _ _ _ (state.trans enumerating)] at left
    by_cases silent : contenders = []
    · rw [if_pos (.inl silent), if_pos silent]
      rw [silent, if_pos (by simp), State.enumerated_busTold, ← silent] at left
      exact runs_busTold left rfl (State.bus_busTold ..)
    · rw [if_neg (by simpa using silent)] at left
      rw [if_neg silent]
      by_cases last : after.rounds + 1 = 64
      · rw [if_pos last, State.enumerated_busTold] at left
        rw [if_pos (.inr last)]
        exact runs_busTold left rfl (State.bus_busTold ..)
      · rw [if_neg last] at left
        rw [if_neg (not_or.mpr ⟨silent, last⟩)]
        exact runs_busTold left rfl (State.bus_busTold ..)
  · rw [if_pos enumerating]
    rw [State.countRound_away _ _ _ (state.trans_ne enumerating)] at left
    exact runs_busTold left rfl (State.bus_busTold ..)

section Answered

variable {contenders : List Serial} {ack : List Byte} {s : State} {a : Nat} {notices : List Notice} {after : Bus}
  (due : s.bus.roundDue = true) (contend : contenders ≠ [])
  (address : s.bus.addressFor (readSerial contenders) = a)

include due contend address

theorem roundCloses_won (acked : ack = [0xF0, byte a, -(0xF0 + byte a)])
    (left : (s.assigned (readSerial contenders) a).roundWon (readSerial contenders) = s.busTold after notices)
    (state : after.state = s.bus.state) (rounds : after.rounds = s.bus.rounds) :
    RoundCloses contenders ack s notices after :=
  roundCloses_of (by rw [State.roundEnds_won due contend address acked, left, decide_eq_true contend]) state rounds

theorem roundCloses_void (other : ack ≠ [0xF0, byte a, -(0xF0 + byte a)])
    (left : (s.assigned (readSerial contenders) a).roundVoid (readSerial contenders) = s.busTold after notices)
    (state : after.state = s.bus.state) (rounds : after.rounds = s.bus.rounds) :
    RoundCloses contenders ack s notices after :=
  roundCloses_of (by rw [State.roundEnds_void due contend address other, left, decide_eq_true contend]) state rounds

end Answered

/-- Settles O50: the round by what it reads in the pack table and by its acknowledge, then counted. -/
theorem identifyRounds : Obligations.IdentifyRounds := by
  refine ⟨fun _ => readSerial_lowest, fun contenders ack s _ => ?_⟩
  intro c b x isFree lowest assign acked report groupByte done base closes
  refine ⟨fun early => ?_, fun due silent => ?_, fun y _ due contend known => ?_,
    fun a due contend new ⟨vacant, first⟩ => ?_, fun due contend new full => ?_⟩
  · exact idles_of (State.roundEnds_early early contenders ack) rfl
  · subst silent
    exact roundCloses_of (State.roundEnds_empty due ack) rfl rfl
  · have address : b.addressFor x = y.address := Bus.addressFor_known known
    have won := State.roundWon_known (s := s.assigned x y.address) known
    have void := State.roundVoid_known (s := s.assigned x y.address) known
    exact ⟨fun yes => roundCloses_won due contend address yes won rfl rfl,
      fun no => roundCloses_void due contend address no void rfl rfl⟩
  · have free : b.freeAddress = some a := Bus.freeAddress_lowest vacant first
    have address : b.addressFor x = a := by rw [Bus.addressFor_new new, free, Option.getD_some]
    obtain ⟨given, -, -, unwithheld⟩ := vacant
    have void := State.roundVoid_new (s := s.assigned x a) new free given unwithheld
    obtain ⟨before, after, parts, lower, higher, inserted⟩ := insertPack_split (.fresh x a) b.packs
    have won := State.roundWon_new (s := s.assigned x a) new free
    rw [show (s.assigned x a).bus.packs = b.packs from rfl, inserted] at won
    exact ⟨fun yes => ⟨before, after, parts, lower, higher, roundCloses_won due contend address yes won rfl rfl⟩,
      fun no => roundCloses_void due contend address no void rfl rfl⟩
  · have taken : b.freeAddress = none := Bus.freeAddress_none full
    have address : b.addressFor x = 0 := by rw [Bus.addressFor_new new, taken, Option.getD_none]
    have won := State.roundWon_full (s := s.assigned x 0) new taken
    have void := State.roundVoid_full (s := s.assigned x 0) new taken
    exact ⟨fun yes => roundCloses_won due contend address yes won rfl rfl,
      fun no => roundCloses_void due contend address no void rfl rfl⟩

end Sys2Proof.Machine
end

section
/-! PROOF. BUS_BREAK_END, and the requests of the dimmer bus: BUS_RESET, PACK_READ, PACK_WRITE and PACK_FORGET (R145,
R147, R148, R149). -/

namespace Sys2Proof.Machine

variable {s : State} {a group top : Byte} {x : Pack}

/-! ### The answers, case by case -/

theorem busResetAnswer_normal (normal : s.bus.state = .normal) :
    busResetAnswer s = (s.setBus { s.bus with state := .resetPending }).answer .ok := if_pos normal

theorem busResetAnswer_busy (busy : s.bus.state ≠ .normal) : busResetAnswer s = s.answer .busy := if_neg busy

theorem packReadAnswer_bus : packReadAnswer 0xFF s = ⟨s, .ok, busData s.bus⟩ := if_pos rfl

theorem packData_eq {b : Bus} {a : Nat} (found : b.packAt a = some x) : packData b a = packBytes b x := by
  rw [packData, found]

theorem packReadAnswer_unknown (one : a ≠ 0xFF) (unknown : s.bus.packAt a.toNat = none) :
    packReadAnswer a s = s.answer .noEntry := by
  unfold packReadAnswer
  rw [if_neg one, unknown]
  rfl

theorem packReadAnswer_known (one : a ≠ 0xFF) (found : s.bus.packAt a.toNat = some x) :
    packReadAnswer a s = ⟨s, .ok, packBytes s.bus x⟩ := by
  unfold packReadAnswer
  rw [if_neg one, packData_eq found, found]
  rfl

/-- R147: the group held of one written; a code that is not listed keeps the group. -/
abbrev heldGroup (group : Byte) (kept : Option Group) : Option Group :=
  if group = 0 then some .house else if group = 1 then some .stage else if group = 2 then some .aisle
  else if group = 3 then some .work else if group = 4 then none else kept

theorem takeGroup_val (kept : Option Group) : (takeCode (Group.ofPackCode group) kept).val = heldGroup group kept := by
  rw [takeCode_val]
  simp only [Group.ofPackCode, apply_ite (Option.getD · kept), Option.getD_some, Option.getD_none]

theorem Group.ofPackCode_isSome (c : Byte) : (Group.ofPackCode c).isSome = true ↔ c.toNat ≤ 4 := by
  unfold Group.ofPackCode
  split_ifs <;> simp <;> bv_omega

theorem takeGroup_code (kept : Option Group) :
    okOr (takeCode (Group.ofPackCode group) kept).adjusted = if group.toNat ≤ 4 then .ok else .adjusted := by
  have listed := (takeCode_kept (Group.ofPackCode group) kept).trans (Group.ofPackCode_isSome group)
  cases adjusted : (takeCode (Group.ofPackCode group) kept).adjusted with
  | false => exact (if_pos (listed.mp adjusted)).symm
  | true => exact (if_neg fun low => by simp [listed.mpr low] at adjusted).symm

/-- R147: an entry with a group and a top level written. -/
abbrev Pack.written (group top : Byte) (kept : Option Group) (x : Pack) : Pack :=
  { x with group := heldGroup group kept, top := top.toNat }

theorem packWriteAnswer_unknown (unknown : s.bus.packAt a.toNat = none) :
    packWriteAnswer a group top s = s.answer .noEntry := by
  unfold packWriteAnswer
  rw [unknown]

theorem packWriteAnswer_known (found : s.bus.packAt a.toNat = some x) :
    packWriteAnswer a group top s =
      ⟨s.setBus (s.bus.modPack a.toNat (.written group top x.group)),
        if group.toNat ≤ 4 then .ok else .adjusted, packBytes s.bus (x.written group top x.group)⟩ := by
  let written := s.bus.modPack a.toNat (.written group top x.group)
  have data : packData written a.toNat = packBytes s.bus (x.written group top x.group) :=
    packData_eq (Bus.packAt_modPack_self (fun _ => rfl) found)
  unfold packWriteAnswer
  rw [found, ← data]
  dsimp only
  rw [takeGroup_val, takeGroup_code]
  rfl

theorem packForgetAnswer_unknown (unknown : s.bus.packAt a.toNat = none) :
    packForgetAnswer a s = s.answer .noEntry := by
  unfold packForgetAnswer
  rw [unknown]

theorem packForgetAnswer_present (found : s.bus.packAt a.toNat = some x) (present : x.isPresent = true) :
    packForgetAnswer a s = s.answer .notReady := by
  unfold packForgetAnswer
  rw [found]
  exact if_pos present

theorem packForgetAnswer_absent (found : s.bus.packAt a.toNat = some x) (absent : x.isPresent = false) :
    packForgetAnswer a s =
      ⟨s.setBus { s.bus with packs := s.bus.packs.filter fun z => decide (z.address ≠ a.toNat) }, .ok, [a]⟩ := by
  unfold packForgetAnswer
  rw [found]
  exact if_neg (Bool.eq_false_iff.mp absent)

/-! ### The end of a break (R145) -/

namespace State

theorem breakEnds_eq (inBreak : s.bus.state = .brk) :
    s.breakEnds = (s.passTo s.bus.breakDue).setBus { s.bus with breakEnded := true } := if_pos inBreak

theorem breakEnds_away (away : s.bus.state ≠ .brk) : s.breakEnds = s := if_neg away

end State

theorem busBreakEnd_runs (inBreak : s.bus.state = .brk) :
    runs .busBreakEnd s [] [.bus, .motionCount] fun t =>
      t.bus = { s.bus with breakEnded := true } ∧ t.motionCount = max s.motionCount s.bus.breakDue := by
  refine ⟨_, congrArg (fun t : State => Host.Outcome.next t.finish) (State.breakEnds_eq inBreak),
    notified_nil fun _ => rfl, ⟨rfl, State.motionCount_passTo s _⟩, ?_⟩
  exact ((passTo_changes s _).mono (by simp)).andThen (setBus_changes _ _) (by simp)

/-- R169: a request that writes the bus. -/
theorem grants_setBus {l : Connector} {r : Request} {code : ResultCode} {data : List Byte} {b : Bus}
    {effect : State → Prop} (h : listens l s)
    (answer : requestAnswer l r (s.takeSlot l (requestBody r)) =
      ⟨(s.takeSlot l (requestBody r)).setBus b, code, data⟩)
    (does : effect ((s.takeSlot l (requestBody r)).setBus b)) :
    grants l r s code (fun _ => data) [] [.bus] effect :=
  grants_of (after := id) h _ answer (notified_nil fun _ => rfl) does ((setBus_changes _ b).mono (by simp))

/-- Settles O51: each request reaches DBM, whose answer is an equation above. -/
theorem busRequests : Obligations.BusRequests := by
  intro l r a group top s h b level record bits newGroup
  have reads (a : Byte) := anyRequest_passes (requestBody (.packRead a)) h (packReadAnswer a)
  refine ⟨busBreakEnd_runs, fun away => idles_of (State.breakEnds_away away) rfl, fun one unknown => ?_,
    fun x one found => ?_, ?_, ?_⟩
  · exact repliesOnly_of h.2 ((reads a).trans (packReadAnswer_unknown one unknown))
  · exact repliesOnly_of h.2 ((reads a).trans (packReadAnswer_known one found))
  · exact repliesOnly_of h.2 ((reads 0xFF).trans packReadAnswer_bus)
  · rintro rfl
    have resets := houseRequest_passes (requestBody .busReset) h busResetAnswer
    have writes := houseRequest_passes (requestBody (.packWrite a group top)) h (packWriteAnswer a group top)
    have forgets := houseRequest_passes (requestBody (.packForget a)) h (packForgetAnswer a)
    refine ⟨fun normal => ?_, fun busy => ?_, fun unknown => ⟨?_, ?_⟩,
      fun x found => ⟨?_, fun present => ?_, fun absent => ?_⟩⟩
    · exact grants_setBus h.2 (resets.trans (busResetAnswer_normal normal)) rfl
    · exact repliesOnly_of h.2 (resets.trans (busResetAnswer_busy busy))
    · exact repliesOnly_of h.2 (writes.trans (packWriteAnswer_unknown unknown))
    · exact repliesOnly_of h.2 (forgets.trans (packForgetAnswer_unknown unknown))
    · exact grants_setBus h.2 (writes.trans (packWriteAnswer_known found))
        ⟨Bus.packAt_modPack_self (fun _ => rfl) found, rfl, fun d => Bus.packAt_modPack_ne fun _ => rfl⟩
    · exact repliesOnly_of h.2 (forgets.trans (packForgetAnswer_present found present))
    · exact grants_setBus h.2 (forgets.trans (packForgetAnswer_absent found absent)) rfl

end Sys2Proof.Machine
end

section
/-! PROOF. The exhaustion test by its cases (R161), and the pass rollover (R162). -/

namespace Sys2Proof.Machine

namespace State

variable {s : State}

/-! ### The exhausted plan (R161) -/

/-- R161: the plan is exhausted, in the words of the rule. -/
theorem exhausted_iff (s : State) :
    s.exhausted = true ↔ (∃ e ∈ s.plan.entries, e.state = .done) ∧
      (∀ e ∈ s.plan.entries, e.state ≠ .armed ∧ e.state ≠ .running) ∧ s.nextEntry = none := by
  simp [State.exhausted, and_assoc]

/-- R161: the show states that an exhausted plan ends. -/
abbrev mayEnd (s : State) : Prop :=
  s.prog.state = .idle ∨ s.prog.state = .stalled ∨ s.prog.state = .intermission

/-- R161: the show ENDED on an exhausted plan. -/
def endExhausted (s : State) : State :=
  (s.setProg { s.prog with state := .ended, timer := none, timerEntry := none }).notify
    .showEnd (indexByte s.prog.lastDone) [1, byte s.plan.passNumber, byte s.plan.repeatCount]

/-- R161: the state in which the test decides the rollover. -/
def rolloverPoint (s : State) : State := if s.mayEnd then s.endExhausted else s

/-- R161: the SHOW_END of the test, where the show was not ENDED before. -/
def rolloverPointNotices (s : State) : List Notice :=
  if s.mayEnd then
    [s.noticeNow .showEnd (indexByte s.prog.lastDone) [1, byte s.plan.passNumber, byte s.plan.repeatCount]]
  else []

theorem rolloverPoint_mayEnd (ends : s.mayEnd) : s.rolloverPoint = s.endExhausted := if_pos ends

theorem rolloverPoint_ended (state : s.prog.state = .ended) : s.rolloverPoint = s :=
  if_neg (by rw [mayEnd, state]; decide)

/-! ### The test, case by case (R161) -/

variable {atReelDone : Bool}

theorem testExhausted_unexhausted (more : s.exhausted = false) : s.testExhausted atReelDone = s := by
  rw [State.testExhausted, more, if_neg Bool.false_ne_true]

/-- R161: a RUNNING or FIRE_STOP show goes on, and an ENDED one stays away from a reel done. -/
theorem testExhausted_stays (goesOn : ¬s.mayEnd) (later : ¬(s.prog.state = .ended ∧ atReelDone = true)) :
    s.testExhausted atReelDone = s := by
  unfold State.testExhausted
  split
  · split
    case h_1 state => exact absurd (.inl state) goesOn
    case h_2 state => exact absurd (.inr (.inl state)) goesOn
    case h_3 state => exact absurd (.inr (.inr state)) goesOn
    case h_4 state => exact if_neg fun done => later ⟨state, done⟩
    all_goals rfl
  · rfl

theorem testExhausted_decides (exhausted : s.exhausted = true)
    (decides : s.mayEnd ∨ (s.prog.state = .ended ∧ atReelDone = true)) :
    s.testExhausted atReelDone = s.rolloverPoint.decideRollover := by
  unfold State.testExhausted
  rw [if_pos exhausted]
  rcases decides with ends | ⟨state, rfl⟩
  · rw [rolloverPoint_mayEnd ends]
    rcases ends with state | state | state <;> rw [state] <;> rfl
  · rw [rolloverPoint_ended state, state]
    rfl

/-! ### The show at the decision (R161) -/

@[simp] theorem plan_rolloverPoint (s : State) : s.rolloverPoint.plan = s.plan := by
  unfold rolloverPoint
  split <;> rfl

@[simp] theorem routing_rolloverPoint (s : State) : s.rolloverPoint.routing = s.routing := by
  unfold rolloverPoint
  split <;> rfl

theorem prog_rolloverPoint (s : State) :
    s.rolloverPoint.prog =
      if s.mayEnd then { s.prog with state := .ended, timer := none, timerEntry := none } else s.prog := by
  unfold rolloverPoint
  split <;> rfl

theorem notified_rolloverPoint (s : State) : notified s.rolloverPointNotices s s.rolloverPoint := by
  unfold rolloverPointNotices rolloverPoint
  split
  · exact (notified_notify _ _ _ _).before (fun _ => rfl) rfl
  · exact notified_nil fun _ => rfl

/-! ### The rollover (R162) -/

/-- R162: PASS_START carries the cleared clock and the new pass number. -/
theorem notified_rollover (s : State) :
    notified [⟨.passStart, 0xFF, 0, [byte (min (s.plan.passNumber + 1) 255), byte s.plan.repeatCount]⟩] s s.rollover :=
  (notified_notify _ _ _ _).before (fun _ => rfl) rfl

theorem prog_rollover (s : State) :
    s.rollover.prog = ⟨.idle, none, s.prog.timer, s.prog.timerEntry, 0, 0, false, none⟩ := rfl

/-- R161, R162: the timer and its entry are those of an ENDED show, or gone with the show that ends. -/
theorem prog_rolloverPoint_rollover (s : State) :
    s.rolloverPoint.rollover.prog =
      ⟨.idle, none, if s.mayEnd then none else s.prog.timer,
        if s.mayEnd then none else s.prog.timerEntry, 0, 0, false, none⟩ := by
  rw [prog_rollover, prog_rolloverPoint]
  split <;> rfl

theorem plan_rollover (s : State) :
    s.rollover.plan = { s.plan with
      passNumber := min (s.plan.passNumber + 1) 255
      entries := s.plan.entries.map Entry.rolled } := rfl

end State

/-- Settles O20: where the test decides, the show is first ENDED or was so, and the rollover follows from there. -/
theorem exhaustionTest : Obligations.ExhaustionTest := by
  intro s atReelDone exhausted ends rolls pass t shown
  have told : shown = s.rolloverPointNotices := by
    simp only [shown, ends, State.rolloverPointNotices]
    cases s.prog.lastDone <;> rfl
  have decided (isOut : exhausted) (decides : ends ∨ (s.prog.state = .ended ∧ atReelDone = true)) :
      t = s.rolloverPoint.decideRollover :=
    State.testExhausted_decides ((State.exhausted_iff s).mpr isOut) decides
  refine ⟨(testExhausted_changes s atReelDone).mono (by simp), fun more => ?_, fun _ => State.testExhausted_stays,
    fun isOut decides stays => ?_, fun isOut decides again => ?_⟩
  · exact State.testExhausted_unexhausted (Bool.eq_false_iff.mpr (mt (State.exhausted_iff s).mp more))
  · have eq : t = s.rolloverPoint := by
      rw [decided isOut decides, State.decideRollover, State.plan_rolloverPoint, if_neg stays]
    rw [told, eq]
    exact ⟨s.notified_rolloverPoint, s.plan_rolloverPoint, s.prog_rolloverPoint⟩
  · have eq : t = s.rolloverPoint.rollover := by
      rw [decided isOut decides, State.decideRollover, State.plan_rolloverPoint, if_pos again]
    rw [told, eq]
    have passStart := s.rolloverPoint.notified_rollover
    rw [State.plan_rolloverPoint] at passStart
    refine ⟨s.notified_rolloverPoint.append passStart s.routing_rolloverPoint, ?_, s.prog_rolloverPoint_rollover⟩
    rw [State.plan_rollover, State.plan_rolloverPoint]
    rfl

end Sys2Proof.Machine
end

section
/-! PROOF. INTERMISSION_EXTEND (R160). -/

namespace Sys2Proof.Machine

variable {s : State} {left : Nat}

theorem okOr_decide (p : Prop) [Decidable p] : okOr (decide p) = if p then .adjusted else .ok := by
  by_cases h : p <;> simp [okOr, h]

theorem intermissionExtendAnswer_untimed (untimed : ¬(s.prog.state = .intermission ∧ s.prog.timer.isSome = true))
    (seconds : Half) : intermissionExtendAnswer seconds s = s.answer .notReady := by
  unfold intermissionExtendAnswer
  split
  · next state timer => exact absurd ⟨state, by rw [timer]; rfl⟩ untimed
  · rfl

theorem intermissionExtendAnswer_timed (state : s.prog.state = .intermission) (timer : s.prog.timer = some left)
    (seconds : Half) :
    intermissionExtendAnswer seconds s =
      ⟨s.setProg { s.prog with timer := some (min (left + seconds.toNat) 3600) },
        if 3600 < left + seconds.toNat then .adjusted else .ok, half (min (left + seconds.toNat) 3600)⟩ := by
  rw [← okOr_decide]
  unfold intermissionExtendAnswer
  rw [state, timer]
  rfl

/-- R160: a timer in range that is extended by 0 seconds is answered as it stands. -/
theorem intermissionExtendAnswer_zero (state : s.prog.state = .intermission) (timer : s.prog.timer = some left)
    (inRange : left ≤ 3600) : intermissionExtendAnswer 0 s = ⟨s, .ok, half left⟩ := by
  have held : min (left + (0 : Half).toNat) 3600 = left := min_eq_left inRange
  have fits : ¬3600 < left + (0 : Half).toNat := Nat.not_lt.mpr inRange
  rw [intermissionExtendAnswer_timed state timer, held, if_neg fits, ← timer]
  rfl

/-- Settles O53: the house's request reaches SHW, whose answer is one of the equations above. -/
theorem intermissionExtended : Obligations.IntermissionExtended := by
  intro l n s h
  let v (m : Half) := s.takeSlot l (requestBody (.intermissionExtend m))
  have reaches (m : Half) := houseRequest_passes (requestBody (.intermissionExtend m)) h (intermissionExtendAnswer m)
  refine ⟨fun untimed => ?_, fun left state timer inRange => ⟨?_, ?_⟩⟩
  · exact repliesOnly_of h.2 ((reaches n).trans (intermissionExtendAnswer_untimed (s := v n) untimed n))
  · rintro rfl
    exact repliesOnly_of h.2 ((reaches 0).trans (intermissionExtendAnswer_zero (s := v 0) state timer inRange))
  · exact grants_of (after := id) h.2 _ ((reaches n).trans (intermissionExtendAnswer_timed (s := v n) state timer n))
      (notified_nil fun _ => rfl) rfl ((setProg_changes _ _).mono (by simp))

end Sys2Proof.Machine
end

section
/-! PROOF. The laws of the links (R169, R172, R174, R176, R180) as what every operation of a step keeps: what the
routing of a notice makes of a link, and the links of a state. -/

namespace Sys2Proof.Machine

/-! ### The notice queue of a link (R180, R181) -/

/-- R180: what a queue of notices may hold. -/
def QueueSound (q : List Notice) : Prop :=
  q.length ≤ Config.noticeLimit ∧ q.Pairwise fun m n => n.kind.coalesces = true → m.sameSubject n = false

theorem QueueSound.nil : QueueSound [] := ⟨Nat.zero_le _, .nil⟩

theorem QueueSound.sublist {q r : List Notice} (h : QueueSound r) (sub : q.Sublist r) : QueueSound q :=
  ⟨sub.length_le.trans h.1, h.2.sublist sub⟩

/-- R180: a queued notice after a new copy of a coalescing kind: one of the same subject takes its clock and data. -/
def Notice.refreshed (n m : Notice) : Notice :=
  if m.sameSubject n then { m with clock := n.clock, data := n.data } else m

theorem kind_refreshed (n m : Notice) : (n.refreshed m).kind = m.kind := by
  unfold Notice.refreshed
  split <;> rfl

theorem subject_refreshed (n m : Notice) : (n.refreshed m).subject = m.subject := by
  unfold Notice.refreshed
  split <;> rfl

theorem QueueSound.refresh {q : List Notice} (h : QueueSound q) (n : Notice) : QueueSound (q.map n.refreshed) := by
  refine ⟨by simpa using h.1, List.Pairwise.map _ (fun x y apart => ?_) h.2⟩
  rw [Notice.sameSubject, kind_refreshed, kind_refreshed, subject_refreshed, subject_refreshed]
  exact apart

/-- R180: a copy that finds none of its kind and subject to replace joins the queue. -/
theorem QueueSound.append {q : List Notice} {n : Notice} (h : QueueSound q) (room : q.length < Config.noticeLimit)
    (fresh : n.kind.coalesces = true → ∀ m ∈ q, m.sameSubject n = false) : QueueSound (q ++ [n]) := by
  refine ⟨by simpa using room, List.pairwise_append.mpr ⟨h.2, List.pairwise_singleton _ _, fun m hm x hx => ?_⟩⟩
  rw [List.mem_singleton.mp hx]
  exact fun coalesces => fresh coalesces m hm

/-- R181: the displaced notice leaves room for one. -/
theorem length_displaceOldest {q : List Notice} (other : q.any (fun m => !m.kind.isFire) = true) :
    (displaceOldest q).length = q.length - 1 :=
  List.length_eraseP_of_mem (List.any_eq_true.mp other).choose_spec.1 (List.any_eq_true.mp other).choose_spec.2

theorem QueueSound.enqueue {k : Link} (h : QueueSound k.notices) (n : Notice) : QueueSound (k.enqueue n).notices := by
  unfold Link.enqueue
  split
  · exact h.refresh n
  · next none_queued =>
    have fresh : n.kind.coalesces = true → ∀ m ∈ k.notices, m.sameSubject n = false := by
      intro coalesces
      simpa [coalesces] using none_queued
    split
    · next room => exact h.append room fresh
    · split
      · next displaces =>
        rw [Bool.and_eq_true] at displaces
        have sub : (displaceOldest k.notices).Sublist k.notices := List.eraseP_sublist
        refine (h.sublist sub).append ?_ fun coalesces m hm => fresh coalesces m (sub.subset hm)
        rw [length_displaceOldest displaces.2]
        have full := h.1
        have limit : 0 < Config.noticeLimit := by decide
        omega
      · exact h

/-! ### A link -/

/-- R169, R174, R180: a link between two events of a step: `owed` of its slots are held by requests whose reply has not
been queued yet. -/
structure Link.Kept (owed : Nat) (k : Link) : Prop where
  slots : k.slots.length = k.replies.length + k.tx.sendsReply.toNat + owed
  limit : k.slots.length ≤ Config.slotLimit
  notices : QueueSound k.notices
  unbound : k.binding = none → k.notices = []

theorem Link.Kept.deliver {owed : Nat} {k : Link} (h : k.Kept owed) (mask : BitVec 3) (n : Notice) (l : Connector) :
    (deliver mask n l k).Kept owed := by
  unfold Machine.deliver
  split
  · exact h
  · next r bound =>
    split
    · have queued := h.notices.enqueue n
      rw [enqueue_eq]
      exact ⟨h.slots, h.limit, queued, fun unbound => by simp [bound] at unbound⟩
    · exact h

/-- R176: an idle transmitter's choice leaves it idle only where nothing is queued. -/
theorem Link.Kept.chosen {k : Link} (h : k.Kept 0) (s : State) : (s.chosen k).Kept 0 ∧ (s.chosen k).idleLaw := by
  obtain ⟨slots, limit, notices, unbound⟩ := h
  unfold State.chosen
  split
  · next idle =>
    rw [idle] at slots
    split
    · next reply =>
      rw [reply] at slots
      exact ⟨⟨slots, limit, notices, unbound⟩, nofun⟩
    · next noReply =>
      split
      · next n rest notice =>
        rw [notice] at notices
        refine ⟨⟨slots, limit, notices.sublist (List.sublist_cons_self _ _), fun free => ?_⟩, nofun⟩
        simp [notice] at unbound
        exact absurd free unbound
      · next noNotice => exact ⟨⟨idle ▸ slots, limit, notices, unbound⟩, fun _ => ⟨noReply, noNotice⟩⟩
  · next frame sends => exact ⟨⟨slots, limit, notices, unbound⟩, fun idle => by simp [sends] at idle⟩
  · next frame sends => exact ⟨⟨slots, limit, notices, unbound⟩, fun idle => by simp [sends] at idle⟩

/-! ### The links of a state -/

/-- R169, R172, R174, R180: every link, where `owing` names the link whose request waits for its reply. The links are
all that this speaks of, so that an update of any other block keeps it by definition. -/
def State.Linked (owing : Option Connector) (s : State) : Prop :=
  s.roleLaw ∧ ∀ l, (s.linkOf l).Kept (if owing = some l then 1 else 0)

namespace State

variable {owing : Option Connector} {s t : State} {p q : Projector} {l : Connector}

theorem Linked.of_deliveries (h : s.Linked owing) (n : Notice)
    (links : ∀ l, t.linkOf l = deliver (s.maskOf n.kind) n l (s.linkOf l)) : t.Linked owing := by
  refine ⟨fun l hl m hm apart => ?_, fun l => ?_⟩
  · rw [links, links, deliver_binding, deliver_binding]
    exact h.1 l hl m hm apart
  · rw [links]
    exact (h.2 l).deliver _ _ _

theorem Linked.route (h : s.Linked owing) (n : Notice) : (s.route n).Linked owing :=
  h.of_deliveries n fun _ => linkOf_route _ _ _

theorem Linked.notify (h : s.Linked owing) (kind : NoticeKind) (subject : Byte) (data : List Byte) :
    (s.notify kind subject data).Linked owing := h.route _

theorem Linked.of_links (h : s.Linked owing) (same : ∀ l, t.linkOf l = s.linkOf l) : t.Linked owing := by
  refine ⟨fun l hl m hm => ?_, fun l => same l ▸ h.2 l⟩
  rw [same, same]
  exact h.1 l hl m hm

/-- What leaves the links alone. -/
theorem Linked.away (h : s.Linked owing) (same : t.links = s.links) : t.Linked owing :=
  h.of_links fun l => congrArg (·.get l) same

/-- What changes no link keeps the links. -/
theorem Linked.of_changes {blocks : List Block} (h : s.Linked owing) (k : changesOnly blocks s t)
    (away : ∀ b ∈ everyLink, b ∉ blocks) : t.Linked owing :=
  h.of_links fun l => k.links l (away _ (link_mem_everyLink l))

/-- One link is written, its binding as it was. -/
theorem Linked.setLink {k : Link} {owes : Option Connector} (h : s.Linked owing)
    (bound : k.binding = (s.linkOf l).binding) (own : k.Kept (if owes = some l then 1 else 0))
    (others : ∀ m, m ≠ l → (owes = some m ↔ owing = some m)) : (s.setLink l k).Linked owes := by
  have binding (m : Connector) : ((s.setLink l k).linkOf m).binding = (s.linkOf m).binding := by
    by_cases same : m = l
    · subst same
      rw [linkOf_setLink_self, bound]
    · rw [linkOf_setLink_ne _ _ same]
  refine ⟨fun m hm n hn apart => ?_, fun m => ?_⟩
  · rw [binding, binding]
    exact h.1 m hm n hn apart
  · by_cases same : m = l
    · subst same
      rwa [linkOf_setLink_self]
    · rw [linkOf_setLink_ne _ _ same]
      simpa only [others m same] using h.2 m

/-- Every idle transmitter has made its choice, so that both laws hold. -/
theorem Linked.finish (h : s.Linked none) : s.finish.roleLaw ∧ s.finish.queueLaw := by
  have handed : s.handLights.Linked none :=
    List.foldlRecOn (motive := Linked none) _ _ h fun u hu n _ => hu.route n
  have chosen (l : Connector) : s.finish.linkOf l = s.handLights.chosen (s.handLights.linkOf l) := by cases l <;> rfl
  have binding (k : Link) : (s.handLights.chosen k).binding = k.binding := by
    unfold State.chosen
    split
    · split
      · rfl
      · split <;> rfl
    · rfl
    · rfl
  refine ⟨fun l hl m hm apart => ?_, fun l _ => ?_⟩
  · rw [chosen, chosen, binding, binding]
    exact handed.1 l hl m hm apart
  · rw [chosen]
    obtain ⟨⟨slots, limit, ⟨length, apart⟩, unbound⟩, idle⟩ := (handed.2 l).chosen s.handLights
    exact ⟨⟨slots, limit⟩, ⟨length, apart, unbound⟩, idle⟩

theorem Linked.of_laws (roles : s.roleLaw) (queues : s.queueLaw) : s.Linked none := by
  refine ⟨roles, fun l => ?_⟩
  obtain ⟨⟨slots, limit⟩, ⟨length, apart, unbound⟩, -⟩ := queues l (by cases l <;> simp)
  exact ⟨slots, limit, ⟨length, apart⟩, unbound⟩

end State

end Sys2Proof.Machine
end

section
/-! PROOF. The show, the changeover and film motion keep the links (R22 to R73, R154 to R162). -/

namespace Sys2Proof.Machine.State

variable {owing : Option Connector} {s t : State} {p q : Projector}

/-! ### The show (R154 to R162) -/

theorem Linked.applyAction (h : s.Linked owing) (x : Option LightAction) (source : FadeSource) :
    (s.applyAction x source).Linked owing := h.of_changes (applyAction_changes s x source) (by decide)

theorem Linked.pictureLost (h : s.Linked owing) : s.pictureLost.Linked owing :=
  h.of_changes (pictureLost_changes s) (by decide)

theorem Linked.pictureRegained (h : s.Linked owing) : s.pictureRegained.Linked owing :=
  h.of_changes (pictureRegained_changes s) (by decide)

theorem Linked.passToDue (h : s.Linked owing) (due : Option Nat) : (s.passToDue due).Linked owing :=
  h.of_changes (passToDue_changes s due) (by decide)

theorem Linked.showPictureEnd (h : s.Linked owing) (i : Nat) (brk : BreakAfter) :
    (s.showPictureEnd i brk).Linked owing := by
  unfold State.showPictureEnd
  split
  · cases brk with
    | absent => exact h
    | intermission duration action =>
      exact (Linked.applyAction (h.away (by rfl)) action .intermission).notify _ _ _
    | ending action => exact (Linked.applyAction (h.away (by rfl)) action .ending).notify _ _ _
  · exact h

theorem Linked.decideRollover (h : s.Linked owing) : s.decideRollover.Linked owing := by
  unfold State.decideRollover
  split <;> [exact Linked.notify (h.away (by rfl)) _ _ _; exact h]

theorem Linked.testExhausted (h : s.Linked owing) (atReelDone : Bool) : (s.testExhausted atReelDone).Linked owing := by
  have ended (x : Progress) (subject : Byte) (data : List Byte) :
      ((s.setProg x).notify .showEnd subject data).decideRollover.Linked owing :=
    (Linked.notify (h.away (by rfl)) _ _ _).decideRollover
  unfold State.testExhausted
  split
  · split
    case h_1 | h_2 | h_3 => exact ended _ _ _
    case h_4 => split <;> [exact h.decideRollover; exact h]
    all_goals exact h
  · exact h

theorem Linked.showStarted (h : s.Linked owing) (byPanel : Bool) : (s.showStarted byPanel).Linked owing := by
  unfold State.showStarted
  dsimp only
  split
  case h_3 => split <;> [split <;> exact h.notify _ _ _; exact h]
  all_goals exact h

/-! ### Halts and motor starts (R49 to R51, R69, R70) -/

theorem Linked.setLinkedState (h : s.Linked owing) (x : EntryState) : (s.setLinkedState p x).Linked owing :=
  h.of_changes (setLinkedState_changes s p x) (by decide)

theorem Linked.disarmChannel (h : s.Linked owing) : (s.disarmChannel p).Linked owing := h.setLinkedState _

theorem Linked.haltNotice (h : s.Linked owing) (cause : HaltCause) (before : State) :
    (s.haltNotice p cause before).Linked owing := by
  cases cause with
  | heat | request | fire => exact h
  | _ => exact h.notify _ _ _

theorem Linked.halt (h : s.Linked owing) (cause : HaltCause) : (s.halt p cause).Linked owing := by
  have released : (if decide (s.token = some p) then (s.toHalted p).setToken none else s.toHalted p).Linked owing := by
    split <;> exact h
  have told := released.haltNotice (p := p) cause s
  unfold State.halt
  split
  · dsimp only
    split <;> [exact told.pictureLost; exact told]
  · exact h

theorem Linked.makeSafe (h : s.Linked owing) (cause : HaltCause) : (s.makeSafe p cause).Linked owing := by
  unfold State.makeSafe
  split <;> [exact h.disarmChannel; exact h.halt cause]

theorem Linked.motorRuns (h : s.Linked owing) : (s.motorRuns p).Linked owing :=
  Linked.setLinkedState (p := p) (h.away (by rfl)) .running

theorem Linked.filmAtStart (h : s.Linked owing) : (s.filmAtStart p).Linked owing := by
  unfold State.filmAtStart
  split <;> [exact h; exact h.halt _]

theorem Linked.startMotor (h : s.Linked owing) : (s.startMotor p).Linked owing := h.motorRuns.filmAtStart

theorem Linked.lateStart (h : s.Linked owing) : (s.lateStart p).Linked owing := by
  unfold State.lateStart
  split <;> [exact h.startMotor; exact h]

/-! ### The picture (R43, R58 to R68) -/

theorem Linked.swap (h : s.Linked owing) (kind : SwapKind) : (s.swap p q kind).Linked owing := by
  have told : ((((s.leaveScreen p false).takeScreen q).positionTo q).swapNotice p q kind s).Linked owing := by
    cases kind <;> exact Linked.notify (h.away (by rfl)) _ _ _
  have swapped : (((((s.leaveScreen p false).takeScreen q).positionTo q).swapNotice p q kind s).applyStart q).Linked
      owing := told.applyAction _ _
  unfold State.swap
  dsimp only
  split <;> [exact swapped.pictureRegained; exact swapped]

theorem Linked.openScreen (h : s.Linked owing) : (s.openScreen p).Linked owing :=
  Linked.lateStart (h.away (by rfl))

theorem Linked.recover (h : s.Linked owing) : (s.recover p).Linked owing :=
  (Linked.notify (h.away (by rfl)) _ _ _).pictureRegained.lateStart

theorem Linked.becomesReady (h : s.Linked owing) : (s.becomesReady p).Linked owing := by
  unfold State.becomesReady
  split
  · split <;> [exact h.swap _; exact h]
  · split <;> [exact h.openScreen; split <;> [exact h.recover; exact h]]

theorem Linked.speedReached (h : s.Linked owing) : (s.speedReached p).Linked owing := by
  have told (c : Channel) (data : List Byte) : ((s.setChan p c).notify .atSpeed p.code data).Linked owing :=
    Linked.notify (h.away (by rfl)) _ _ _
  unfold State.speedReached
  split
  · dsimp only
    split <;> [exact (told _ _).becomesReady; exact told _ _]
  · exact h

/-- R43, R64, R65: a report of a picture condition. -/
theorem Linked.conditionsReported (h : s.Linked owing) : (s.conditionsReported p).Linked owing := by
  unfold State.conditionsReported
  dsimp only
  split
  · split <;> [exact h; exact Linked.pictureLost (h.away (by rfl))]
  · split <;> [exact (Linked.notify (h.away (by rfl)) _ _ _).pictureRegained; exact h]
  · split <;> [exact h.becomesReady; exact h]
  all_goals exact h

/-! ### Cues and the ends of reels (R53 to R59, R62, R72, R73) -/

theorem Linked.pictureEnd (h : s.Linked owing) : (s.pictureEnd p).Linked owing := by
  unfold State.pictureEnd
  dsimp only
  split <;> [exact Linked.showPictureEnd (h.away (by rfl)) _ _; exact h]

theorem Linked.reelEnds (h : s.Linked owing) : (s.reelEnds p).Linked owing := by
  unfold State.reelEnds
  split
  · exact h.pictureEnd
  · exact (Linked.notify (h.away (by rfl)) _ _ _).pictureLost

theorem Linked.takeMotorCue (h : s.Linked owing) (cause : CueCause) : (s.takeMotorCue p cause).Linked owing := by
  have told (c : Channel) (data : List Byte) : ((s.setChan p c).notify .cueMotor p.code data).Linked owing :=
    Linked.notify (h.away (by rfl)) _ _ _
  unfold State.takeMotorCue
  dsimp only
  split
  · exact told _ _
  · split
    · split
      case h_1 => exact (told _ _).startMotor
      case h_2 | h_3 => exact told _ _
      all_goals exact (told _ _).notify _ _ _
    · exact (told _ _).notify _ _ _

theorem Linked.defer (h : s.Linked owing) : (s.defer p).Linked owing := by
  unfold State.defer
  dsimp only
  split
  · split <;> [exact Linked.startMotor (h.away (by rfl)); exact h]
  · exact h

theorem Linked.takeChange (h : s.Linked owing) (cause : CueCause) : (s.takeChange p cause).Linked owing := by
  have told (c : Channel) (data : List Byte) : ((s.setChan p c).notify .cueChange p.code data).Linked owing :=
    Linked.notify (h.away (by rfl)) _ _ _
  unfold State.takeChange
  dsimp only
  split
  · exact (told _ _).pictureEnd
  · split
    · split <;> [exact (told _ _).swap _; exact (told _ _).defer]
    · exact (told _ _).defer

theorem Linked.foilEvent (h : s.Linked owing) : (s.foilEvent p).Linked owing := by
  have counted (c : Channel) : (s.setChan p c).Linked owing := h
  unfold State.foilEvent
  dsimp only
  split
  · exact h
  · split
    · exact h
    all_goals
      split <;> [exact (counted _).takeMotorCue _; skip]
      split <;> [exact (counted _).takeChange _; exact (counted _).notify _ _ _]

theorem Linked.footagePoint (h : s.Linked owing) (x : FootagePoint) : (s.footagePoint p x).Linked owing := by
  unfold State.footagePoint
  dsimp only
  split
  · exact h
  · cases x <;> dsimp only
    · split <;> [exact h.takeMotorCue _; exact h]
    · split <;> [exact (h.notify _ _ _).takeMotorCue _; exact h]
    · split <;> [exact h.takeChange _; exact h]
    · split <;> [exact (h.notify _ _ _).takeChange _; exact h]
    · exact h.reelEnds
    · exact h

theorem Linked.finishReel (h : s.Linked owing) : (s.finishReel p).Linked owing := by
  unfold State.finishReel
  dsimp only
  split
  · exact h
  · next i _ =>
    have told (c : Channel) (x : Plan) (data : List Byte) :
        (((s.setChan p c).setPlan x).notify .reelDone p.code data).Linked owing :=
      Linked.notify (h.away (by rfl)) _ _ _
    exact Linked.testExhausted (Linked.away (told _ _ _) (by rfl)) true

theorem Linked.reelDone (h : s.Linked owing) : (s.reelDone p).Linked owing := by
  unfold State.reelDone
  split <;> [exact Linked.finishReel (h.away (by rfl)); exact h]

/-! ### Film motion (R23 to R36) -/

theorem Linked.testSpeed (h : s.Linked owing) : (s.testSpeed p).Linked owing := by
  unfold State.testSpeed
  dsimp only
  split <;> [exact Linked.speedReached (h.away (by rfl)); exact h.away (by rfl)]

theorem Linked.testPoints (h : s.Linked owing) : (s.testPoints p).Linked owing := by
  have tried (points : List FootagePoint) : (points.foldl (State.tryPoint p) s).Linked owing := by
    refine List.foldlRecOn (motive := Linked owing) _ _ h fun u hu x _ => ?_
    unfold State.tryPoint
    split <;> [exact Linked.footagePoint (hu.away (by rfl)) x; exact hu]
  have tail : (s.tryTailEnd p).Linked owing := by
    unfold State.tryTailEnd
    split <;> [exact Linked.reelDone (h.away (by rfl)); exact h]
  unfold State.testPoints
  split
  case h_1 | h_2 => exact tried _
  case h_3 => exact tail
  all_goals exact h

theorem Linked.countFrame (h : s.Linked owing) : (s.countFrame p).Linked owing := by
  unfold State.countFrame
  split <;> [exact Linked.testPoints (h.away (by rfl)); exact h]

theorem Linked.pulse (h : s.Linked owing) : (s.pulse p).Linked owing := by
  unfold State.pulse
  split <;> [exact h; exact (Linked.testSpeed (h.away (by rfl))).countFrame]

theorem Linked.foilActivation (h : s.Linked owing) : (s.foilActivation p).Linked owing := by
  unfold State.foilActivation
  split <;> [exact Linked.foilEvent (h.away (by rfl)); exact h]

theorem Linked.filmGone (h : s.Linked owing) : (s.filmGone p).Linked owing := by
  unfold State.filmGone
  split
  case h_1 | h_2 | h_3 | h_4 => exact h.halt _
  case h_5 => exact h.reelDone
  all_goals exact h

end Sys2Proof.Machine.State
end

section
/-! PROOF. Arcs, shutters, heat, fire and the dimmer bus keep the links (R77 to R118, R136 to R146). -/

namespace Sys2Proof.Machine.State

variable {owing : Option Connector} {s t : State} {p q : Projector}

/-! ### Arcs (R78 to R96) -/

theorem Linked.arcTo (h : s.Linked owing) (new : ArcState) (cause : ArcCause) : (s.arcTo p new cause).Linked owing :=
  (Linked.notify (h.away (by rfl)) _ _ _).conditionsReported

theorem Linked.putOut (h : s.Linked owing) (cause : ArcCause) : (s.putOut p cause).Linked owing := by
  unfold State.putOut
  split <;> [exact h; exact h.arcTo _ _]

theorem Linked.exhaustArc (h : s.Linked owing) : (s.exhaustArc p).Linked owing := (h.notify _ _ _).arcTo _ _

theorem Linked.failStrike (h : s.Linked owing) : (s.failStrike p).Linked owing := (h.notify _ _ _).arcTo _ _

theorem Linked.beginStrike (h : s.Linked owing) : (s.beginStrike p).Linked owing :=
  (Linked.notify (h.away (by rfl)) _ _ _).conditionsReported

theorem Linked.testTouch (h : s.Linked owing) : (s.testTouch p).Linked owing := by
  unfold State.testTouch
  split <;> exact h

theorem Linked.endDraw (h : s.Linked owing) : (s.endDraw p).Linked owing := by
  unfold State.endDraw
  split
  · split <;> [exact Linked.arcTo (h.away (by rfl)) _ _; exact h.exhaustArc]
  · exact h.failStrike

theorem Linked.completeBucket (h : s.Linked owing) : (s.completeBucket p).Linked owing := by
  have checked {u : State} (hu : u.Linked owing) : (u.runningCheck p).Linked owing := by
    unfold State.runningCheck
    dsimp only
    split <;> [exact Linked.away (hu.notify _ _ _) (by rfl); exact hu]
  exact checked (h.away (by rfl))

theorem Linked.regulate (h : s.Linked owing) : (s.regulate p).Linked owing := by
  have counted {u : State} (hu : u.Linked owing) : (u.countInterval p).Linked owing := by
    unfold State.countInterval
    split <;> [exact hu.completeBucket; exact hu]
  unfold State.regulate
  dsimp only
  split
  · exact h.arcTo _ _
  · split
    · exact Linked.exhaustArc (h.away (by rfl))
    · split <;> [exact Linked.arcTo (h.away (by rfl)) _ _; exact counted (h.away (by rfl))]

theorem Linked.stubChanged (h : s.Linked owing) : (s.stubChanged p).Linked owing := by
  unfold State.stubChanged
  split <;> [exact h.exhaustArc; exact h]

/-! ### Shutters (R99 to R106) -/

theorem Linked.shutterTo (h : s.Linked owing) (sh : Shutter) (new : ShutterState) (cause : ShutterCause) :
    (s.shutterTo sh new cause).Linked owing := by
  have told : ((s.placeShutter sh new cause).shutterNotice sh (s.shutterOf sh).state).Linked owing :=
    Linked.notify (h.away (by rfl)) _ _ _
  unfold State.shutterTo
  dsimp only
  split <;> [exact told.conditionsReported; exact told]

/-! ### Heat and fire (R107 to R118) -/

theorem Linked.fireNotice (h : s.Linked owing) (x : Source) (added : Byte) : (s.fireNotice x added).Linked owing :=
  h.notify _ _ _

theorem Linked.fireEntry (h : s.Linked owing) (x : Source) : (s.fireEntry x).Linked owing := by
  have dropped {u : State} (hu : u.Linked owing) (shutters : List Shutter) :
      (shutters.foldl (fun t sh => t.dropForFire sh) u).Linked owing := by
    refine List.foldlRecOn (motive := Linked owing) _ _ hu fun t ht sh _ => ?_
    unfold State.dropForFire
    split <;> [exact ht.shutterTo _ _ _; exact ht]
  have locked : (s.setFire ⟨true, some x, [x], some s.prog.clock, true⟩).Linked owing := h
  have halted := (locked.makeSafe (p := .a) .fire).makeSafe (p := .b) .fire
  exact ((dropped (Linked.fireNotice (halted.away (by rfl)) x 0) shutterOrder).putOut .fire).putOut .fire

theorem Linked.fireSource (h : s.Linked owing) (x : Source) : (s.fireSource x).Linked owing := by
  unfold State.fireSource
  split
  · split <;> [exact h; exact Linked.fireNotice (h.away (by rfl)) x 1]
  · exact h.fireEntry x

theorem Linked.testFireInput (h : s.Linked owing) (x : FireInput) : (s.testFireInput x).Linked owing := by
  unfold State.testFireInput
  split <;> [exact h.fireSource _; exact h]

theorem Linked.compareHeat (h : s.Linked owing) : (s.compareHeat p).Linked owing :=
  h.of_changes (compareHeat_changes s p) (by simp)

theorem Linked.stage1TimerTest (h : s.Linked owing) : (s.stage1TimerTest p).Linked owing := by
  rcases stage1TimerTest_cases s p with ⟨-, same⟩ | ⟨-, acts⟩
  · rwa [same]
  · rw [acts]
    exact (Linked.notify (h.away (by rfl)) _ _ _).makeSafe _

theorem Linked.dousedTimerTest (h : s.Linked owing) : (s.dousedTimerTest p).Linked owing := by
  rcases dousedTimerTest_cases s p with ⟨-, same⟩ | ⟨-, trips⟩
  · rwa [same]
  · rw [trips]
    exact Linked.fireSource (h.away (by rfl)) _

theorem Linked.fireCleared (h : s.Linked owing) : s.fireCleared.Linked owing := by
  have reported {u : State} (hu : u.Linked owing) :
      ((u.conditionsReported .a).conditionsReported .b).Linked owing := hu.conditionsReported.conditionsReported
  exact Linked.notify (reported (h.away (by rfl))) _ _ _

/-- R118: at power-on every link is empty. -/
theorem linked_poweredUp (s : State) : s.poweredUp.Linked none := by
  have link (l : Connector) : s.poweredUp.linkOf l = Link.reset := by cases l <;> rfl
  refine ⟨fun l _ m _ _ bound => ?_, fun l => ?_⟩
  · rw [link] at bound
    cases bound
  · rw [link]
    exact ⟨rfl, Nat.zero_le _, .nil, fun _ => rfl⟩

/-! ### The dimmer bus (R122, R136 to R146) -/

theorem Linked.fadeStep (h : s.Linked owing) : s.fadeStep.Linked owing := by
  refine List.foldlRecOn (motive := Linked owing) _ _ h fun t ht g _ => ?_
  unfold State.fadeStepOn
  dsimp only
  split <;> [exact Linked.route (ht.away (by rfl)) _; exact ht]

theorem Linked.cycleStart (h : s.Linked owing) : s.cycleStart.Linked owing :=
  Linked.away (Linked.fadeStep (s := (s.passTo s.bus.cycleDue).promoteCycle) (h.away (by rfl))) (by rfl)

theorem Linked.sendPacket (h : s.Linked owing) : s.sendPacket.Linked owing := by
  unfold State.sendPacket
  dsimp only
  repeat' split
  all_goals exact h

theorem Linked.windowEnds (h : s.Linked owing) (reply : List Byte) : (s.windowEnds reply).Linked owing := by
  have answered {u : State} (hu : u.Linked owing) (x : Pack) (flag : Bool) : (u.packAnswers flag x).Linked owing := by
    unfold State.packAnswers
    dsimp only
    split <;> [exact hu; exact Linked.notify (hu.away (by rfl)) _ _ _]
  have missed {u : State} (hu : u.Linked owing) (x : Pack) : (u.packMisses x).Linked owing := by
    unfold State.packMisses
    dsimp only
    split <;> [exact Linked.notify (hu.away (by rfl)) _ _ _; exact hu]
  unfold State.windowEnds
  dsimp only
  split
  · exact h
  · split
    · exact h
    · split <;> [exact answered (h.away (by rfl)) _ _; exact missed (h.away (by rfl)) _]

theorem Linked.roundAnswered (h : s.Linked owing) (contenders : List Serial) (ack : List Byte) :
    (s.roundAnswered contenders ack).Linked owing := by
  have won {u : State} (hu : u.Linked owing) (serial : Serial) : (u.roundWon serial).Linked owing := by
    unfold State.roundWon
    split
    · exact Linked.notify (hu.away (by rfl)) _ _ _
    · split <;> exact Linked.notify (hu.away (by rfl)) _ _ _
  have void {u : State} (hu : u.Linked owing) (serial : Serial) : (u.roundVoid serial).Linked owing := by
    unfold State.roundVoid
    dsimp only
    split <;> exact hu
  unfold State.roundAnswered
  dsimp only
  split <;> [exact won (h.away (by rfl)) _; exact void (h.away (by rfl)) _]

theorem Linked.countRound (h : s.Linked owing) (answered : Bool) : (s.countRound answered).Linked owing := by
  unfold State.countRound
  dsimp only
  split
  · split
    · exact Linked.notify (h.away (by rfl)) _ _ _
    · split <;> [exact Linked.notify (h.away (by rfl)) _ _ _; exact h]
  · exact h

theorem Linked.roundEnds (h : s.Linked owing) (contenders : List Serial) (ack : List Byte) :
    (s.roundEnds contenders ack).Linked owing := by
  have due : (s.modBus fun b => { b with roundDue := false, out := [] }).Linked owing := h
  unfold State.roundEnds
  split
  · dsimp only
    split <;> [exact due.countRound _; exact (due.roundAnswered _ _).countRound _]
  · exact h

theorem Linked.breakEnds (h : s.Linked owing) : s.breakEnds.Linked owing := by
  unfold State.breakEnds
  split <;> exact h

end Sys2Proof.Machine.State
end

section
/-! PROOF. Every request keeps the links (R9 to R19, R45 to R76, R80 to R102, R115, R123, R145 to R149, R160, R169,
R172, R179, R182, R186). -/

namespace Sys2Proof.Machine.State

variable {owing : Option Connector} {s t : State} {p q : Projector}

/-! ### The plan (R9 to R16) -/

theorem Linked.edited (h : s.Linked owing) (i : Nat) (entries : List Entry) :
    (((s.releaseChannel i).setEntries entries).testExhausted false).Linked owing :=
  Linked.testExhausted (Linked.away (h.of_changes (releaseChannel_changes s i) (by decide)) (by rfl)) false

theorem Linked.planWriteAnswer (h : s.Linked owing) (i : Nat) (x : EntryForm) :
    (planWriteAnswer i x s).state.Linked owing := by
  unfold Machine.planWriteAnswer
  split <;> [exact h; split <;> [exact h; skip]]
  dsimp only
  split <;> [exact h.edited i _; exact h]

theorem Linked.planSkipAnswer (h : s.Linked owing) (i : Nat) : (planSkipAnswer i s).state.Linked owing := by
  unfold Machine.planSkipAnswer
  split
  · exact h
  · split
    case h_5 | h_6 =>
      dsimp only
      split <;> [exact h.edited i _; exact h]
    all_goals exact h

theorem Linked.planInsertAnswer (h : s.Linked owing) (i : Nat) (x : EntryForm) :
    (planInsertAnswer i x s).state.Linked owing := by
  unfold Machine.planInsertAnswer
  split <;> [exact h; split <;> [exact h; split <;> [exact h; skip]]]
  dsimp only
  split <;> exact h

theorem Linked.planDeleteAnswer (h : s.Linked owing) (i : Nat) : (planDeleteAnswer i s).state.Linked owing := by
  have released := h.of_changes (releaseChannel_changes s i) (by decide)
  unfold Machine.planDeleteAnswer
  split <;> [exact h; split <;> [exact h; skip]]
  dsimp only
  split <;> [exact Linked.testExhausted (released.away (by rfl)) _; exact h]

theorem Linked.planHeaderAnswer (h : s.Linked owing) (count : Nat) : (planHeaderAnswer count s).state.Linked owing := by
  have released {u : State} (hu : u.Linked owing) (p : Projector) : (u.releaseForRestart p).Linked owing :=
    hu.of_changes (releaseForRestart_changes u p) (by simp)
  have counted : (s.setPlan { s.plan with repeatCount := count }).Linked owing := h
  change (s.writeHeader count).Linked owing
  unfold State.writeHeader
  dsimp only
  split
  · exact Linked.away (released (released counted .a) .b) (by rfl)
  · exact counted

/-! ### The channels and the show (R45 to R76, R160) -/

theorem Linked.threadedAnswer (h : s.Linked owing) (label : Byte) : (threadedAnswer label p s).state.Linked owing := by
  have declared (i : Nat) : (s.declareThreaded p i).Linked owing :=
    h.of_changes (declareThreaded_changes s p i) (by simp)
  unfold Machine.threadedAnswer
  split
  · split <;> exact h
  · split
    · exact h
    · split <;> [exact h; split <;> [exact h; exact declared _]]

theorem Linked.unlinkPending (h : s.Linked owing) : (s.unlinkPending p).Linked owing :=
  h.setLinkedState (p := p) .pending

theorem Linked.unthreadAnswer (h : s.Linked owing) : (unthreadAnswer p s).state.Linked owing := by
  unfold Machine.unthreadAnswer
  split
  case h_1 => exact h.unlinkPending
  all_goals exact h

theorem Linked.armAnswer (h : s.Linked owing) : (armAnswer p s).state.Linked owing := by
  have armed : (s.armChannel p).Linked owing :=
    Linked.lateStart (Linked.away (h.setLinkedState (p := p) .armed) (by rfl))
  unfold Machine.armAnswer
  split
  · split <;> [exact h; exact armed]
  all_goals exact h

theorem Linked.disarmAnswer (h : s.Linked owing) : (disarmAnswer p s).state.Linked owing := by
  unfold Machine.disarmAnswer
  split
  case h_1 => exact h.disarmChannel
  all_goals exact h

theorem Linked.stopAnswer (h : s.Linked owing) : (stopAnswer p s).state.Linked owing := by
  unfold Machine.stopAnswer
  split
  case h_1 | h_2 | h_3 | h_4 | h_5 => exact h.halt _
  all_goals exact h

theorem Linked.clearAnswer (h : s.Linked owing) : (clearAnswer p s).state.Linked owing := by
  have cleared : (s.clearChannel p).Linked owing := by
    unfold State.clearChannel
    split
    · exact h.finishReel
    · split <;> [exact h.disarmChannel.testExhausted _; exact h.unlinkPending.testExhausted _]
  unfold Machine.clearAnswer
  split <;> [exact cleared; exact h]

theorem Linked.startOn (h : s.Linked owing) (byPanel : Bool) : (s.startOn byPanel q).Linked owing := by
  have opened : (s.openShow byPanel q).Linked owing :=
    Linked.applyAction (Linked.away (h.showStarted byPanel) (by rfl)) _ _
  unfold State.startOn
  dsimp only
  split
  · exact Linked.filmAtStart (Linked.away (opened.motorRuns (p := q)) (by rfl))
  · split <;> [exact Linked.openScreen (opened.away (by rfl)); exact opened]

theorem Linked.startShowAnswer (h : s.Linked owing) : (startShowAnswer s).state.Linked owing := by
  unfold Machine.startShowAnswer
  split <;> [exact h.startOn true; exact h]

theorem Linked.timerExpires (h : s.Linked owing) : s.timerExpires.Linked owing := by
  have told (outcome : Byte) : ((s.setProg { s.prog with timer := none }).intermissionEnds outcome).Linked owing :=
    Linked.notify (h.away (by rfl)) _ _ _
  unfold State.timerExpires
  dsimp only
  split
  · split <;> [exact (told 1).startOn false; exact told 1]
  · exact told 2

theorem Linked.changeNowAnswer (h : s.Linked owing) : (changeNowAnswer s).state.Linked owing := by
  unfold Machine.changeNowAnswer
  split <;> [exact h.swap _; exact h]

theorem Linked.boothResetAnswer (h : s.Linked owing) : (boothResetAnswer s).state.Linked owing := by
  have cleared : s.boothCleared.Linked owing := h.away (by rfl)
  have out := (cleared.putOut (p := .a) .boothReset).putOut (p := .b) .boothReset
  unfold Machine.boothResetAnswer
  split <;> [exact h; exact Linked.testExhausted (out.away (by rfl)) false]

theorem Linked.intermissionExtendAnswer (h : s.Linked owing) (seconds : Half) :
    (intermissionExtendAnswer seconds s).state.Linked owing := by
  unfold Machine.intermissionExtendAnswer
  split <;> exact h

/-! ### Arcs, shutters, fire, lights and parameters (R80, R93, R100, R102, R115, R123, R186) -/

theorem Linked.strikeAnswer (h : s.Linked owing) : (strikeAnswer p s).state.Linked owing := by
  unfold Machine.strikeAnswer
  split <;> [exact h; split <;> [exact h; split <;> [exact h; exact h.beginStrike]]]

theorem Linked.carbonLoadAnswer (h : s.Linked owing) (length : Nat) :
    (carbonLoadAnswer length p s).state.Linked owing := by
  have loaded (n : Nat) : (s.loadCarbon p n).Linked owing := by
    unfold State.loadCarbon
    dsimp only
    split <;> [exact h; exact Linked.arcTo (h.away (by rfl)) _ _]
  unfold Machine.carbonLoadAnswer
  split
  case h_1 | h_2 => exact h
  all_goals exact loaded _

theorem Linked.shutterRaiseAnswer (h : s.Linked owing) (sh : Shutter) :
    (shutterRaiseAnswer sh s).state.Linked owing := by
  unfold Machine.shutterRaiseAnswer
  split
  case h_4 | h_5 => split <;> [exact h; exact h.shutterTo _ _ _]
  all_goals exact h

theorem Linked.shutterDropAnswer (h : s.Linked owing) (sh : Shutter) : (shutterDropAnswer sh s).state.Linked owing := by
  unfold Machine.shutterDropAnswer
  split
  case h_1 | h_2 => exact h.shutterTo _ _ _
  all_goals exact h

theorem Linked.fireResetAnswer (h : s.Linked owing) : (fireResetAnswer s).state.Linked owing := by
  unfold Machine.fireResetAnswer
  split <;> [exact h; split <;> [exact h; split <;> [exact h; exact h.fireCleared]]]

theorem Linked.lightsAnswer (h : s.Linked owing) (mask level : Byte) (fade : Half) :
    (lightsAnswer mask level fade s).state.Linked owing := by
  unfold Machine.lightsAnswer
  split
  · exact h
  · dsimp only
    split <;> exact h

theorem Linked.paramActs (h : s.Linked owing) (x : ParamRef) : (s.paramActs x).Linked owing := by
  unfold State.paramActs
  split
  · exact h.testTouch
  · exact h.stubChanged
  · exact h.compareHeat
  · exact h.stage1TimerTest.stage1TimerTest
  · exact h.dousedTimerTest.dousedTimerTest
  all_goals exact h

theorem Linked.paramWriteAnswer (h : s.Linked owing) (value : Half) (x : Option ParamRef) :
    (paramWriteAnswer value x s).state.Linked owing := by
  have raised (ref : ParamRef) (v : Nat) : ((s.placeParam ref v).limitRaised ref).1.Linked owing := by
    unfold State.limitRaised
    split <;> exact h
  cases x with
  | none => exact h
  | some ref => exact (raised ref _).paramActs ref

theorem Linked.paramReadAnswer (h : s.Linked owing) (x : Option ParamRef) :
    (paramReadAnswer x s).state.Linked owing := by
  cases x <;> exact h

/-! ### The dimmer bus, routing and links (R19, R145 to R149, R172, R179, R182) -/

theorem Linked.busResetAnswer (h : s.Linked owing) : (busResetAnswer s).state.Linked owing := by
  unfold Machine.busResetAnswer
  split <;> exact h

theorem Linked.packReadAnswer (h : s.Linked owing) (a : Byte) : (packReadAnswer a s).state.Linked owing := by
  unfold Machine.packReadAnswer
  split <;> [exact h; split <;> exact h]

theorem Linked.packWriteAnswer (h : s.Linked owing) (a g top : Byte) :
    (packWriteAnswer a g top s).state.Linked owing := by
  unfold Machine.packWriteAnswer
  split <;> exact h

theorem Linked.packForgetAnswer (h : s.Linked owing) (a : Byte) : (packForgetAnswer a s).state.Linked owing := by
  unfold Machine.packForgetAnswer
  split <;> [exact h; split <;> exact h]

theorem Linked.routeReadAnswer (h : s.Linked owing) (k : Byte) : (routeReadAnswer k s).state.Linked owing := by
  unfold Machine.routeReadAnswer
  split <;> exact h

theorem Linked.routeWriteAnswer (h : s.Linked owing) (mask k : Byte) :
    (routeWriteAnswer mask k s).state.Linked owing := by
  unfold Machine.routeWriteAnswer
  split <;> exact h

theorem Linked.statusAnswer (h : s.Linked owing) (sect : Byte) : (statusAnswer sect s).state.Linked owing := by
  unfold Machine.statusAnswer
  split <;> exact h

theorem Linked.planReadAnswer (h : s.Linked owing) (i : Byte) : (planReadAnswer i s).state.Linked owing := by
  unfold Machine.planReadAnswer
  split <;> [exact h; split <;> exact h]

theorem roleBound_iff (s : State) (r : Role) : s.roleBound r = true ↔ ∃ m, (s.linkOf m).binding = some r := by
  simp only [State.roleBound, Bool.or_eq_true, decide_eq_true_eq]
  constructor
  · rintro ((a | b) | h)
    exacts [⟨.a, a⟩, ⟨.b, b⟩, ⟨.h, h⟩]
  · rintro ⟨m, bound⟩
    cases m
    exacts [.inl (.inl bound), .inl (.inr bound), .inr bound]

/-- R172: a role that no link has is bound to one link. -/
theorem Linked.bindRole {l : Connector} (h : s.Linked owing) {r : Role} (free : ¬∃ m, (s.linkOf m).binding = some r) :
    (s.bindRole l r).Linked owing := by
  refine Linked.notify (s := s.setLink l { s.linkOf l with binding := some r }) ⟨fun m hm n hn apart bound => ?_,
    fun m => ?_⟩ _ _ _
  · by_cases first : m = l
    · subst first
      rw [linkOf_setLink_self, linkOf_setLink_ne _ _ apart.symm]
      exact fun same => free ⟨n, same.symm⟩
    · rw [linkOf_setLink_ne _ _ first] at bound ⊢
      by_cases second : n = l
      · subst second
        rw [linkOf_setLink_self]
        exact fun same => free ⟨m, same⟩
      · rw [linkOf_setLink_ne _ _ second]
        exact h.1 m hm n hn apart bound
  · by_cases own : m = l
    · subst own
      rw [linkOf_setLink_self]
      obtain ⟨slots, limit, notices, -⟩ := h.2 m
      exact ⟨slots, limit, notices, nofun⟩
    · rw [linkOf_setLink_ne _ _ own]
      exact h.2 m

theorem Linked.identAnswer (h : s.Linked owing) (l : Connector) (role : Byte) :
    (identAnswer l role s).state.Linked owing := by
  unfold Machine.identAnswer
  split
  · exact h
  · split
    · exact h
    · split
      · exact h
      · next free => exact h.bindRole (mt (roleBound_iff s _).mpr free)

/-! ### Every request -/

theorem Linked.screen {α : Type} {owner : α → State → Answer} (h : s.Linked owing)
    (owns : ∀ x, (owner x s).state.Linked owing) (l : Connector) (subject : Option α) (rights : Rights α) :
    (screen l subject rights owner s).state.Linked owing := by
  unfold Machine.screen
  split <;> [exact h; split <;> [exact h; split <;> [exact owns _; exact h]]]

theorem Linked.requestAnswer (h : s.Linked owing) (l : Connector) (r : Request) :
    (requestAnswer l r s).state.Linked owing := by
  cases r with
  | ident role => exact h.identAnswer l role
  | status sect => exact h.screen (fun _ => h.statusAnswer sect) _ _ _
  | planRead i => exact h.screen (fun _ => h.planReadAnswer i) _ _ _
  | planWrite i x => exact h.screen (fun _ => h.planWriteAnswer i.toNat x) _ _ _
  | planInsert i x => exact h.screen (fun _ => h.planInsertAnswer i.toNat x) _ _ _
  | planDelete i => exact h.screen (fun _ => h.planDeleteAnswer i.toNat) _ _ _
  | planSkip i => exact h.screen (fun _ => h.planSkipAnswer i.toNat) _ _ _
  | planHeader n => exact h.screen (fun _ => h.planHeaderAnswer n.toNat) _ _ _
  | threaded p label => exact h.screen (fun _ => h.threadedAnswer label) _ _ _
  | unthread p => exact h.screen (fun _ => h.unthreadAnswer) _ _ _
  | arm p => exact h.screen (fun _ => h.armAnswer) _ _ _
  | disarm p => exact h.screen (fun _ => h.disarmAnswer) _ _ _
  | stop p => exact h.screen (fun _ => h.stopAnswer) _ _ _
  | clear p => exact h.screen (fun _ => h.clearAnswer) _ _ _
  | startShow => exact h.screen (fun _ => h.startShowAnswer) _ _ _
  | changeNow => exact h.screen (fun _ => h.changeNowAnswer) _ _ _
  | strike p => exact h.screen (fun _ => h.strikeAnswer) _ _ _
  | arcOff p => exact h.screen (fun _ => h.putOut _) _ _ _
  | carbonLoad p n => exact h.screen (fun _ => h.carbonLoadAnswer n.toNat) _ _ _
  | shutterRaise sh => exact h.screen (fun x => h.shutterRaiseAnswer x) _ _ _
  | shutterDrop sh => exact h.screen (fun x => h.shutterDropAnswer x) _ _ _
  | lights mask level fade => exact h.screen (fun _ => h.lightsAnswer mask level fade) _ _ _
  | fireReset => exact h.screen (fun _ => h.fireResetAnswer) _ _ _
  | boothReset => exact h.screen (fun _ => h.boothResetAnswer) _ _ _
  | busReset => exact h.screen (fun _ => h.busResetAnswer) _ _ _
  | packRead a => exact h.screen (fun _ => h.packReadAnswer a) _ _ _
  | packWrite a g top => exact h.screen (fun _ => h.packWriteAnswer a g top) _ _ _
  | packForget a => exact h.screen (fun _ => h.packForgetAnswer a) _ _ _
  | paramRead x p => exact h.screen (fun x => h.paramReadAnswer x) _ _ _
  | paramWrite x p v => exact h.screen (fun x => h.paramWriteAnswer v x) _ _ _
  | routeRead k => exact h.screen (fun _ => h.routeReadAnswer k) _ _ _
  | routeWrite k mask => exact h.screen (fun _ => h.routeWriteAnswer mask k) _ _ _
  | intermissionExtend n => exact h.screen (fun _ => h.intermissionExtendAnswer n) _ _ _

end Sys2Proof.Machine.State
end

section
/-! PROOF. Every step keeps the links (R169, R172, R174, R176, R180): frames and bytes, and each command. -/

namespace Sys2Proof.Machine

namespace State

variable {s t : State} {l : Connector}

/-! ### Requests, frames and bytes (R168 to R176) -/

/-- What a link event writes of its own link. -/
theorem Linked.modLink (h : s.Linked none) {f : Link → Link} (bound : (f (s.linkOf l)).binding = (s.linkOf l).binding)
    (own : (f (s.linkOf l)).Kept 0) : (s.modLink l f).Linked none :=
  h.setLink bound (by simpa using own) fun _ _ => Iff.rfl

/-- R168, R170: the receiver and the error flags are no part of what is kept. -/
theorem Linked.modReceiver (h : s.Linked none) (stage : RxStage) (assembly : List Byte) (discard overrun : Bool) :
    (s.setLink l { s.linkOf l with stage, assembly, discard, overrun }).Linked none := by
  obtain ⟨slots, limit, notices, unbound⟩ := h.2 l
  exact h.setLink rfl ⟨slots, limit, notices, unbound⟩ fun _ _ => Iff.rfl

/-- R169: a request that has taken a slot owes its reply. -/
theorem Linked.takeSlot (h : s.Linked none) (room : (s.linkOf l).slots.length < Config.slotLimit) (body : List Byte) :
    (s.takeSlot l body).Linked (some l) := by
  obtain ⟨slots, -, notices, unbound⟩ := h.2 l
  refine h.setLink rfl ⟨?_, by simpa using room, notices, unbound⟩ fun m other => ?_
  · rw [if_pos rfl]
    rw [if_neg nofun] at slots
    simp [slots]
  · simpa using Ne.symm other

/-- R169, R174: the reply it owed is queued. -/
theorem Linked.queueReply (h : s.Linked (some l)) (r : Reply) : (s.queueReply l r).Linked none := by
  obtain ⟨slots, limit, notices, unbound⟩ := h.2 l
  refine h.setLink rfl ⟨?_, limit, notices, unbound⟩ fun m other => ?_
  · rw [if_pos rfl] at slots
    rw [if_neg nofun]
    simp only [List.length_append, List.length_singleton]
    omega
  · simpa using Ne.symm other

theorem Linked.takeRequest (h : s.Linked none) {answer : State → Answer} (kind : Byte) (params : List Byte)
    (owns : ∀ u : State, u.Linked (some l) → (answer u).state.Linked (some l)) :
    (s.takeRequest l kind params answer).Linked none := by
  unfold State.takeRequest
  split
  · exact h
  · split
    · exact h.modReceiver .hunt [] _ true
    · next room =>
      have room : (s.linkOf l).slots.length < Config.slotLimit := by simpa [State.slotsFull] using room
      exact (owns _ (h.takeSlot room _)).queueReply _

theorem Linked.request (h : s.Linked none) (l : Connector) (r : Request) : (s.request l r).Linked none :=
  h.takeRequest _ _ fun _ hu => hu.requestAnswer l r

theorem Linked.frame (h : s.Linked none) (kind : Byte) (params : List Byte) : (s.frame l kind params).Linked none := by
  unfold State.frame
  split
  · exact h.request l _
  · refine h.takeRequest _ _ fun u hu => ?_
    unfold malformedAnswer
    split <;> exact hu

theorem Linked.discardFrame (h : s.Linked none) : (s.discardFrame l).Linked none := h.modReceiver .hunt [] true _

theorem Linked.frameBody (h : s.Linked none) (body : List Byte) : (s.frameBody l body).Linked none := by
  unfold State.frameBody
  split
  · exact h
  · split
    · exact h.discardFrame
    · split <;> [exact h.frame _ _; exact h.discardFrame]

theorem Linked.checkFrame (h : s.Linked none) (assembly : List Byte) : (s.checkFrame l assembly).Linked none := by
  have cleared : (s.modLink l fun k => { k with stage := .hunt, assembly := [] }).Linked none :=
    h.modReceiver .hunt [] _ _
  unfold State.checkFrame
  split
  · dsimp only
    split <;> [exact cleared.frame _ _; exact cleared]
  · exact h.discardFrame

theorem Linked.receiveByte (h : s.Linked none) (b : Byte) (framingError : Bool) :
    (s.receiveByte l b framingError).Linked none := by
  unfold State.receiveByte
  split
  · split <;> [exact h.modReceiver .length [] _ _; exact h]
  · split
    · exact h.discardFrame
    · unfold State.lengthByte
      split <;> [exact h.modReceiver .body [b] _ _; exact h.discardFrame]
  · split
    · exact h.discardFrame
    · unfold State.bodyByte
      dsimp only
      split <;> [exact h.modReceiver _ _ _ _; exact h.checkFrame _]
  · exact h

theorem Linked.gap (h : s.Linked none) : (s.gap l).Linked none := by
  unfold State.gap
  split
  case h_1 | h_2 => exact h.discardFrame
  all_goals exact h

theorem Linked.markReturns (h : s.Linked none) : (s.markReturns l).Linked none := by
  unfold State.markReturns
  split <;> [exact h.modReceiver .hunt _ _ _; exact h]

/-- R170: a link reset leaves the link empty, and its role free. -/
theorem Linked.linkReset (h : s.Linked none) : (s.linkReset l).Linked none := by
  have broken : (s.setLink l brokenLink).Linked none := by
    refine ⟨fun m hm n hn apart bound => ?_, fun m => ?_⟩
    · by_cases first : m = l
      · subst first
        rw [linkOf_setLink_self] at bound
        cases bound
      · rw [linkOf_setLink_ne _ _ first] at bound ⊢
        by_cases second : n = l
        · subst second
          rw [linkOf_setLink_self]
          exact fun same => by simp [same, brokenLink] at bound
        · rw [linkOf_setLink_ne _ _ second]
          exact h.1 m hm n hn apart bound
    · by_cases own : m = l
      · subst own
        rw [linkOf_setLink_self]
        exact ⟨rfl, Nat.zero_le _, .nil, fun _ => rfl⟩
      · rw [linkOf_setLink_ne _ _ own]
        exact h.2 m
  unfold State.linkReset
  dsimp only
  split <;> [exact broken.notify _ _ _; exact broken]

/-- R169, R176: the slot of a reply sent is freed. -/
theorem Linked.frameSent (h : s.Linked none) : (s.frameSent l).Linked none := by
  obtain ⟨slots, limit, notices, unbound⟩ := h.2 l
  unfold State.frameSent
  split
  · exact h
  · next frame sends =>
    simp only [sends, Tx.sendsReply] at slots
    refine h.modLink rfl ⟨?_, ?_, notices, unbound⟩
    · simp [Tx.sendsReply] at slots ⊢
      omega
    · simp at limit ⊢
      omega
  · next frame sends =>
    rw [sends] at slots
    exact h.modLink rfl ⟨slots, limit, notices, unbound⟩

end State

/-- An outcome whose next state, where it has one, keeps the laws of the links. -/
abbrev EndsLinked (o : Host.Outcome State Fault Refusal) : Prop := ∀ t, o = .next t → t.roleLaw ∧ t.queueLaw

section

variable {s : State} (h : s.Linked none)

include h

theorem endsLinked_completed : EndsLinked s.completed := by
  intro t ht
  cases ht
  exact h.finish

/-! ### Film motion (R23 to R36, R52) -/

theorem endsLinked_ringTimeout (p : Projector) : EndsLinked (execRingTimeout p s) := by
  unfold execRingTimeout
  split <;> exact endsLinked_completed (h.away (by rfl))

theorem endsLinked_stallTimeout (p : Projector) : EndsLinked (execStallTimeout p s) := by
  unfold execStallTimeout
  split
  · exact endsLinked_completed h
  · split <;> [exact endsLinked_completed (State.Linked.halt (h.away (by rfl)) _); exact endsLinked_completed h]

theorem endsLinked_foilInputChange (p : Projector) (active : Bool) : EndsLinked (execFoilInputChange p active s) := by
  unfold execFoilInputChange
  split
  · exact endsLinked_completed h
  · dsimp only
    split <;> exact endsLinked_completed (h.away (by rfl))

theorem endsLinked_foilQualifyExpiry (p : Projector) : EndsLinked (execFoilQualifyExpiry p s) := by
  have passed := h.passToDue (s.motionOf p).foilDue
  unfold execFoilQualifyExpiry
  split
  · exact endsLinked_completed (State.Linked.foilActivation (passed.away (by rfl)))
  · exact endsLinked_completed h

theorem endsLinked_foilReleaseExpiry (p : Projector) : EndsLinked (execFoilReleaseExpiry p s) := by
  have passed := h.passToDue (s.motionOf p).foilDue
  unfold execFoilReleaseExpiry
  split <;> [exact endsLinked_completed (passed.away (by rfl)); exact endsLinked_completed h]

theorem endsLinked_filmSwitchChange (p : Projector) (closed : Bool) :
    EndsLinked (execFilmSwitchChange p closed s) := by
  unfold execFilmSwitchChange
  split <;> exact endsLinked_completed (h.away (by rfl))

theorem endsLinked_filmFilterExpiry (p : Projector) : EndsLinked (execFilmFilterExpiry p s) := by
  unfold execFilmFilterExpiry
  split
  · exact endsLinked_completed h
  · split
    · dsimp only
      split <;> [exact endsLinked_completed (State.Linked.filmGone (h.away (by rfl)));
        exact endsLinked_completed (h.away (by rfl))]
    · exact endsLinked_completed h

theorem endsLinked_runupStage1Expiry (p : Projector) : EndsLinked (execRunupStage1Expiry p s) := by
  have passed := h.passToDue (s.chanOf p).runupDue
  unfold execRunupStage1Expiry
  split <;> [exact endsLinked_completed (State.Linked.away (passed.notify _ _ _) (by rfl));
    exact endsLinked_completed h]

theorem endsLinked_runupStage2Expiry (p : Projector) : EndsLinked (execRunupStage2Expiry p s) := by
  unfold execRunupStage2Expiry
  split <;> [exact endsLinked_completed ((h.passToDue _).halt _); exact endsLinked_completed h]

/-! ### Arcs (R81 to R92) -/

theorem endsLinked_touchTimerExpiry (p : Projector) : EndsLinked (execTouchTimerExpiry p s) := by
  unfold execTouchTimerExpiry
  split <;> [exact endsLinked_completed (h.passToDue _).failStrike; exact endsLinked_completed h]

theorem endsLinked_drawTimerExpiry (p : Projector) (voltage : Byte) : EndsLinked (execDrawTimerExpiry p voltage s) := by
  have passed := h.passToDue (s.arcOf p).strikeDue
  unfold execDrawTimerExpiry
  split <;> [exact endsLinked_completed (State.Linked.endDraw (passed.away (by rfl))); exact endsLinked_completed h]

theorem endsLinked_regulationInterval (p : Projector) (voltage : Byte) :
    EndsLinked (execRegulationInterval p voltage s) := by
  unfold execRegulationInterval
  dsimp only
  split
  · exact endsLinked_completed (State.Linked.regulate (h.away (by rfl)))
  · exact endsLinked_completed (h.away (by rfl))

theorem endsLinked_strikeElapsedTick (p : Projector) : EndsLinked (execStrikeElapsedTick p s) := by
  unfold execStrikeElapsedTick
  split <;> exact endsLinked_completed (h.away (by rfl))

/-! ### Shutters and the show (R101 to R105, R159, R163) -/

theorem endsLinked_openSenseChange (sh : Shutter) (made : Bool) : EndsLinked (execOpenSenseChange sh made s) := by
  unfold execOpenSenseChange
  dsimp only
  split
  case h_1 | h_2 => exact endsLinked_completed (State.Linked.shutterTo (h.away (by rfl)) _ _ _)
  all_goals exact endsLinked_completed (h.away (by rfl))

theorem endsLinked_closedSenseChange (sh : Shutter) (made : Bool) : EndsLinked (execClosedSenseChange sh made s) := by
  unfold execClosedSenseChange
  dsimp only
  split
  case h_1 | h_2 | h_3 => exact endsLinked_completed (State.Linked.shutterTo (h.away (by rfl)) _ _ _)
  all_goals exact endsLinked_completed (h.away (by rfl))

theorem endsLinked_raiseTimeout (sh : Shutter) : EndsLinked (execRaiseTimeout sh s) := by
  unfold execRaiseTimeout
  split <;> [exact endsLinked_completed ((h.passToDue _).shutterTo _ _ _); exact endsLinked_completed h]

theorem endsLinked_dropTimeout (sh : Shutter) : EndsLinked (execDropTimeout sh s) := by
  unfold execDropTimeout
  split <;> [exact endsLinked_completed ((h.passToDue _).shutterTo _ _ _); exact endsLinked_completed h]

theorem endsLinked_intermissionExpiry : EndsLinked (execIntermissionExpiry s) := by
  unfold execIntermissionExpiry
  split
  · split <;> [exact endsLinked_completed h.timerExpires; exact endsLinked_completed (h.away (by rfl))]
  · exact endsLinked_completed h

theorem endsLinked_showClockTick : EndsLinked (execShowClockTick s) := by
  unfold execShowClockTick State.clockTenth
  split
  · split <;> exact endsLinked_completed (h.away (by rfl))
  · exact endsLinked_completed h

/-! ### Every command -/

omit h in
/-- R118: POWER_ON, from any state. -/
theorem endsLinked_powerOn : EndsLinked (execPowerOn s) :=
  endsLinked_completed (((((State.linked_poweredUp s).compareHeat.compareHeat).testFireInput _).testFireInput
    _).testFireInput _)

theorem endsLinked_exec (c : Instr) : EndsLinked (exec c s) := by
  cases c with
  | powerOn => exact endsLinked_powerOn
  | frameReceived l body => exact endsLinked_completed (h.frameBody body)
  | interbyteGapTimeout l => exact endsLinked_completed h.gap
  | linkBreak l => exact endsLinked_completed h.linkReset
  | linkMarkReturn l => exact endsLinked_completed h.markReturns
  | transmitFrameEnd l => exact endsLinked_completed h.frameSent
  | unknownRequestKind l kind rest => exact endsLinked_completed (h.frameBody (kind :: rest))
  | byteReceived l b framingError => exact endsLinked_completed (h.receiveByte b framingError)
  | ident | status | planRead | planWrite | planInsert | planDelete | planSkip | planHeader | threaded | unthread
  | arm | disarm | stop | clear | startShow | changeNow | boothReset | strike | arcOff | carbonLoad | shutterRaise
  | shutterDrop | fireReset | lights | busReset | packRead | packWrite | packForget | paramRead | paramWrite
  | routeRead | routeWrite | intermissionExtend => exact endsLinked_completed (h.request _ _)
  | tachPulse p instant => exact endsLinked_completed (State.Linked.pulse (h.away (by rfl)))
  | ringTimeout p => exact endsLinked_ringTimeout h p
  | stallTimeout p => exact endsLinked_stallTimeout h p
  | foilInputChange p active => exact endsLinked_foilInputChange h p active
  | foilQualifyExpiry p => exact endsLinked_foilQualifyExpiry h p
  | foilReleaseExpiry p => exact endsLinked_foilReleaseExpiry h p
  | filmSwitchChange p closed => exact endsLinked_filmSwitchChange h p closed
  | filmFilterExpiry p => exact endsLinked_filmFilterExpiry h p
  | runupStage1Expiry p => exact endsLinked_runupStage1Expiry h p
  | runupStage2Expiry p => exact endsLinked_runupStage2Expiry h p
  | arcCurrentChange p current => exact endsLinked_completed (State.Linked.testTouch (h.away (by rfl)))
  | touchTimerExpiry p => exact endsLinked_touchTimerExpiry h p
  | drawTimerExpiry p voltage => exact endsLinked_drawTimerExpiry h p voltage
  | regulationInterval p voltage => exact endsLinked_regulationInterval h p voltage
  | strikeElapsedTick p => exact endsLinked_strikeElapsedTick h p
  | openSenseChange sh made => exact endsLinked_openSenseChange h sh made
  | closedSenseChange sh made => exact endsLinked_closedSenseChange h sh made
  | raiseTimeout sh => exact endsLinked_raiseTimeout h sh
  | dropTimeout sh => exact endsLinked_dropTimeout h sh
  | heatReadingChange p reading => exact endsLinked_completed (State.Linked.compareHeat (h.away (by rfl)))
  | heatStage1Expiry p => exact endsLinked_completed h.stage1TimerTest
  | dousedWaitExpiry p => exact endsLinked_completed h.dousedTimerTest
  | fireSourceOpen x => exact endsLinked_completed (State.Linked.fireSource (h.away (by rfl)) _)
  | heatStageTimerTick | fireSourceClose | keySwitchChange | intermissionTimerTick =>
    exact endsLinked_completed (h.away (by rfl))
  | dimmerCycleStart => exact endsLinked_completed h.cycleStart
  | busBreakEnd => exact endsLinked_completed h.breakEnds
  | levelPacketSent => exact endsLinked_completed h.sendPacket
  | levelReplyWindowEnd reply => exact endsLinked_completed (h.windowEnds reply)
  | identifyRoundEnd contenders ack => exact endsLinked_completed (h.roundEnds contenders ack)
  | intermissionExpiry => exact endsLinked_intermissionExpiry h
  | showClockTick => exact endsLinked_showClockTick h

end

/-- Settles O59: a step on an empty queue leaves the links alone; any other runs the command at the front, which keeps
each link but for the choice of an idle transmitter, and closes with that choice. -/
theorem linksLawKept : Obligations.LinksLawKept := by
  rintro s t ⟨roles, queues⟩ ran
  unfold step at ran
  split at ran
  · cases ran
    exact ⟨roles, queues⟩
  · next c rest _ => exact endsLinked_exec (s := { s with pending := rest }) (.of_laws roles queues) c t ran

end Sys2Proof.Machine
end

section
/-! PROOF. The close of a step (R174, R176, R181), and the frames it sends (R175, R192, R193). -/

namespace Sys2Proof.Machine

/-! ### The notices handed on at the close -/

theorem linkOf_foldl_route (notices : List Notice) (s : State) (l : Connector) :
    (notices.foldl (fun t n => t.route n) s).linkOf l = afterNotices s l notices (s.linkOf l) := by
  induction notices generalizing s with
  | nil => rfl
  | cons n rest ih =>
    rw [List.foldl_cons, ih, linkOf_route]
    rfl

theorem linkOf_handLights (s : State) (l : Connector) :
    s.handLights.linkOf l = afterNotices s l s.lights.out (s.linkOf l) := linkOf_foldl_route _ _ l

theorem lights_finish (s : State) : s.finish.lights = { s.lights with out := [] } :=
  (startIdle_changes _ .lights (by simp)).trans (foldl_route_changes _ _ .lights (by simp))

/-! ### The choice of an idle transmitter (R176) -/

theorem summary_handLights (s : State) (k : Link) (waiting : Nat) :
    s.handLights.summary k waiting = s.summary k waiting := by
  have prog : s.handLights.prog = s.prog := handLights_changes s .prog (by simp)
  have token : s.handLights.token = s.token := (handLights_changes s .token (by simp)).1
  unfold State.summary
  rw [prog, token]

theorem chosen_handLights (s : State) (k : Link) : s.handLights.chosen k = s.chosen k := by
  unfold State.chosen State.replyFrame State.noticeFrame
  simp only [summary_handLights]

theorem linkOf_finish (s : State) (l : Connector) :
    s.finish.linkOf l = s.chosen (afterNotices s l s.lights.out (s.linkOf l)) := by
  rw [← chosen_handLights, ← linkOf_handLights]
  cases l <;> rfl

/-- R181: NOTICES_LOST is cleared by the notice that leaves the queue empty. -/
theorem lost_and_waiting (lost : Bool) (rest : List Notice) :
    (lost && !rest.isEmpty) = if rest = [] then false else lost := by
  cases rest <;> simp

/-! ### Frames (R192) -/

theorem byteSum_append_singleton (xs : List Byte) (x : Byte) : byteSum (xs ++ [x]) = byteSum xs + x := by
  simp [byteSum]

/-- R192: CHECK makes LEN, the body and CHECK sum to 0. -/
theorem byteSum_sealedBody (body : List Byte) : byteSum (sealedBody body) = 0 := by
  unfold sealedBody
  rw [byteSum_append_singleton]
  exact BitVec.add_right_neg _

/-- Settles O2: the notices of the lights are routed before the choices, and a choice builds its frame from parts of the
state that routing leaves as they were. -/
theorem closeOfStep : Obligations.CloseOfStep := by
  refine ⟨fun s => ⟨fun l => ?_, lights_finish s, finish_changes s⟩, ?_⟩
  · rw [linkOf_finish]
    unfold State.chosen
    simp only [lost_and_waiting]
    rcases afterNotices s l s.lights.out (s.linkOf l) with ⟨b, st, as, sl, replies, tx, notices, d, o, lost⟩
    cases tx <;> cases replies <;> cases notices <;> rfl
  · intro s k r n waiting body summary
    have sent (w : Nat) : s.summary k w = summary w := by
      unfold State.summary summary
      rcases s.token with - | - | - <;> rfl
    refine ⟨⟨_, rfl, byteSum_sealedBody body⟩, ?_, ?_⟩
    · simp [State.replyFrame, sent]
    · simp [State.noticeFrame, sent, half]

end Sys2Proof.Machine
end

section
/-! PROOF. The receiver, stage by stage (R168), and the frame that its bytes assemble (R169). -/

namespace Sys2Proof.Machine

namespace State

variable {s : State} {l : Connector}

/-! ### One link written (R167) -/

theorem setLink_linkOf (s : State) (l : Connector) : s.setLink l (s.linkOf l) = s := by cases l <;> rfl

theorem setLink_setLink (s : State) (l : Connector) (j k : Link) : (s.setLink l j).setLink l k = s.setLink l k := by
  cases l <;> rfl

/-! ### BYTE_RECEIVED in each stage (R168) -/

theorem receiveByte_brk (stage : (s.linkOf l).stage = .brk) (b : Byte) (error : Bool) :
    s.receiveByte l b error = s := by
  unfold State.receiveByte
  rw [stage]

theorem receiveByte_hunt (stage : (s.linkOf l).stage = .hunt) (b : Byte) (error : Bool) :
    s.receiveByte l b error =
      if b = 0x7E ∧ !error then s.setLink l { s.linkOf l with stage := .length, assembly := [] } else s := by
  unfold State.receiveByte
  rw [stage]
  rfl

theorem receiveByte_length (stage : (s.linkOf l).stage = .length) (b : Byte) (error : Bool) :
    s.receiveByte l b error = if error then s.discardFrame l else s.lengthByte l b := by
  unfold State.receiveByte
  rw [stage]

theorem receiveByte_body (stage : (s.linkOf l).stage = .body) (b : Byte) (error : Bool) :
    s.receiveByte l b error = if error then s.discardFrame l else s.bodyByte l b := by
  unfold State.receiveByte
  rw [stage]

theorem receiveByte_hunt_ignores {b : Byte} {error : Bool} (stage : (s.linkOf l).stage = .hunt)
    (ignored : b ≠ 0x7E ∨ error = true) : s.receiveByte l b error = s := by
  rw [receiveByte_hunt stage, if_neg]
  rintro ⟨start, good⟩
  rcases ignored with other | bad
  · exact other start
  · simp [bad] at good

theorem receiveByte_hunt_starts (stage : (s.linkOf l).stage = .hunt) :
    s.receiveByte l 0x7E false = s.setLink l { s.linkOf l with stage := .length, assembly := [] } := by
  rw [receiveByte_hunt stage, if_pos ⟨rfl, rfl⟩]

theorem receiveByte_length_taken {b : Byte} (stage : (s.linkOf l).stage = .length) (least : 1 ≤ b.toNat)
    (most : b.toNat ≤ 48) :
    s.receiveByte l b false = s.setLink l { s.linkOf l with stage := .body, assembly := [b] } := by
  rw [receiveByte_length stage, if_neg Bool.false_ne_true]
  exact if_pos ⟨least, most⟩

theorem receiveByte_length_discards {b : Byte} {error : Bool} (stage : (s.linkOf l).stage = .length)
    (bad : error = true ∨ b.toNat = 0 ∨ 48 < b.toNat) : s.receiveByte l b error = s.discardFrame l := by
  rw [receiveByte_length stage]
  split
  · rfl
  · next good =>
    have range : b.toNat = 0 ∨ 48 < b.toNat := bad.resolve_left good
    exact if_neg fun ⟨(least : 1 ≤ b.toNat), (most : b.toNat ≤ 48)⟩ => by omega

theorem receiveByte_body_error (stage : (s.linkOf l).stage = .body) (b : Byte) :
    s.receiveByte l b true = s.discardFrame l := by rw [receiveByte_body stage, if_pos rfl]

theorem receiveByte_body_assembles {len : Byte} {rest : List Byte} (stage : (s.linkOf l).stage = .body)
    (assembled : (s.linkOf l).assembly = len :: rest) (more : rest.length < len.toNat) (b : Byte) :
    s.receiveByte l b false = s.setLink l { s.linkOf l with assembly := (s.linkOf l).assembly ++ [b] } := by
  rw [receiveByte_body stage, if_neg Bool.false_ne_true]
  exact if_pos (by simpa [assembled] using more)

/-- R168: the byte after the body is CHECK. -/
theorem receiveByte_body_checks {len : Byte} {rest : List Byte} (stage : (s.linkOf l).stage = .body)
    (assembled : (s.linkOf l).assembly = len :: rest) (all : rest.length = len.toNat) (b : Byte) :
    s.receiveByte l b false = s.checkFrame l ((s.linkOf l).assembly ++ [b]) := by
  rw [receiveByte_body stage, if_neg Bool.false_ne_true]
  exact if_neg (by simp [assembled, all])

/-! ### INTERBYTE_GAP_TIMEOUT in each stage (R168) -/

theorem gap_discards (stage : (s.linkOf l).stage = .length ∨ (s.linkOf l).stage = .body) :
    s.gap l = s.discardFrame l := by
  unfold State.gap
  rcases stage with stage | stage <;> rw [stage]

theorem gap_ignored (stage : (s.linkOf l).stage = .hunt ∨ (s.linkOf l).stage = .brk) : s.gap l = s := by
  unfold State.gap
  rcases stage with stage | stage <;> rw [stage]

end State

/-- A command that writes one link's record and nothing else. -/
theorem exec_becomes {c : Instr} {s t : State} {l : Connector} {k : Link} (ran : exec c s = .next t.finish)
    (writes : t = s.setLink l k) :
    ∃ u : State, exec c s = .next u.finish ∧ u.linkOf l = k ∧ changesOnly [.link l] s u := by
  subst writes
  exact ⟨_, ran, State.linkOf_setLink_self .., setLink_changes s l k⟩

/-- Settles O7: each clause is the equation of the receiver for its stage. -/
theorem receiverStages : Obligations.ReceiverStages := by
  intro l b error s k becomes discarded
  have byte (b : Byte) (error : Bool) : exec (.byteReceived l b error) s = .next (s.receiveByte l b error).finish := rfl
  have gap : exec (.interbyteGapTimeout l) s = .next (s.gap l).finish := rfl
  refine ⟨fun stage => ?_, fun stage ignored => ?_, ?_, ?_, fun stage bad => ?_, ?_, ?_, ?_, fun stage => ?_,
    fun stage => ?_⟩
  · exact idles_of (State.receiveByte_brk stage b error) (byte b error)
  · exact idles_of (State.receiveByte_hunt_ignores stage ignored) (byte b error)
  · rintro stage rfl rfl
    exact exec_becomes (byte _ _) (State.receiveByte_hunt_starts stage)
  · rintro stage rfl least most
    exact exec_becomes (byte _ _) (State.receiveByte_length_taken stage least most)
  · exact exec_becomes (byte b error) (State.receiveByte_length_discards stage bad)
  · rintro stage rfl
    exact exec_becomes (byte _ _) (State.receiveByte_body_error stage b)
  · rintro len rest stage rfl assembled more
    exact exec_becomes (byte _ _) (State.receiveByte_body_assembles stage assembled more b)
  · rintro len rest stage rfl assembled all wrong
    refine exec_becomes (byte _ _) ((State.receiveByte_body_checks stage assembled all b).trans ?_)
    exact if_neg wrong
  · exact exec_becomes gap (State.gap_discards stage)
  · exact idles_of (State.gap_ignored stage) gap

/-! ### The bytes of a frame (R168, R169) -/

namespace State

variable {s : State} {l : Connector}

theorem foldl_receiveByte_body {len : Byte} {bytes taken : List Byte} (stage : (s.linkOf l).stage = .body)
    (assembled : (s.linkOf l).assembly = len :: taken) (fits : taken.length + bytes.length ≤ len.toNat) :
    bytes.foldl (fun t b => t.receiveByte l b false) s =
      s.setLink l { s.linkOf l with assembly := len :: (taken ++ bytes) } := by
  induction bytes generalizing s taken with
  | nil =>
    rw [List.append_nil, ← assembled]
    exact (setLink_linkOf s l).symm
  | cons b rest ih =>
    rw [List.length_cons] at fits
    have next := receiveByte_body_assembles stage assembled (by omega) b
    rw [assembled, List.cons_append] at next
    rw [List.foldl_cons, next, ih (taken := taken ++ [b]) (by simpa using stage) (by simp)
      (by simp only [List.length_append, List.length_singleton]; omega), setLink_setLink, linkOf_setLink_self,
      List.append_assoc, List.singleton_append]

/-- R168: all the bytes of a frame but CHECK. -/
theorem foldl_receiveByte_frame {body : List Byte} (stage : (s.linkOf l).stage = .hunt) (least : 1 ≤ body.length)
    (most : body.length ≤ 48) :
    (0x7E :: byte body.length :: body).foldl (fun t b => t.receiveByte l b false) s =
      s.setLink l { s.linkOf l with stage := .body, assembly := byte body.length :: body } := by
  have len : (byte body.length).toNat = body.length := by
    rw [byte, BitVec.toNat_ofNat]
    omega
  have started := receiveByte_hunt_starts stage
  have taken := receiveByte_length_taken (b := byte body.length)
    (s := s.setLink l { s.linkOf l with stage := .length, assembly := [] }) (l := l) (by simp) (by omega) (by omega)
  rw [List.foldl_cons, List.foldl_cons, started, taken, foldl_receiveByte_body (len := byte body.length) (taken := [])
    (by simp) (by simp) (by simp [len]), setLink_setLink, setLink_setLink, linkOf_setLink_self, linkOf_setLink_self,
    List.nil_append]

/-- R168: the CHECK byte of a good frame clears the receiver, and the frame has completed. -/
theorem checkFrame_good {len check kind : Byte} {params : List Byte}
    (good : byteSum (len :: (kind :: params) ++ [check]) = 0) (s : State) :
    s.checkFrame l (len :: (kind :: params) ++ [check]) =
      (s.setLink l { s.linkOf l with stage := .hunt, assembly := [] }).frame l kind params := by
  unfold State.checkFrame
  rw [if_pos good, List.cons_append, List.tail_cons, List.dropLast_concat]
  rfl

theorem frameBody_frame {kind : Byte} {params : List Byte} (up : (s.linkOf l).stage ≠ .brk)
    (fits : params.length ≤ 47) : s.frameBody l (kind :: params) = s.frame l kind params := by
  unfold State.frameBody
  rw [if_neg up]
  exact if_pos (Nat.succ_le_succ fits)

end State

/-- Settles O4: the bytes before CHECK are assembled one by one, and CHECK finds the receiver's record as the frame
itself does. -/
theorem receiverAssemblesFrames : Obligations.ReceiverAssemblesFrames := by
  intro l body s least most stage empty
  have bytes : (frameOf body).dropLast = 0x7E :: byte body.length :: body :=
    List.dropLast_concat (l₁ := 0x7E :: byte body.length :: body)
  have check : (frameOf body).getLastD 0 = -(byteSum (byte body.length :: body)) :=
    List.getLastD_concat (l := 0x7E :: byte body.length :: body)
  have len : (byte body.length).toNat = body.length := by
    rw [byte, BitVec.toNat_ofNat]
    omega
  refine ⟨_, rfl, ?_⟩
  rw [bytes, check, State.foldl_receiveByte_frame stage least most]
  refine ⟨setLink_changes _ _ _, State.linkOf_setLink_self .., _, rfl, ?_⟩
  cases body with
  | nil => simp at least
  | cons kind params =>
    have completes : (s.setLink l { s.linkOf l with
          stage := .body, assembly := byte (kind :: params).length :: kind :: params }).receiveByte l
        (-(byteSum (byte (kind :: params).length :: kind :: params))) false = s.frameBody l (kind :: params) := by
      rw [State.receiveByte_body_checks (len := byte (kind :: params).length) (rest := kind :: params) (by simp)
        (by simp) len.symm, State.linkOf_setLink_self, State.checkFrame_good (byteSum_sealedBody (kind :: params)),
        State.setLink_setLink, State.linkOf_setLink_self, State.frameBody_frame (by simp [stage])
          (Nat.le_of_succ_le_succ most)]
      congr 1
      rw [← stage, ← empty]
      exact State.setLink_linkOf s l
    exact congrArg (fun t => Host.Outcome.next t.finish) completes

end Sys2Proof.Machine
end

section
/-! PROOF. Frames that are no request (R169, R171, R194). -/

namespace Sys2Proof.Machine

variable {l : Connector} {kind : Byte} {params : List Byte} {r : Request} {s : State}

/-! ### What a frame spells (R194, R195) -/

theorem length_of_entryOfBytes {bytes : List Byte} {x : EntryForm} (spells : entryOfBytes bytes = some x) :
    bytes.length = 21 := by
  unfold entryOfBytes at spells
  split at spells
  · rfl
  · cases spells

/-- R194: a frame spells only a request of its own KIND, with as many parameter bytes. -/
theorem parseRequest_some (spells : parseRequest kind params = some r) :
    requestCode r = kind ∧ (requestParams r).length = params.length := by
  have named {n : Nat} {c : Byte} (is : kind.toNat = n) (code : c.toNat = n) : c = kind :=
    BitVec.eq_of_toNat_eq (code.trans is.symm)
  unfold parseRequest at spells
  split at spells
  case h_6 i bytes _ _ _ _ =>
    unfold requestOfEntry at spells
    split at spells
    case h_3 => cases spells
    all_goals
      next is =>
        obtain ⟨x, entry, rfl⟩ := Option.map_eq_some_iff.mp spells
        exact ⟨named is rfl, congrArg Nat.succ (length_of_entryOfBytes entry).symm⟩
  all_goals
    first | unfold requestOf0 at spells | unfold requestOf1 at spells | unfold requestOf2 at spells
          | unfold requestOf3 at spells | unfold requestOf4 at spells
    split at spells <;> cases spells
    all_goals
      next is => exact ⟨named is rfl, rfl⟩

/-- R194: the request kinds are 01h to 21h. -/
theorem requestCode_range (r : Request) : 1 ≤ (requestCode r).toNat ∧ (requestCode r).toNat ≤ 0x21 := by
  cases r <;> simp [requestCode]

theorem parseRequest_unknown (unknown : kind.toNat = 0 ∨ 0x21 < kind.toNat) : parseRequest kind params = none := by
  refine Option.eq_none_iff_forall_ne_some.mpr fun r spells => ?_
  obtain ⟨least, most⟩ := requestCode_range r
  rw [(parseRequest_some spells).1] at least most
  omega

theorem parseRequest_length (length : ∀ r, requestCode r = kind → (requestParams r).length ≠ params.length) :
    parseRequest kind params = none := by
  refine Option.eq_none_iff_forall_ne_some.mpr fun r spells => ?_
  obtain ⟨code, fits⟩ := parseRequest_some spells
  exact length r code fits

/-! ### Its answer (R169, R171) -/

theorem takeRequest_listens (hears : listens l s) (answer : State → Answer) :
    s.takeRequest l kind params answer =
      let a := answer (s.takeSlot l (kind :: params))
      a.state.queueReply l ⟨replyKind kind, a.code, a.data⟩ := by
  unfold State.takeRequest
  rw [if_neg hears.1, if_neg (by simpa [State.slotsFull] using hears.2)]

theorem malformedAnswer_eq (l : Connector) (kind : Byte) (s : State) :
    malformedAnswer l kind s =
      s.answer (if (s.linkOf l).binding = none ∧ kind ≠ 1 then .notBound else .badRequest) := by
  unfold malformedAnswer
  by_cases unbound : (s.linkOf l).binding = none ∧ kind ≠ 1
  · rw [if_pos unbound, if_pos (by simpa using unbound)]
  · rw [if_neg unbound, if_neg (by simpa using unbound)]

/-- R169: a frame that spells no request is answered, and changes its link alone. -/
theorem answers_malformed {c : Instr} (ran : exec c s = .next (s.frameBody l (kind :: params)).finish)
    (hears : listens l s) (fits : params.length ≤ 47) (none : parseRequest kind params = none) :
    answers c l (kind :: params) s (if (s.linkOf l).binding = .none ∧ kind ≠ 1 then .notBound else .badRequest)
      (fun _ => []) [] [] fun _ => True := by
  have framed : s.frame l kind params = s.takeRequest l kind params (malformedAnswer l kind) := by
    unfold State.frame
    rw [none]
  refine ⟨s.takeSlot l (kind :: params), ?_, taken_takeSlot _ _ _, trivial,
    (takeSlot_changes l _ s).mono (by simpa using link_mem_everyLink l)⟩
  rw [ran, State.frameBody_frame hears.1 fits, framed, takeRequest_listens hears, malformedAnswer_eq, binding_takeSlot]
  rfl

/-- Settles O5: neither kind of frame spells a request, and what spells none has one answer. -/
theorem malformedFramesAnswered : Obligations.MalformedFramesAnswered := by
  intro l kind rest s hears fits code answered
  refine ⟨fun unknown => ?_, fun length => ?_, rfl⟩
  · have none := parseRequest_unknown (params := rest) unknown
    exact ⟨answers_malformed rfl hears fits none, answers_malformed rfl hears fits none⟩
  · exact answers_malformed rfl hears fits (parseRequest_length length)

end Sys2Proof.Machine
end

section
/-! PROOF. The checks that every request passes (R169 to R173). -/

namespace Sys2Proof.Machine

variable {l : Connector} {s : State}

/-! ### The subjects that codes name (R171, step 4) -/

theorem isSome_projectorCode (c : Byte) : (Projector.ofCode c).isSome = decide (c.toNat ≤ 1) := by
  rw [Bool.eq_iff_iff, Projector.ofCode_isSome, decide_eq_true_eq]

theorem Shutter.code_of_ofCode {c : Byte} {sh : Shutter} (named : Shutter.ofCode c = some sh) : c = sh.code := by
  revert c
  cases sh <;> decide

theorem isSome_shutterCode (c : Byte) : (Shutter.ofCode c).isSome = decide (c.toNat ≤ 3) := by
  revert c
  decide

theorem isSome_roleCode (c : Byte) : (Role.ofCode c).isSome = decide (c.toNat ≤ 2) := by
  revert c
  decide

/-- R194: the identifiers 01h to 12h ask for a projector. -/
theorem isSome_paramCodes (x p : Byte) :
    (ParamRef.ofCodes x p).isSome = (decide (p.toNat ≤ 1) || !decide (1 ≤ x.toNat ∧ x.toNat ≤ 18)) := by
  unfold ParamRef.ofCodes
  split
  · next zero => simp [zero]
  · next other =>
    split
    · next q found =>
      have row : x.toNat - 1 < 18 := (List.getElem?_eq_some_iff.mp found).1
      have proj : 1 ≤ x.toNat ∧ x.toNat ≤ 18 := by omega
      simp [proj, isSome_projectorCode]
    · next absent =>
      have rows : 18 ≤ x.toNat - 1 := List.getElem?_eq_none_iff.mp absent
      have dev : ¬(1 ≤ x.toNat ∧ x.toNat ≤ 18) := by omega
      simp [dev]

/-! ### LNK's checks of a request other than IDENT (R171, R173) -/

/-- R171, R173: a request passes LNK's checks, with a subject that its codes name or do not, and with its own rights. -/
def Screened (l : Connector) (r : Request) : Prop :=
  ∃ (α : Type) (subject : Option α) (rights : Rights α) (owner : α → State → Answer),
    requestAnswer l r = screen l subject rights owner ∧ subject.isSome = r.named ∧
      ∀ role x, subject = some x → rights role x = r.permits role

theorem decide_own_eq (role : Role) (p : Projector) :
    decide (role.own = some p) = role.own.any fun x => decide (x.code = p.code) := by
  cases role <;> cases p <;> rfl

theorem decide_port_eq (role : Role) (sh : Shutter) :
    decide (role.own.map Projector.port = some sh) = role.own.any fun x => decide (x.port.code = sh.code) := by
  cases role <;> cases sh <;> rfl

theorem request_screened (l : Connector) {r : Request} (other : requestCode r ≠ 1) : Screened l r := by
  have own {r : Request} {p : Byte} {owner : Projector → State → Answer}
      (answer : requestAnswer l r = screen l (Projector.ofCode p) ownProjector owner)
      (named : r.named = decide (p.toNat ≤ 1))
      (right : ∀ role, r.permits role = role.own.any fun x => decide (x.code = p)) : Screened l r := by
    refine ⟨_, _, _, _, answer, by rw [named, isSome_projectorCode], fun role x code => ?_⟩
    rw [right, Projector.code_of_ofCode code]
    exact decide_own_eq role x
  have ownOrHouse {r : Request} {p : Byte} {owner : Projector → State → Answer}
      (answer : requestAnswer l r = screen l (Projector.ofCode p) ownOrHouse owner)
      (named : r.named = decide (p.toNat ≤ 1))
      (right : ∀ role, r.permits role = (decide (role = .h) || role.own.any fun x => decide (x.code = p))) :
      Screened l r := by
    refine ⟨_, _, _, _, answer, by rw [named, isSome_projectorCode], fun role x code => ?_⟩
    rw [right, Projector.code_of_ofCode code, ← decide_own_eq]
    rfl
  have whole {r : Request} {rights : Rights Unit} {owner : State → Answer}
      (answer : requestAnswer l r = screen l (some ()) rights fun _ => owner) (named : r.named = true)
      (right : ∀ role, rights role () = r.permits role) : Screened l r :=
    ⟨_, _, _, _, answer, named.symm, fun role _ _ => right role⟩
  cases r with
  | ident x => exact absurd rfl other
  | threaded | unthread | strike | arcOff | carbonLoad => exact own rfl rfl fun _ => rfl
  | arm | disarm | stop | clear => exact ownOrHouse rfl rfl fun _ => rfl
  | shutterRaise sh =>
    refine ⟨_, _, _, _, rfl, isSome_shutterCode sh, fun role x code => ?_⟩
    rw [Request.permits, Shutter.code_of_ofCode code, ← decide_port_eq]
    rfl
  | shutterDrop sh => exact ⟨_, _, _, _, rfl, isSome_shutterCode sh, fun _ _ _ => rfl⟩
  | paramRead x p | paramWrite x p v => exact ⟨_, _, _, _, rfl, isSome_paramCodes x p, fun _ _ _ => rfl⟩
  | status | planRead | startShow | changeNow | lights | packRead =>
    exact whole (rights := anyRole) rfl rfl fun _ => rfl
  | planWrite | planInsert | planDelete | planSkip | planHeader | fireReset | boothReset | busReset | packWrite
  | packForget | routeRead | routeWrite | intermissionExtend => exact whole (rights := houseOnly) rfl rfl fun _ => rfl

variable {α : Type} {subject : Option α} {rights : Rights α} {owner : α → State → Answer} {role : Role} {x : α}

theorem screen_unbound (unbound : (s.linkOf l).binding = none) :
    screen l subject rights owner s = s.answer .notBound := by
  unfold screen
  rw [unbound]

theorem screen_unnamed (bound : (s.linkOf l).binding.isSome = true) (unnamed : subject.isSome = false) :
    screen l subject rights owner s = s.answer .badRequest := by
  obtain ⟨role, bound⟩ := Option.isSome_iff_exists.mp bound
  unfold screen
  rw [bound, Option.isNone_iff_eq_none.mp (Option.isSome_eq_false_iff.mp unnamed)]

theorem screen_refuses (bound : (s.linkOf l).binding = some role) (right : rights role x = false) :
    screen l (some x) rights owner s = s.answer .notPermitted := by
  unfold screen
  rw [bound]
  exact if_neg (by simp [right])

theorem identAnswer_badRequest {c : Byte} (unnamed : decide (c.toNat ≤ 2) = false) :
    identAnswer l c s = s.answer .badRequest := by
  rw [← isSome_roleCode] at unnamed
  unfold identAnswer
  rw [Option.isNone_iff_eq_none.mp (Option.isSome_eq_false_iff.mp unnamed)]

/-! ### Requests that find no slot (R169, R170) -/

theorem request_brk (stage : (s.linkOf l).stage = .brk) (r : Request) : s.request l r = s := by
  unfold State.request State.takeRequest
  rw [if_pos stage]

theorem request_overrun (stage : (s.linkOf l).stage ≠ .brk) (full : 2 ≤ (s.linkOf l).slots.length) (r : Request) :
    s.request l r = s.overrunFrame l := by
  unfold State.request State.takeRequest
  rw [if_neg stage]
  exact if_pos (decide_eq_true (p := Config.slotLimit ≤ (s.linkOf l).slots.length) full)

/-- Settles O6: every request but IDENT passes `screen`, whose three refusals are above, and the request that finds no
slot is dropped before it. -/
theorem requestChecks : Obligations.RequestChecks := by
  refine ⟨fun l r s hears => ⟨fun unbound other => ?_, fun unnamed bound => ?_, fun role bound named right => ?_⟩,
    fun l r s => ⟨fun stage => ?_, fun stage full => ?_⟩⟩
  · obtain ⟨α, subject, rights, owner, answer, -⟩ := request_screened l other
    exact repliesOnly_of hears (by rw [answer, screen_unbound (by simpa using unbound)]; rfl)
  · refine repliesOnly_of hears ?_
    by_cases other : requestCode r = 1
    · cases r with
      | ident c => exact identAnswer_badRequest unnamed
      | _ => simp [requestCode] at other
    · obtain ⟨α, subject, rights, owner, answer, isNamed, -⟩ := request_screened l other
      rw [answer, screen_unnamed (by simpa using bound.resolve_right other) (isNamed.trans unnamed)]
      rfl
  · have other : requestCode r ≠ 1 := by
      rintro ident
      cases r with
      | ident c => cases right
      | _ => simp [requestCode] at ident
    obtain ⟨α, subject, rights, owner, answer, isNamed, hasRight⟩ := request_screened l other
    obtain ⟨x, rfl⟩ := Option.isSome_iff_exists.mp (isNamed.trans named)
    refine repliesOnly_of hears ?_
    rw [answer, screen_refuses (by simpa using bound) ((hasRight role x rfl).trans right)]
    rfl
  · exact idles_of (request_brk stage r) (exec_request l r s)
  · exact exec_becomes (exec_request l r s) (request_overrun stage full r)

end Sys2Proof.Machine
end

section
/-! PROOF. The link events and IDENT (R169 to R172, R176). -/

namespace Sys2Proof.Machine

variable {l : Connector} {s : State}

/-! ### Breaks, marks and ends of frames (R169, R170, R176) -/

namespace State

theorem markReturns_brk (stage : (s.linkOf l).stage = .brk) :
    s.markReturns l = s.setLink l { s.linkOf l with stage := .hunt } := if_pos stage

theorem markReturns_up (stage : (s.linkOf l).stage ≠ .brk) : s.markReturns l = s := if_neg stage

theorem frameSent_idle (tx : (s.linkOf l).tx = .idle) : s.frameSent l = s := by
  unfold State.frameSent
  rw [tx]

theorem frameSent_notice {frame : List Byte} (tx : (s.linkOf l).tx = .notice frame) :
    s.frameSent l = s.setLink l { s.linkOf l with tx := .idle } := by
  unfold State.frameSent
  rw [tx]
  rfl

theorem frameSent_reply {frame : List Byte} (tx : (s.linkOf l).tx = .reply frame) :
    s.frameSent l = s.setLink l { s.linkOf l with tx := .idle, slots := (s.linkOf l).slots.tail } := by
  unfold State.frameSent
  rw [tx]
  rfl

theorem linkReset_changes (s : State) (l : Connector) : changesOnly everyLink s (s.linkReset l) := by
  have broken := (setLink_changes s l brokenLink).mono (ys := everyLink) (by simpa using link_mem_everyLink l)
  unfold State.linkReset
  dsimp only
  split <;> [exact broken.trans (notify_changes _ _ _ _); exact broken]

/-- R172: ROLE_CHANGE is not placed on the queue of the link it reports. -/
theorem linkOf_roleNotice_self (s : State) (l : Connector) (r : Role) (change : Byte) :
    (s.roleNotice l r change).linkOf l = s.linkOf l := by
  refine (linkOf_route ..).trans ?_
  unfold deliver
  split
  · rfl
  · exact if_neg (by simp [State.noticeNow])

/-- R170, R172: ROLE_CHANGE of a link whose record alone is new, at another link. -/
theorem linkOf_roleNotice_ne (s : State) {m : Connector} (other : m ≠ l) (k : Link) (r : Role) (change : Byte) :
    ((s.setLink l k).roleNotice l r change).linkOf m =
      afterNotices s m [s.noticeNow .roleChange l.code [r.code, change]] (s.linkOf m) := by
  refine (linkOf_route ..).trans ?_
  rw [linkOf_setLink_ne _ _ other]
  rfl

theorem linkReset_bound {r : Role} (bound : (s.linkOf l).binding = some r) :
    s.linkReset l = (s.setLink l brokenLink).roleNotice l r 0 := by
  unfold State.linkReset
  rw [bound]

theorem linkReset_unbound (unbound : (s.linkOf l).binding = none) : s.linkReset l = s.setLink l brokenLink := by
  unfold State.linkReset
  rw [unbound]

theorem linkOf_linkReset_self (s : State) (l : Connector) : (s.linkReset l).linkOf l = brokenLink := by
  cases binding : (s.linkOf l).binding with
  | some r =>
    rw [linkReset_bound binding]
    exact (linkOf_roleNotice_self ..).trans (linkOf_setLink_self ..)
  | none =>
    rw [linkReset_unbound binding]
    exact linkOf_setLink_self ..

end State

/-! ### IDENT (R171, R172) -/

theorem identAnswer_bound {role : Role} (bound : (s.linkOf l).binding.isSome = true) :
    identAnswer l role.code s = s.answer .alreadyBound := by
  unfold identAnswer
  rw [Role.ofCode_code]
  exact if_pos bound

theorem identAnswer_taken {role : Role} (unbound : (s.linkOf l).binding = none)
    (held : ∃ m, (s.linkOf m).binding = some role) : identAnswer l role.code s = s.answer .roleTaken := by
  unfold identAnswer
  rw [Role.ofCode_code]
  dsimp only
  rw [if_neg (by simp [unbound]), if_pos ((State.roleBound_iff s role).mpr held)]

theorem identAnswer_free {role : Role} (unbound : (s.linkOf l).binding = none)
    (free : ¬∃ m, (s.linkOf m).binding = some role) :
    identAnswer l role.code s = ⟨s.bindRole l role, .ok, [role.code]⟩ := by
  unfold identAnswer
  rw [Role.ofCode_code]
  dsimp only
  rw [if_neg (by simp [unbound]), if_neg (mt (State.roleBound_iff s role).mp free)]

theorem bindRole_takeSlot (s : State) (l : Connector) (role : Role) (body : List Byte) :
    (s.takeSlot l body).bindRole l role =
      (s.setLink l { s.linkOf l with
        binding := some role, stage := .hunt, assembly := [], slots := (s.linkOf l).slots ++ [body] }).roleNotice
          l role 1 := by
  unfold State.bindRole State.takeSlot
  rw [State.setLink_setLink, State.linkOf_setLink_self]

/-- Settles O8: the link events are the equations above; IDENT is answered on the state in which its request holds a
slot, where the bindings are those of before. -/
theorem linkRolesAndBreaks : Obligations.LinkRolesAndBreaks := by
  refine ⟨fun l s => ⟨⟨s.linkReset l, rfl, fun m => ?_, s.linkReset_changes l⟩, fun stage => ?_, fun stage => ?_,
    fun tx => ?_, fun frame tx => ?_, fun frame tx => ?_⟩, ?_⟩
  · split
    · next same =>
      subst same
      exact s.linkOf_linkReset_self m
    · next other =>
      cases binding : (s.linkOf l).binding with
      | some r =>
        rw [State.linkReset_bound binding]
        exact State.linkOf_roleNotice_ne s other _ r 0
      | none =>
        rw [State.linkReset_unbound binding]
        exact State.linkOf_setLink_ne _ _ other
  · exact exec_becomes rfl (State.markReturns_brk stage)
  · exact idles_of (State.markReturns_up stage) rfl
  · exact idles_of (State.frameSent_idle tx) rfl
  · exact exec_becomes rfl (State.frameSent_notice tx)
  · exact exec_becomes rfl (State.frameSent_reply tx)
  · intro l role s hears held
    have asked (m : Connector) : ((s.takeSlot l [1, role.code]).linkOf m).binding = (s.linkOf m).binding :=
      binding_takeSlot ..
    refine ⟨fun bound => ?_, fun unbound taken => ?_, fun unbound free => ?_⟩
    · exact repliesOnly_of hears (identAnswer_bound (asked l ▸ bound))
    · exact repliesOnly_of hears (identAnswer_taken ((asked l).trans unbound) (taken.imp fun m => (asked m).trans))
    · have answer := identAnswer_free (role := role) ((asked l).trans unbound) (by simpa only [asked] using free)
      refine ⟨(s.takeSlot l [1, role.code]).bindRole l role, ?_, fun m => ?_, ?_⟩
      · refine (exec_request l (.ident role.code) s).trans ?_
        rw [request_listens hears]
        exact congrArg (fun a : Answer => Host.Outcome.next (a.state.queueReply l ⟨0x81, a.code, a.data⟩).finish) answer
      · rw [bindRole_takeSlot]
        split
        · next same =>
          subst same
          exact (State.linkOf_roleNotice_self ..).trans (State.linkOf_setLink_self ..)
        · next other => exact State.linkOf_roleNotice_ne s other _ role 1
      · rw [bindRole_takeSlot]
        exact ((setLink_changes s l _).mono (by simpa using link_mem_everyLink l)).trans (notify_changes _ _ _ _)

end Sys2Proof.Machine
end

section
/-! PROOF. The copy of a notice at a link (R172, R178, R180, R181). -/

namespace Sys2Proof.Machine

/-! ### The kinds (R178, R180, R181) -/

theorem ofProjector_iff (x : NoticeKind) :
    x.ofProjector = true ↔ x ∈ ([.cueMotor, .cueChange, .noIncoming, .atSpeed, .slowRunup, .runupFail, .reelDone,
      .filmBreak, .motorStall, .strayFoil, .foilMissing, .arcState, .strikeFail, .carbonLow, .carbonExhausted,
      .heatStage1] : List NoticeKind) := by
  cases x <;> decide

theorem coalesces_iff (x : NoticeKind) : x.coalesces = true ↔ x = .arcState ∨ x = .shutterState ∨ x = .lightsDone := by
  simp [NoticeKind.coalesces, or_assoc]

theorem isFire_iff (x : NoticeKind) : x.isFire = true ↔ x = .fire ∨ x = .fireCleared := by simp [NoticeKind.isFire]

theorem coalesces_of_isFire {x : NoticeKind} (fire : x.isFire = true) : x.coalesces = false := by
  rcases (isFire_iff x).mp fire with rfl | rfl <;> rfl

/-! ### Who receives it (R172, R178) -/

variable {mask : BitVec 3} {n : Notice} {l : Connector} {k : Link} {r : Role}

theorem admits_iff :
    admits mask n r = true ↔
      mask.getLsbD r.bit = true ∧ (n.kind.ofProjector = true → ∀ p, r.own = some p → n.subject = p.code) := by
  unfold admits
  cases n.kind.ofProjector <;> cases r.own <;> simp

/-- R172, R178: the mask admits the role, the notice is of the role's projector or of no projector, and it is no
ROLE_CHANGE of the link itself. -/
def reachedBy (mask : BitVec 3) (n : Notice) (l : Connector) (r : Role) : Prop :=
  mask.getLsbD r.bit = true ∧ (n.kind.ofProjector = true → ∀ p, r.own = some p → n.subject = p.code) ∧
    ¬(n.kind = .roleChange ∧ n.subject = l.code)

theorem reaches_iff :
    (admits mask n r && !(decide (n.kind = .roleChange) && decide (n.subject = l.code))) = true ↔
      reachedBy mask n l r := by
  rw [Bool.and_eq_true, admits_iff, and_assoc]
  simp [reachedBy, imp_iff_not_or]

theorem deliver_unbound (unbound : k.binding = none) : deliver mask n l k = k := by
  unfold deliver
  rw [unbound]

theorem deliver_unreached (bound : k.binding = some r) (away : ¬reachedBy mask n l r) : deliver mask n l k = k := by
  unfold deliver
  rw [bound]
  exact if_neg (mt reaches_iff.mp away)

theorem deliver_reached (bound : k.binding = some r) (reached : reachedBy mask n l r) :
    deliver mask n l k = k.enqueue n := by
  unfold deliver
  rw [bound]
  exact if_pos (reaches_iff.mpr reached)

/-! ### The queue (R180, R181) -/

theorem enqueue_replaces (coalesces : n.kind.coalesces = true) (queued : k.notices.any (·.sameSubject n) = true) :
    k.enqueue n = { k with notices := k.notices.map n.refreshed } :=
  if_pos (by rw [coalesces, queued]; rfl)

/-- R180: no queued copy is replaced. -/
theorem enqueue_fresh (fresh : n.kind.coalesces = false ∨ k.notices.any (·.sameSubject n) = false) :
    k.enqueue n =
      if k.notices.length < Config.noticeLimit then { k with notices := k.notices ++ [n] }
      else if n.kind.isFire && k.notices.any (fun m => !m.kind.isFire) then
        { k with notices := displaceOldest k.notices ++ [n], lost := true }
      else { k with lost := true } :=
  if_neg (by rcases fresh with other | none <;> simp_all)

theorem enqueue_joins (fresh : n.kind.coalesces = false ∨ k.notices.any (·.sameSubject n) = false)
    (room : k.notices.length < Config.noticeLimit) : k.enqueue n = { k with notices := k.notices ++ [n] } :=
  (enqueue_fresh fresh).trans (if_pos room)

theorem enqueue_lost (fresh : n.kind.coalesces = false ∨ k.notices.any (·.sameSubject n) = false)
    (full : Config.noticeLimit ≤ k.notices.length)
    (stays : n.kind.isFire = false ∨ k.notices.all (·.kind.isFire) = true) :
    k.enqueue n = { k with lost := true } := by
  rw [enqueue_fresh fresh, if_neg (not_lt.mpr full), if_neg]
  rcases stays with other | fires
  · simp [other]
  · simpa using fun _ => List.all_eq_true.mp fires

theorem displaceOldest_eq {front rest : List Notice} {m : Notice} (other : m.kind.isFire = false)
    (fires : front.all (·.kind.isFire) = true) : displaceOldest (front ++ m :: rest) = front ++ rest := by
  unfold displaceOldest
  rw [List.eraseP_append_right _ (by simpa using fires), List.eraseP_cons_of_pos (by simp [other])]

theorem enqueue_displaces {front rest : List Notice} {m : Notice} (queue : k.notices = front ++ m :: rest)
    (full : Config.noticeLimit ≤ k.notices.length) (fire : n.kind.isFire = true) (other : m.kind.isFire = false)
    (fires : front.all (·.kind.isFire) = true) :
    k.enqueue n = { k with notices := front ++ rest ++ [n], lost := true } := by
  rw [enqueue_fresh (.inl (coalesces_of_isFire fire)), if_neg (not_lt.mpr full), if_pos, queue,
    displaceOldest_eq other fires]
  simp [fire, queue, other]

/-- Settles O9: a copy that reaches a link is what `enqueue` makes of its queue, in the four cases above. -/
theorem noticesQueued : Obligations.NoticesQueued := by
  refine ⟨fun x => ⟨ofProjector_iff x, coalesces_iff x, isFire_iff x⟩, ?_⟩
  intro mask n l k same reaches
  have same_eq : same = fun m => m.sameSubject n := by
    funext m
    exact Bool.decide_and ..
  refine ⟨deliver_unbound, fun r bound away => deliver_unreached bound away, fun r bound reached => ?_⟩
  rw [deliver_reached bound reached, same_eq]
  exact ⟨enqueue_replaces, enqueue_joins, enqueue_lost, fun front m rest queue full fire other fires =>
    enqueue_displaces queue full fire other fires⟩

end Sys2Proof.Machine
end

section
/-! PROOF. ROUTE_READ and ROUTE_WRITE (R179). -/

namespace Sys2Proof.Machine

variable {l : Connector} {r : Role} {s : State}

/-! ### The masks (R178, R179) -/

theorem NoticeKind.index_injective {j k : NoticeKind} (same : j.index = k.index) : j = k := by
  have place (x : NoticeKind) : NoticeKind.all[x.index]? = some x := by cases x <;> rfl
  exact Option.some.inj ((place j).symm.trans ((congrArg (fun i : Fin 31 => NoticeKind.all[i]?) same).trans (place k)))

theorem NoticeKind.ofCode_code (k : NoticeKind) : NoticeKind.ofCode k.code = some k := by cases k <;> rfl

theorem maskOf_setMask (s : State) (j k : NoticeKind) (mask : BitVec 3) :
    (s.setMask k mask).maskOf j = if j = k then mask else s.maskOf j := by
  have read : (s.setMask k mask).maskOf j = (s.routing.set k.index.val mask k.index.isLt)[j.index.val] := rfl
  rw [read, Vector.getElem_set]
  by_cases same : j = k
  · rw [if_pos same, if_pos (by rw [same])]
  · rw [if_neg same, if_neg fun index => same (NoticeKind.index_injective (Fin.ext index.symm))]
    rfl

/-- R179: the mask kept of one written: FIRE and FIRE_CLEARED go to every role. -/
theorem routedMask_val (k : NoticeKind) (mask : Byte) :
    (routedMask k mask).val = if k = .fire ∨ k = .fireCleared then 7 else mask.setWidth 3 := by
  unfold routedMask takeRoleMask
  by_cases fire : k = .fire ∨ k = .fireCleared
  · rw [if_pos fire, if_pos ((isFire_iff k).mpr fire)]
  · rw [if_neg fire, if_neg (mt (isFire_iff k).mp fire)]

/-- R179: a write is ADJUSTED where the mask held is not the one written. -/
theorem routedMask_adjusted (k : NoticeKind) (mask : Byte) :
    (routedMask k mask).adjusted = decide ((routedMask k mask).val.setWidth 8 ≠ mask) := by
  unfold routedMask takeRoleMask
  cases k.isFire <;> revert mask <;> decide

/-! ### The requests (R171, R173, R179) -/

theorem stationRequest_refused (body : List Byte) (h : heard l r s) (station : r ≠ .h) (owner : State → Answer) :
    screen l (some ()) houseOnly (fun _ => owner) (s.takeSlot l body) = (s.takeSlot l body).answer .notPermitted :=
  screen_refuses ((binding_takeSlot ..).trans h.1) (decide_eq_false station)

theorem routeReadAnswer_noEntry {kind : Byte} (none : NoticeKind.ofCode kind = none) :
    routeReadAnswer kind s = s.answer .noEntry := by
  unfold routeReadAnswer
  rw [none]

theorem routeReadAnswer_read (k : NoticeKind) :
    routeReadAnswer k.code s = ⟨s, .ok, [k.code, (s.maskOf k).setWidth 8]⟩ := by
  unfold routeReadAnswer
  rw [NoticeKind.ofCode_code]

theorem routeWriteAnswer_noEntry {kind mask : Byte} (none : NoticeKind.ofCode kind = none) :
    routeWriteAnswer mask kind s = s.answer .noEntry := by
  unfold routeWriteAnswer
  rw [none]

theorem routeWriteAnswer_written (k : NoticeKind) (mask : Byte) :
    routeWriteAnswer mask k.code s =
      ⟨s.setMask k (routedMask k mask).val, if (routedMask k mask).val.setWidth 8 = mask then .ok else .adjusted,
        [k.code, (routedMask k mask).val.setWidth 8]⟩ := by
  have code : okOr (routedMask k mask).adjusted =
      if (routedMask k mask).val.setWidth 8 = mask then .ok else .adjusted := by
    rw [routedMask_adjusted, okOr_decide, ite_not]
  unfold routeWriteAnswer
  rw [NoticeKind.ofCode_code]
  dsimp only
  rw [code, maskOf_setMask, if_pos rfl]

/-- Settles O11: the house's requests reach the routing table, whose masks are read and written one by one. -/
theorem routingMasks : Obligations.RoutingMasks := by
  intro l r kind mask s hears
  refine ⟨fun station => ⟨?_, ?_⟩, ?_, ?_⟩
  · exact repliesOnly_of hears.2 (stationRequest_refused _ hears station (routeReadAnswer kind))
  · exact repliesOnly_of hears.2 (stationRequest_refused _ hears station (routeWriteAnswer mask kind))
  · rintro rfl none
    exact ⟨repliesOnly_of hears.2 ((houseRequest_passes _ hears (routeReadAnswer kind)).trans
        (routeReadAnswer_noEntry none)),
      repliesOnly_of hears.2 ((houseRequest_passes _ hears (routeWriteAnswer mask kind)).trans
        (routeWriteAnswer_noEntry none))⟩
  · rintro k rfl rfl
    have reads := houseRequest_passes (requestBody (.routeRead k.code)) hears (routeReadAnswer k.code)
    have writes := houseRequest_passes (requestBody (.routeWrite k.code mask)) hears (routeWriteAnswer mask k.code)
    refine ⟨repliesOnly_of hears.2 (reads.trans (routeReadAnswer_read k)), ?_⟩
    intro kept
    have held : (routedMask k mask).val = kept := routedMask_val k mask
    rw [routeWriteAnswer_written, held] at writes
    refine grants_of (after := id) hears.2 _ writes (notified_nil fun _ => rfl) ⟨fun j => ?_, fun u n m same => ?_⟩
      ((setMask_changes _ _ _).mono (by simp))
    · exact maskOf_setMask _ j k kept
    · rw [linkOf_route, State.maskOf, same]
      rfl

end Sys2Proof.Machine
end

section
/-! PROOF. STATUS and the items of its sections (R182, R196). -/

namespace Sys2Proof.Machine

variable {l : Connector} {r : Role} {s : State}

/-! ### The sections (R182, R194) -/

theorem isSome_sectionCode (c : Byte) : (StatusSection.ofCode c).isSome = decide (c.toNat ≤ 8) := by
  revert c
  decide

theorem StatusSection.ofCode_none {sect : Byte} (beyond : 8 < sect.toNat) : StatusSection.ofCode sect = none := by
  have unnamed := isSome_sectionCode sect
  rw [decide_eq_false (not_le.mpr beyond)] at unnamed
  exact Option.isNone_iff_eq_none.mp (Option.isSome_eq_false_iff.mp unnamed)

theorem StatusSection.ofCode_some {sect : Byte} (within : sect.toNat ≤ 8) : ∃ x, StatusSection.ofCode sect = some x :=
  Option.isSome_iff_exists.mp ((isSome_sectionCode sect).trans (decide_eq_true within))

theorem statusAnswer_noEntry {sect : Byte} (beyond : 8 < sect.toNat) : statusAnswer sect s = s.answer .noEntry := by
  unfold statusAnswer
  rw [StatusSection.ofCode_none beyond]

theorem statusAnswer_read {sect : Byte} {x : StatusSection} (names : StatusSection.ofCode sect = some x) :
    statusAnswer sect s = ⟨s.freeUsed, .ok, sectionData s x⟩ := by
  unfold statusAnswer
  rw [names]

theorem statusRequest_passes (h : heard l r s) (sect : Byte) :
    requestAnswer l (.status sect) (s.takeSlot l [2, sect]) = statusAnswer sect (s.takeSlot l [2, sect]) :=
  screen_passes (rights := anyRole) (owner := fun _ => statusAnswer sect) (x := ())
    ((binding_takeSlot ..).trans h.1) rfl

/-! ### The items (R193, R196) -/

/-- R29, R196: a channel with an entry. -/
theorem remainingBytes_some {p : Projector} {rf rt : Nat} (frames : s.remaining p = some rf)
    (time : s.remainingTime p = some rt) : remainingBytes s p = half rf ++ half rt := by
  unfold remainingBytes
  rw [frames, time]

theorem remainingBytes_none {p : Projector} (entry : s.entryOf p = none) :
    remainingBytes s p = [s.freeAt 0, s.freeAt 1, s.freeAt 2, s.freeAt 3] := by
  have frames : s.remaining p = none := by rw [State.remaining, entry, Option.map_none]
  unfold remainingBytes
  rw [frames]

theorem isSome_entryOf {p : Projector} {rf : Nat} (frames : s.remaining p = some rf) :
    (s.entryOf p).isSome = true := by
  obtain ⟨e, entry, -⟩ := Option.map_eq_some_iff.mp frames
  rw [entry]
  rfl

theorem setByte_eq (xs : List Source) :
    Source.setByte xs = flagByte ([Source.heatA, .heatB, .pull1, .pull2, .loop].map fun x => xs.contains x) := by
  unfold Source.setByte flagByte
  simp only [List.map_cons, List.map_nil]
  cases xs.contains Source.heatA <;> cases xs.contains Source.heatB <;> cases xs.contains Source.pull1 <;>
    cases xs.contains Source.pull2 <;> cases xs.contains Source.loop <;> rfl

theorem contains_sourcesActive (s : State) (x : Source) : s.sourcesActive.contains x = s.sourceActive x := by
  rw [Bool.eq_iff_iff, List.contains_iff_mem, State.sourcesActive, List.mem_filter]
  exact and_iff_right (by cases x <;> decide)

theorem setByte_sourcesActive (s : State) :
    Source.setByte s.sourcesActive = flagByte [decide (s.held .a .heatThreshold < s.inputs.heat.a + 4),
      decide (s.held .b .heatThreshold < s.inputs.heat.b + 4), s.inputs.pull1, s.inputs.pull2, s.inputs.loop] := by
  simp only [setByte_eq, contains_sourcesActive]
  rfl

theorem linksStatus_eq (s : State) : linksStatus s = Connector.every.flatMap fun m => linkStatus (s.linkOf m) := by
  unfold linksStatus
  rw [List.flatMap_cons, List.flatMap_cons, List.flatMap_cons, List.flatMap_nil, List.append_nil, List.append_assoc]
  rfl

/-- R182: STATUS LINKS finds the request in its slot. -/
theorem linkStatus_takeSlot (s : State) (l m : Connector) (body : List Byte) :
    linkStatus ((s.takeSlot l body).linkOf m) =
      [(match (s.linkOf m).binding with | some q => q.code | none => 0xFF),
        byte ((s.linkOf m).slots.length + if m = l then 1 else 0), byte (s.linkOf m).replies.length,
        byte (s.linkOf m).notices.length,
        flagByte [(s.linkOf m).discard, (s.linkOf m).overrun, (s.linkOf m).lost]] := by
  by_cases own : m = l
  · subst own
    rw [State.takeSlot, State.linkOf_setLink_self]
    cases binding : (s.linkOf m).binding <;> simp [linkStatus, linkFlags, binding]
  · rw [State.takeSlot, State.linkOf_setLink_ne _ _ own, if_neg own]
    rfl

/-- Settles O10: a taken slot leaves every item but the slot count of its own link as it stood. -/
theorem statusReads : Obligations.StatusReads := by
  intro l r sect s hears data
  refine ⟨fun beyond => ?_, fun within => ?_, fun _ => ?_, fun p rf rt _ frames time => ?_, fun p _ entry => ?_,
    fun _ => ?_, fun _ => ?_, fun _ _ => rfl, fun _ => rfl, fun _ => ?_, rfl⟩
  · exact repliesOnly_of hears.2 ((statusRequest_passes hears sect).trans (statusAnswer_noEntry beyond))
  · obtain ⟨x, names⟩ := StatusSection.ofCode_some within
    exact ⟨x, names, grants_of (after := id) hears.2 _
      ((statusRequest_passes hears sect).trans (statusAnswer_read names))
      (notified_nil fun _ => rfl) trivial ((freeUsed_changes _).mono (by simp))⟩
  · change showStatus s = _
    unfold showStatus
    rcases s.token with - | - | - <;> rcases s.sound with - | - | - <;> rfl
  · change projectorStatus p s = _
    unfold projectorStatus
    rw [remainingBytes_some frames time, isSome_entryOf frames]
    rfl
  · change projectorStatus p s = _
    unfold projectorStatus
    rw [remainingBytes_none entry, entry]
    rfl
  · change fireStatus s = _
    unfold fireStatus
    rw [setByte_sourcesActive, setByte_eq]
    rfl
  · rfl
  · exact (linksStatus_eq _).trans (List.flatMap_congr fun m _ => linkStatus_takeSlot s l m [2, sect])

end Sys2Proof.Machine
end

section
/-! PROOF. Request frames and entry records, read back from their bytes (R192, R194, R195). -/

namespace Sys2Proof.Machine

/-! ### Two-byte fields (R192) -/

theorem halfOf_half (x : Half) : halfOf (byte (x.toNat / 256)) (byte x.toNat) = x := by
  apply BitVec.eq_of_toNat_eq
  simp only [halfOf, byte, BitVec.toNat_ofNat]
  omega

/-- A two-byte field sends its number's lowest 16 bits. -/
theorem half_ofNat (n : Nat) : half (BitVec.ofNat 16 n).toNat = half n := by
  have high : byte (n % 65536 / 256) = byte (n / 256) := by
    apply BitVec.eq_of_toNat_eq
    simp only [byte, BitVec.toNat_ofNat]
    omega
  have low : byte (n % 65536) = byte n := by
    apply BitVec.eq_of_toNat_eq
    simp only [byte, BitVec.toNat_ofNat]
    omega
  rw [BitVec.toNat_ofNat, half, high, low, half]

theorem toNat_byte {n : Nat} (fits : n ≤ 255) : (byte n).toNat = n :=
  (BitVec.toNat_ofNat ..).trans (Nat.mod_eq_of_lt (Nat.lt_succ_of_le fits))

theorem toNat_half {n : Nat} (fits : n ≤ 65535) : (BitVec.ofNat 16 n).toNat = n :=
  (BitVec.toNat_ofNat ..).trans (Nat.mod_eq_of_lt (Nat.lt_succ_of_le fits))

/-! ### The write form of an entry (R195) -/

theorem length_entryBytes (x : EntryForm) : (entryBytes x).length = 21 := rfl

theorem entryOfBytes_entryBytes (x : EntryForm) : entryOfBytes (entryBytes x) = some x := by
  simp only [entryBytes, actionBytes, half, List.cons_append, List.nil_append, entryOfBytes, halfOf_half]

/-! ### Requests (R194) -/

theorem length_requestParams (r : Request) : (requestParams r).length ≤ 47 := by
  cases r <;> simp [requestParams, length_entryBytes, half]

/-- R194: the frame of a request spells the request. -/
theorem parseRequest_request (r : Request) : parseRequest (requestCode r) (requestParams r) = some r := by
  cases r with
  | planWrite i x => exact congrArg (Option.map (Request.planWrite i)) (entryOfBytes_entryBytes x)
  | planInsert i x => exact congrArg (Option.map (Request.planInsert i)) (entryOfBytes_entryBytes x)
  | carbonLoad p n => exact congrArg (fun y => some (Request.carbonLoad p y)) (halfOf_half n)
  | lights mask level fade => exact congrArg (fun y => some (Request.lights mask level y)) (halfOf_half fade)
  | paramWrite x p v => exact congrArg (fun y => some (Request.paramWrite x p y)) (halfOf_half v)
  | intermissionExtend n => exact congrArg (fun y => some (Request.intermissionExtend y)) (halfOf_half n)
  | _ => rfl

/-- R169, R194: the request is taken from its frame; in BREAK neither does anything. -/
theorem State.frameBody_request (s : State) (l : Connector) (r : Request) :
    s.frameBody l (requestBody r) = s.request l r := by
  by_cases stage : (s.linkOf l).stage = .brk
  · rw [request_brk stage]
    exact if_pos stage
  · rw [requestBody, State.frameBody_frame stage (length_requestParams r), State.frame, parseRequest_request]

/-- Settles O3: the frame's body spells the request, and both commands take that request. -/
theorem requestFramesDecode : Obligations.RequestFramesDecode := fun l r s =>
  ⟨(s.request l r).finish, congrArg (fun t : State => Host.Outcome.next t.finish) (s.frameBody_request l r),
    exec_request l r s⟩

end Sys2Proof.Machine
end

section
/-! PROOF. An entry as it is sent, against the write form it is held from (R6, R7, R195). -/

namespace Sys2Proof.Machine

/-! ### The write form that sends an entry (R195) -/

def BreakForm.code : BreakForm → Byte
  | .absent => 0
  | .intermission => 1
  | .ending => 2

@[simp] theorem BreakForm.ofCode_code (x : BreakForm) : BreakForm.ofCode x.code = some x := by cases x <;> rfl

@[simp] theorem CueMethod.ofCode_code (x : CueMethod) : CueMethod.ofCode x.code = some x := by cases x <;> rfl

/-- R195: the duration sent of a break, 0 where its form has none. -/
def BreakAfter.duration : BreakAfter → Nat
  | .intermission duration _ => duration
  | .absent | .ending _ => 0

/-- R3: the lighting action of a break. -/
def BreakAfter.action : BreakAfter → Option LightAction
  | .absent => none
  | .intermission _ action | .ending action => action

/-- R195: the form of a lighting action, zeros when absent. -/
def actionForm : Option LightAction → ActionForm
  | some x => ⟨x.mask.setWidth 8, byte x.level, BitVec.ofNat 16 x.fade⟩
  | none => ⟨0, 0, 0⟩

/-- R195: the write form of an entry. -/
def entryForm (e : Entry) : EntryForm where
  label := byte e.label
  projector := e.projector.code
  feet := BitVec.ofNat 16 e.feet
  cue := e.cue.code
  lead := BitVec.ofNat 16 e.lead
  allowance := byte e.allowance
  startMarker := marker e.startAction.isSome
  startAction := actionForm e.startAction
  brkForm := e.brk.form.code
  duration := BitVec.ofNat 16 e.brk.duration
  brkMarker := marker e.brk.action.isSome
  brkAction := actionForm e.brk.action

theorem sentAction_eq (action : Option LightAction) :
    sentAction action = marker action.isSome :: actionBytes (actionForm action) := by
  cases action with
  | none => rfl
  | some x => rw [actionBytes, actionForm, half_ofNat]; rfl

theorem sentBreak_eq (brk : BreakAfter) :
    sentBreak brk = brk.form.code :: (half brk.duration ++ sentAction brk.action) := by
  have zero : half 0 = [0, 0] := rfl
  cases brk with
  | ending action => rw [BreakAfter.duration, zero]; rfl
  | _ => rfl

/-- R195: the record of an entry is its write form, and then what a write does not carry. -/
theorem sentEntry_eq (e : Entry) :
    sentEntry e = entryBytes (entryForm e) ++
      (half e.frames ++ [e.state.code, marker e.framesRun.isSome] ++ half (e.framesRun.getD 0)) := by
  simp only [sentEntry, sentBreak_eq, sentAction_eq, entryBytes, entryForm, half_ofNat, List.append_assoc,
    List.cons_append, List.nil_append]

theorem length_sentEntry (e : Entry) : (sentEntry e).length = 27 := by
  rw [sentEntry_eq, List.length_append, length_entryBytes]
  rfl

theorem take_sentEntry (e : Entry) : (sentEntry e).take 21 = entryBytes (entryForm e) := by
  rw [sentEntry_eq]
  exact List.take_left' (length_entryBytes _)

/-! ### Fields in range are held as they are written (R6, R7) -/

theorem clamp_within {lo hi n : Nat} (low : lo ≤ n) (high : n ≤ hi) : clamp lo hi n = ⟨n, false⟩ := by
  rw [clamp, if_neg low.not_gt, if_neg high.not_gt]

theorem takeLead_within {m : Nat} (low : 48 ≤ m) (high : m ≤ 480) : takeLead (BitVec.ofNat 16 m) = ⟨m, false⟩ := by
  rw [takeLead, toNat_half (by omega), if_neg (by omega), clamp_within low high]

theorem takeAllowance_within {e : Nat} (low : 8 ≤ e) (high : e ≤ 96) : takeAllowance (byte e) = ⟨e, false⟩ := by
  rw [takeAllowance, toNat_byte (by omega), if_neg (by omega), clamp_within low high]

theorem raiseLead_within {m e : Nat} (room : e + 48 ≤ m) : raiseLead m e = ⟨m, false⟩ := by
  rw [raiseLead, if_neg room.not_gt]

theorem takeMask_setWidth (mask : BitVec 4) : takeMask (mask.setWidth 8) = ⟨mask, false⟩ := by
  revert mask
  decide

theorem takeAction_form {x : LightAction} (range : x.inRange = true) :
    takeAction (actionForm (some x)) = ⟨x, false⟩ := by
  obtain ⟨level, fade⟩ : x.level ≤ 255 ∧ x.fade ≤ 600 := of_decide_eq_true range
  simp only [takeAction, actionForm, takeMask_setWidth, toNat_byte level,
    toNat_half (fade.trans (by decide : 600 ≤ 65535)), clamp_within (Nat.zero_le _) fade, Bool.or_self]

theorem takeMarkedAction_form {action : Option LightAction} (range : action.all LightAction.inRange = true) :
    takeMarkedAction (marker action.isSome) (actionForm action) = ⟨action, false⟩ := by
  cases action with
  | none => rfl
  | some x =>
    have taken := takeAction_form (x := x) range
    simp [takeMarkedAction, takeMarker, marker, taken]

theorem takeBreak_form (kept : BreakForm) {e : Entry} (range : e.brk.inRange = true) :
    takeBreak kept (entryForm e) = ⟨e.brk, false⟩ := by
  unfold takeBreak
  simp only [entryForm, BreakForm.ofCode_code, takeCode]
  cases brk : e.brk with
  | absent => rfl
  | intermission duration action =>
    obtain ⟨most, actionRange⟩ : duration ≤ 1800 ∧ action.all LightAction.inRange = true := by
      simpa [brk, BreakAfter.inRange] using range
    simp only [BreakAfter.form, BreakAfter.duration, BreakAfter.action, takeMarkedAction_form actionRange,
      toNat_half (most.trans (by decide : 1800 ≤ 65535)), clamp_within (Nat.zero_le _) most, Bool.or_self]
  | ending action =>
    have actionRange : action.all LightAction.inRange = true := by simpa [brk, BreakAfter.inRange] using range
    simp only [BreakAfter.form, BreakAfter.action, takeMarkedAction_form actionRange, Bool.or_self]

/-- R6, R7: an entry in range is held of its own write form, whatever an unlisted code would keep. -/
theorem takeEntry_form (proj : Projector) (cue : CueMethod) (kept : BreakForm) {e : Entry} (range : e.inRange = true) :
    takeEntry proj cue kept e.state e.framesRun (entryForm e) = ⟨e, false⟩ := by
  obtain ⟨⟨numbers, start⟩, brk⟩ : (_ ∧ e.startAction.all LightAction.inRange = true) ∧ e.brk.inRange = true := by
    simpa only [Entry.inRange, Bool.and_eq_true, decide_eq_true_eq] using range
  obtain ⟨label1, label99, feet100, feet2200, lead48, lead480, allowance8, allowance96, room⟩ := numbers
  have label : clamp 1 99 (entryForm e).label.toNat = ⟨e.label, false⟩ := by
    rw [entryForm, toNat_byte (by omega), clamp_within label1 label99]
  have feet : clamp 100 2200 (entryForm e).feet.toNat = ⟨e.feet, false⟩ := by
    rw [entryForm, toNat_half (by omega), clamp_within feet100 feet2200]
  have lead : takeLead (entryForm e).lead = ⟨e.lead, false⟩ := takeLead_within lead48 lead480
  have allowance : takeAllowance (entryForm e).allowance = ⟨e.allowance, false⟩ :=
    takeAllowance_within allowance8 allowance96
  have projector : takeCode (Projector.ofCode (entryForm e).projector) proj = ⟨e.projector, false⟩ := by
    rw [entryForm, Projector.ofCode_code, takeCode]
  have method : takeCode (CueMethod.ofCode (entryForm e).cue) cue = ⟨e.cue, false⟩ := by
    rw [entryForm, CueMethod.ofCode_code, takeCode]
  have action : takeMarkedAction (entryForm e).startMarker (entryForm e).startAction = ⟨e.startAction, false⟩ :=
    takeMarkedAction_form start
  simp only [takeEntry, label, projector, feet, method, lead, allowance, raiseLead_within room, action,
    takeBreak_form kept brk, Bool.or_self]

/-- Settles O13: the first 21 bytes of the record are the entry's write form, and an entry in range is held of that. -/
theorem entryRecordRoundTrip : Obligations.EntryRecordRoundTrip := fun e proj cue kept range =>
  ⟨length_sentEntry e, entryForm e, by rw [take_sentEntry, entryOfBytes_entryBytes], (take_sentEntry e).symm,
    takeEntry_form proj cue kept range⟩

end Sys2Proof.Machine
end
